-- ==== Sys2Proof/Word.lean ====
section
/-! DEFINITION. The word types of the block (00 "Numbers and registers": registers are 32 bits wide) and the shape of
a sparse map: a list of key and value pairs. -/

namespace Sys2Proof

/-- A register, a word-file entry or a Pocket row. -/
abbrev Word := BitVec 32

/-- A byte of an addressed store. -/
abbrev Byte := BitVec 8

/-- An instruction slot (R38). -/
abbrev Slot := BitVec 64

/-- A sparse map: key and value pairs with strictly rising keys, none holding the value an unlisted key reads as. -/
abbrev SMap (α : Type) := List (Nat × α)

end Sys2Proof
end

