-- ==== Sys2Proof/Syntax.lean ====
section
/-! DEFINITION. The commands the block takes: the operand types, and one constructor of `Instr` for each row of
spec/opcode_table.json. -/

namespace Sys2Proof

/-- A physical cluster: Weave die, column 0 to 32 and row 0 to 31 (R13, R29). -/
structure ClusterId where
  die : Fin 4
  col : Fin 33
  row : Fin 32
deriving DecidableEq, Repr

/-- The number of a cluster, 0 to 4,223. -/
def ClusterId.idx (c : ClusterId) : Nat := c.die.val * 1056 + c.col.val * 32 + c.row.val

/-- The operation of a WORD instruction (R59). -/
inductive WordOp where
  | add | addc | sub | subb | cmp | sll | srl | sra | rol | sllv | srlv | srav | sel | mov | mulu | muls
deriving DecidableEq, Repr

/-- The operand fields of a WORD instruction (R57). -/
structure WordFields where
  af   : BitVec 10
  bf   : BitVec 10
  df   : BitVec 10
  asrc : BitVec 2
  bsrc : BitVec 2
  imm5 : BitVec 5
  fw   : Bool
  nwb  : Bool
  csel : BitVec 7
deriving DecidableEq, Repr

/-- An instruction of a BP (R38 to R68). `reserved` is a reserved WOP, MOP or COP, executed as NOP (R72). -/
inductive BpInstr where
  | lut (tt : BitVec 16) (opa opb opc opd : BitVec 9) (sw dw : Bool)
  | luts (tt : BitVec 16) (opa opb opc : BitVec 9) (sw dw : Bool) (saddr : BitVec 16)
  | word (op : WordOp) (f : WordFields)
  | drd (desc : BitVec 16) (awf dwf : BitVec 10) (wcond : Bool) (wcbit : BitVec 7)
  | dwr (desc : BitVec 16) (awf dwf : BitVec 10) (wcond : Bool) (wcbit : BitVec 7) (mwf : BitVec 10) (masken : Bool)
  | ldsw (swa : BitVec 11) (dwf : BitVec 10)
  | stsw (swa : BitVec 11) (swf : BitVec 10) (wcond : Bool) (wcbit : BitVec 7)
  | nop
  | setpg (page : BitVec 6)
  | brk (uncond : Bool) (index : BitVec 7)
  | mark (tag : BitVec 16) (uncond : Bool) (index : BitVec 7)
  | dfence
  | reserved
deriving DecidableEq, Repr

/-- What a stitch may meet in silicon that the block's own state does not decide: a spare-check mismatch (R372), a
residue-check failure of the word unit (R369), and an uncorrectable instruction slot of one physical BP (R73). -/
structure StitchFaults where
  spareMismatch : Bool
  residue       : Bool
  instrEcc      : Option (Fin 33)
deriving DecidableEq, Repr

/-- The issue key of R64 and the ordering key of R135: (ecycle, stitch, logical BP). -/
structure IssueKey where
  ecycle : Nat
  stitch : Nat
  bp     : Nat
deriving DecidableEq, Repr

/-- A switch entry as the loader re-derives it for a moved cluster (R155, R156): which free tracks a re-derived route takes is
the loader's choice. -/
structure SwitchChange where
  c     : ClusterId
  entry : Fin 188
  value : BitVec 16
deriving DecidableEq, Repr

/-- A request as its initiator hands it to its interface (R300 to R303). `flits` is the number of its flits, and `reserved`
says that a reserved bit is not 0. -/
structure NocRequest where
  src      : BitVec 8
  part     : Fin 16
  sys      : Bool
  tag      : Fin 1024
  vc       : Fin 4
  addr     : BitVec 48
  lenM1    : BitVec 12
  flits    : Nat
  reserved : Bool
  data     : List (BitVec 8)
  mask     : List (BitVec 8)
deriving DecidableEq, Repr

/-- A line as a stack's cells hold it, clean under ECC (R272, R277): ciphertext (its first byte in the low bits), integrity
tag and key-generation bit. -/
structure RawLine where
  cipher : BitVec 512
  tag    : BitVec 24
  gen    : Bool
deriving DecidableEq, Repr

/-- What the controller meets at the read of one line (R274, R279). `clean`: the line as it was written. `tagRetry`, `tagFail`
and `tagLost`: the tag fails at the first read, and the second read verifies, fails too, or is uncorrectable. `raw`: the cells
hold this line now, whatever was written; `second` is what the second read returns, none an uncorrectable error. -/
inductive LineRead where
  | clean | corrected | uncorrectable | tagRetry | tagFail | tagLost
  | raw (first : RawLine) (second : Option RawLine)
deriving DecidableEq, Repr

/-- What a target meets as it serves a request that the block's own state does not decide: the host's answer to an outbound
request, the word read at a peer's identity page (R481), and what the reads of the request's lines meet, by line number within
the request; a line not named is clean (R274, R279). -/
inductive AccessEvent where
  | clean
  | lines (l : List (Nat × LineRead))
  | hostData (bytes : List (BitVec 8))
  | hostError (code : BitVec 32)
  | peerWord (w : BitVec 64)
deriving DecidableEq, Repr

/-- A step in the life of a request: its initiator issues it, or its target serves the request of an initiator's tag. -/
inductive RequestStep where
  | issue (r : NocRequest)
  | serve (src : BitVec 8) (tag : Fin 1024) (e : AccessEvent)
deriving DecidableEq, Repr

/-- A store whose uncorrectable errors call for a rollback (R369). -/
inductive DesignStore where
  | state | data | wordFile | pocket
deriving DecidableEq, Repr

/-- What raises a rollback that the block's own state does not show (R369): a cluster that already holds, or an uncorrectable
error that a read of state memory, data memory, the word file or a Pocket bank has met. -/
inductive RollCause where
  | held
  | memory (c : ClusterId) (m : DesignStore)
deriving DecidableEq, Repr

/-- What a cluster self-test finds (R373): the physical BPs that fail, bit 32 the spare, and whether the word unit fails. -/
structure SelfTest where
  bps  : BitVec 33
  word : Bool
deriving DecidableEq, Repr

/-- An item that is reloaded (R369): an instruction slot of a physical BP, a descriptor entry of the cluster's die, or the
cluster's schedule memory, SWITCH entries and block. -/
inductive ReloadItem where
  | slot (phys : Fin 33) (n : Fin 8192)
  | desc (n : Fin 65536)
  | schedule
deriving DecidableEq, Repr

/-- What the read of an area of HBM meets: the line of the area at which it meets it, every other line being clean. -/
structure AreaRead where
  line : Nat
  read : LineRead
deriving DecidableEq, Repr

/-- A track of a die-to-die bridge found faulty (R121): the owner die and index of the bridge, whether the direction leaves the
owner, and the track. -/
structure BridgeTrack where
  die    : Fin 4
  bridge : Fin 3
  out    : Bool
  track  : Fin 768
deriving DecidableEq, Repr

/-- What a scrubber finds in the unit it reads (R369, R376). -/
inductive ScrubFind where
  | clean
  | corrected (d : Fin 4)
  | item (c : ClusterId) (i : ReloadItem)
  | memory (c : ClusterId) (m : DesignStore)
  /-- A frame of the Cuff, and what the reads of its two golden copies meet. -/
  | frame (fa : BitVec 32) (first second : AreaRead)
  | line (d : Fin 4) (n : Fin 754974720)
deriving DecidableEq, Repr

/-- A copy of a scrubber's parameters as an upset has left it (R377, R378). -/
structure ScrubUpset where
  k      : Fin 6
  copy   : Fin 3
  period : BitVec 17
  mode   : Bool
  range  : BitVec 32
deriving DecidableEq, Repr

/-- A sensor of the module (R402): a thermal sensor of a die, 4 for the Yoke die; a stack's temperature; a core rail's voltage
or current; VIN; the input current. -/
inductive Sensor where
  | temp (d : Fin 5) (n : Fin 16)
  | hbmTemp (d : Fin 4)
  | railV (d : Fin 5)
  | railI (d : Fin 5)
  | vin
  | iin
deriving DecidableEq, Repr

/-- Who accesses a Collar register: controller A, controller B, or any other initiator (R399). -/
inductive ColBy where
  | a | b | other
deriving DecidableEq, Repr


/-- The path of a dictionary access (R423, R424, R430): ORIGIN 0 PF mirror, 1 VF mirror, 2 PAP, 3 mailbox, 4 configuration
store, 5 Collar firmware; the partition whose scope it has, or none on a module-owner path; over a secure mailbox
channel. -/
structure Path where
  origin : Fin 6
  part   : Option (Fin 16)
  secure : Bool
deriving DecidableEq, Repr

/-- What the boot ROM's check answers for the bytes of an access that writes a firmware image: whether the image's signature
verifies under the vendor key. -/
structure Crypto where
  sigOk : Bool
deriving DecidableEq, Repr

/-- A time counter, and the PTP domain it tracks (R463, R465). -/
inductive TimeCtr where
  | a | b
deriving DecidableEq, Repr

/-- What a received Ethernet frame asks (R447): ARP for an IPv4 address, Neighbour Discovery for an IPv6 address, an ICMP or
ICMPv6 echo request to one, the end of a DHCPv4 exchange, or anything else. -/
inductive EthBody where
  | arp (target : BitVec 32)
  | neighbour (target : BitVec 128)
  | echo4 (dst : BitVec 32) (data : List Byte)
  | echo6 (dst : BitVec 128) (data : List Byte)
  | dhcpAck (addr gateway : BitVec 32) (plen : Fin 33)
  | other (bytes : List Byte)
deriving DecidableEq, Repr

/-- A received Ethernet frame (R446, R447): its bytes, its 802.1Q tag, and what it asks. -/
structure EthFrame where
  len  : BitVec 16
  vlan : Option (BitVec 12)
  body : EthBody
deriving DecidableEq, Repr

/-- A received PTP message (R465, R466): the port, versionPTP, whether messageLength is the bytes received, domainNumber,
sequenceId, sourcePortIdentity, correctionField (signed, in 2^-16 ns) and the time it carries (TIME80). -/
structure PtpMsg where
  port       : Fin 2
  version    : BitVec 4
  lengthOk   : Bool
  domain     : BitVec 8
  seqId      : BitVec 16
  source     : BitVec 80
  correction : BitVec 64
  stamp      : BitVec 80
deriving DecidableEq, Repr

/-- What an Announce says of its master (R466): the fields the default best-master algorithm compares, currentUtcOffset, the
ptpTimescale flag, and whether the standard qualifies the message. -/
structure PtpMaster where
  priority1    : BitVec 8
  clockClass   : BitVec 8
  accuracy     : BitVec 8
  variance     : BitVec 16
  priority2    : BitVec 8
  grandmaster  : BitVec 64
  steps        : BitVec 16
  utcOffset    : BitVec 16
  ptpTimescale : Bool
  qualified    : Bool
deriving DecidableEq, Repr

/-- A PAP datagram from a client (R450): its source (address × 2^16 + UDP port), SESSION and SEQ, and the 16 bytes of
its GCM tag as one big-endian number (R451), which a datagram outside a session has none of. -/
structure PapMsg where
  src     : BitVec 144
  session : BitVec 32
  seq     : BitVec 32
  tag     : BitVec 128
deriving DecidableEq, Repr

/-- An entry reference (R452): INDEX and SUB. -/
structure EntryRef where
  index : BitVec 16
  sub   : BitVec 8
deriving DecidableEq, Repr

/-- A violation of R461 that shows in the datagram alone. -/
inductive PapFault where
  | version
  | type (t : BitVec 8)
  | length
  | surplus
  | range
  | tag
deriving DecidableEq, Repr

/-- A direction of a mailbox channel (R492): toward the module, or toward the host. -/
inductive MbxDir where
  | h2m | m2h
deriving DecidableEq, Repr

/-- The side that makes an access to a channel page (R492): host software, or Collar. -/
inductive MbxSide where
  | host | module
deriving DecidableEq, Repr

/-- A DMA descriptor as host software left it (R487), bytes 0x00 to 0x17. -/
structure DmaDesc where
  addr : BitVec 64
  ctl  : BitVec 32
  rsvd : BitVec 32
  moff : BitVec 64
deriving DecidableEq, Repr

/-- Who makes a register access (R399, R479, R482): a Collar controller, 0 or 1; the host through a function, 0 the physical
function and p + 1 virtual function p; or a hardware engine. -/
inductive RegBy where
  | col (n : Fin 2)
  | host (f : Fin 17)
  | engine
deriving DecidableEq, Repr

/-- What a register write may take from outside the block: the word read at a peer's identity page (R481), and what the
cryptographic units answer (R442). -/
structure RegSide where
  idWord : BitVec 64
  crypto : Crypto
deriving DecidableEq, Repr

/-- A write that takes nothing from outside. -/
def noSide : RegSide := ⟨0, ⟨false⟩⟩

/-- Who makes an inbound memory request: the root port that enumerated the module, or another requester ID (R481). -/
inductive PcieFrom where
  | root
  | rid (r : BitVec 16)
deriving DecidableEq, Repr

/-- The BARs of a function (R34). -/
inductive PcieBar where
  | bar0 | bar2 | bar4
deriving DecidableEq, Repr

/-- An inbound PCIe memory request: who makes it, the function (0 physical, p + 1 virtual function p), BAR, offset, a read's
length, and a write's bytes. -/
structure MemRequest where
  src  : PcieFrom
  fn   : Fin 17
  bar  : PcieBar
  off  : BitVec 26
  len  : BitVec 13
  data : Option (List (BitVec 8))
deriving DecidableEq, Repr

/-- What the request for a restore names (R285): the object, its epoch and the key ID. -/
structure RestoreRequest where
  object : BitVec 32
  epoch  : BitVec 64
  key    : BitVec 16
deriving DecidableEq, Repr

/-- A brake cause that ends by itself (R506, R510): a die's rail current, or the input current. -/
inductive BrakeCause where
  | rail (d : Fin 4)
  | input
deriving DecidableEq, Repr

/-- What the tests of a start find beyond repair or repair (R521, R522): dies and stacks to map out, failed BPs (physical BP 32
the spare), clusters to retire, and HBM rows repaired by stack and pseudo-channel. -/
structure StartFaults where
  dies     : BitVec 4
  hbms   : BitVec 4
  bps      : List (ClusterId × Fin 33)
  clusters : List ClusterId
  rows     : List (Fin 4 × Fin 64)
deriving DecidableEq, Repr

/-- One command: one row of spec/opcode_table.json with its operands. Each docstring gives the row's mnemonic and rule. -/
inductive Instr where
  /-- STITCH (R79). -/
  | stitch (c : ClusterId) (f : StitchFaults)
  /-- LUT (R45). -/
  | lut (c : ClusterId) (bp : Fin 32)
  /-- LUTS (R46). -/
  | luts (c : ClusterId) (bp : Fin 32)
  /-- ADD (R59). -/
  | add (c : ClusterId) (bp : Fin 32)
  /-- ADDC (R59). -/
  | addc (c : ClusterId) (bp : Fin 32)
  /-- SUB (R59). -/
  | sub (c : ClusterId) (bp : Fin 32)
  /-- SUBB (R59). -/
  | subb (c : ClusterId) (bp : Fin 32)
  /-- CMP (R59). -/
  | cmp (c : ClusterId) (bp : Fin 32)
  /-- SLL (R59). -/
  | sll (c : ClusterId) (bp : Fin 32)
  /-- SRL (R59). -/
  | srl (c : ClusterId) (bp : Fin 32)
  /-- SRA (R59). -/
  | sra (c : ClusterId) (bp : Fin 32)
  /-- ROL (R59). -/
  | rol (c : ClusterId) (bp : Fin 32)
  /-- SLLV (R59). -/
  | sllv (c : ClusterId) (bp : Fin 32)
  /-- SRLV (R59). -/
  | srlv (c : ClusterId) (bp : Fin 32)
  /-- SRAV (R59). -/
  | srav (c : ClusterId) (bp : Fin 32)
  /-- SEL (R59). -/
  | sel (c : ClusterId) (bp : Fin 32)
  /-- MOV (R59). -/
  | mov (c : ClusterId) (bp : Fin 32)
  /-- MULU (R59). -/
  | mulu (c : ClusterId) (bp : Fin 32)
  /-- MULS (R59). -/
  | muls (c : ClusterId) (bp : Fin 32)
  /-- WORD_RESULT_WRITE (R64). -/
  | wordResultWrite (c : ClusterId) (key : IssueKey)
  /-- DRD (R135). -/
  | drd (c : ClusterId) (bp : Fin 32) (badEntry : Bool)
  /-- DWR (R135). -/
  | dwr (c : ClusterId) (bp : Fin 32) (badEntry : Bool)
  /-- LDSW (R67). -/
  | ldsw (c : ClusterId) (bp : Fin 32)
  /-- STSW (R67). -/
  | stsw (c : ClusterId) (bp : Fin 32)
  /-- NOP (R68). -/
  | nop (c : ClusterId) (bp : Fin 32)
  /-- SETPG (R68). -/
  | setpg (c : ClusterId) (bp : Fin 32)
  /-- BRK (R69). -/
  | brk (c : ClusterId) (bp : Fin 32)
  /-- MARK (R68). -/
  | mark (c : ClusterId) (bp : Fin 32)
  /-- DFENCE (R140). -/
  | dfence (c : ClusterId) (bp : Fin 32)
  /-- RELOAD_DONE (R369). -/
  | reloadDone (c : ClusterId) (item : ReloadItem) (first second : AreaRead)
  /-- POCKET_RETURN (R142). -/
  | pocketReturn (c : ClusterId) (key : IssueKey)
  /-- HBM_RETURN (R138). -/
  | hbmReturn (c : ClusterId) (key : IssueKey) (r : LineRead)
  /-- HBM_WRITE_ACK (R144). -/
  | hbmWriteAck (c : ClusterId) (key : IssueKey) (r : LineRead)
  /-- DMEM_ERROR_RESPONSE (R146). -/
  | dmemErrorResponse (c : ClusterId) (key : IssueKey) (uncorrectable : Bool)
  /-- LDSW_RESULT_WRITE (R63). -/
  | ldswResultWrite (c : ClusterId) (key : IssueKey)
  /-- CREDIT_GRANT (R180). -/
  | creditGrant (die : Fin 4) (ns : Nat)
  /-- SWEEP_END (R89). -/
  | sweepEnd (c : ClusterId)
  /-- ECYCLE_COMPLETE (R89). -/
  | ecycleComplete (p : Fin 16)
  /-- PROGRESS_REPORT (R87). -/
  | progressReport (c partner : ClusterId) (count : Nat)
  /-- WARP_HOP (R113). -/
  | warpHop (c : ClusterId) (entry : Fin 188)
  /-- BRIDGE_GROUP (R86). -/
  | bridgeGroup (c : ClusterId) (track : Fin 28) (upset : BitVec 48)
  /-- WARP_GROUP_ARRIVE (R109). -/
  | warpGroupArrive (c : ClusterId) (slot : Fin 32)
  /-- STALL_WATCHDOG_EXPIRY (R94). -/
  | stallWatchdogExpiry (c : ClusterId)
  /-- RATE_METER_WINDOW (R98). -/
  | rateMeterWindow (d : Fin 4)
  /-- DELAY_MONITOR_SAMPLE (R98). -/
  | delayMonitorSample (d : Fin 5) (m : Fin 32) (ps : BitVec 16)
  /-- RATE_CONTROL_LOOP (R99). -/
  | rateControlLoop (d : Fin 4)
  /-- BP_CL_CTRL_CLRCNT (R55). -/
  | bpClCtrlClrcnt (c : ClusterId)
  /-- BP_SWEEP_LEN_WRITE (R76). -/
  | bpSweepLenWrite (c : ClusterId) (w : Word)
  /-- BP_PTRBASE_WRITE (R76). -/
  | bpPtrbaseWrite (c : ClusterId) (bp : Fin 32) (w : Word)
  /-- BP_SPARE_MAP_WRITE (R74). -/
  | bpSpareMapWrite (c : ClusterId) (w : Word)
  /-- BP_STALL_CLR (R96). -/
  | bpStallClr (c : ClusterId)
  /-- WRP_CL_CTRL_CLR (R124). -/
  | wrpClCtrlClr (c : ClusterId)
  /-- BRG_SPARE_WRITE (R127). -/
  | brgSpareWrite (die : Fin 4) (bridge : Fin 3) (spare : Fin 24) (out : Bool) (w : Word)
  /-- DMEM_DESC_W3_COMMIT (R151). -/
  | dmemDescW3Commit (die : Fin 4) (w3 : Word)
  /-- DMEM_FILL_GO (R148). -/
  | dmemFillGo (die : Fin 4)
  /-- FILL_DONE (R148). -/
  | fillDone (die : Fin 4)
  /-- DMEM_CTRL_CLRCNT (R139). -/
  | dmemCtrlClrcnt (die : Fin 4)
  /-- RD (R302). -/
  | rd (r : RequestStep)
  /-- WR (R303). -/
  | wr (r : RequestStep)
  /-- WRM (R303). -/
  | wrm (r : RequestStep)
  /-- MSG (R306). -/
  | msg (r : RequestStep)
  /-- RDRESP (R311). -/
  | rdresp (node : BitVec 8) (tag : Fin 1024) (gen : Fin 4)
  /-- WRACK (R311). -/
  | wrack (node : BitVec 8) (tag : Fin 1024) (gen : Fin 4)
  /-- ERR (R309). -/
  | err (node : BitVec 8) (tag : Fin 1024) (gen : Fin 4)
  /-- ROUTER_FORWARD (R305). -/
  | routerForward (router : Fin 65) (port : Fin 32) (vc : Fin 4) (codeError : Bool)
  /-- NOC_REQUEST_TIMEOUT (R310). -/
  | nocRequestTimeout (node : BitVec 8) (tag : Fin 1024)
  /-- TAG_QUARANTINE_EXPIRY (R311). -/
  | tagQuarantineExpiry (node : BitVec 8) (tag : Fin 1024)
  /-- NOC_TIMEOUT_WRITE (R310). -/
  | nocTimeoutWrite (us : BitVec 20)
  /-- NOC_RT_SWAP (R313). -/
  | nocRtSwap (router : BitVec 7)
  /-- RT_SWAP_DONE (R313). -/
  | rtSwapDone
  /-- NOC_CLRERR (R309). -/
  | nocClrerr
  /-- NOC_CLRSTAT (R319). -/
  | nocClrstat
  /-- DOMAIN_SLEEP (R317). -/
  | domainSleep (k : Fin 193)
  /-- DOMAIN_GATED (R317). -/
  | domainGated (k : Fin 193)
  /-- DOMAIN_WAKE (R317). -/
  | domainWake (k : Fin 193)
  /-- DOMAIN_AWAKE (R317). -/
  | domainAwake (k : Fin 193)
  /-- HBM_REFRESH (R275). -/
  | hbmRefresh (d : Fin 4)
  /-- INTEGRITY_HALT (R282). -/
  | integrityHalt (d : Fin 4) (line : Fin 754974720)
  /-- PPR_REPAIR (R389). -/
  | pprRepair (d : Fin 4) (pc : Fin 64)
  /-- PC_RETIRE (R276). -/
  | pcRetire (d : Fin 4) (pc : Fin 64)
  /-- PC_COPY_DONE (R276). -/
  | pcCopyDone (d : Fin 4)
  /-- CREATE (R293). -/
  | create (p : Fin 16) (w : Path)
  /-- CREATE_FILL_DONE (R293). -/
  | createFillDone (p : Fin 16)
  /-- DESTROY (R294). -/
  | destroy (p : Fin 16) (w : Path)
  /-- KS_NONCE_READ (R288). -/
  | ksNonceRead (p : Fin 16)
  /-- KS_OPEN (R288). -/
  | ksOpen (p : Fin 16) (bytes : List (BitVec 8)) (w : Path)
  /-- KS_WRAP_CFG (R288). -/
  | ksWrapCfg (p : Fin 16) (bytes : List (BitVec 8)) (w : Path)
  /-- KS_WRAP_SECTOR (R290). -/
  | ksWrapSector (p : Fin 16) (bytes : List (BitVec 8)) (w : Path)
  /-- KS_CLOSE (R288). -/
  | ksClose (p : Fin 16) (w : Path)
  /-- KS_SESSION_TIMEOUT (R288). -/
  | ksSessionTimeout (p : Fin 16)
  /-- LINE_ROLL (R289). -/
  | lineRoll (p : Fin 16) (w : Path)
  /-- LINE_KEY_RETIRE (R289). -/
  | lineKeyRetire (p : Fin 16)
  /-- SECTOR_RETIRE (R290). -/
  | sectorRetire (p : Fin 16) (w : Path)
  /-- SEAM_FRAME_SEND (R202). -/
  | seamFrameSend (port : Fin 16)
  /-- DATA_FRAME (R200). -/
  | dataFrame (port : Fin 16) (lane : Fin 5) (word : BitVec 20) (ws : List (BitVec 64)) (fec : Bool)
  /-- SEAM_VALUE_INJECT (R200). -/
  | seamValueInject (ch : Fin 3072) (upset : BitVec 48)
  /-- IDLE_FRAME (R188). -/
  | idleFrame (port : Fin 16) (lane : Fin 5) (word : BitVec 20) (ws : List (BitVec 64)) (fec : Bool)
  /-- NAK (R202). -/
  | nak (port : Fin 16) (lane : Fin 5) (word : BitVec 20) (ws : List (BitVec 64)) (fec : Bool)
  /-- LOST_FRAME_DETECT (R202). -/
  | lostFrameDetect (port : Fin 16)
  /-- NAK_RESEND_TIMEOUT (R202). -/
  | nakResendTimeout (port : Fin 16)
  /-- MAPCHK (R210). -/
  | mapchk (port : Fin 16) (lane : Fin 5) (word : BitVec 20) (ws : List (BitVec 64)) (fec : Bool)
  /-- RESUME (R208). -/
  | resume (port : Fin 16) (lane : Fin 5) (word : BitVec 20) (ws : List (BitVec 64)) (fec : Bool)
  /-- RESUME_POINT (R208). -/
  | resumePoint (port : Fin 16) (lane : Fin 5) (word : BitVec 20) (ws : List (BitVec 64)) (fec : Bool)
  /-- RESUME_END (R208). -/
  | resumeEnd (port : Fin 16) (lane : Fin 5) (word : BitVec 20) (ws : List (BitVec 64)) (fec : Bool)
  /-- HALT_FRAME (R211). -/
  | haltFrame (port : Fin 16) (lane : Fin 5) (word : BitVec 20) (ws : List (BitVec 64)) (fec : Bool)
  /-- PEER_HALT_FRAME (R211). -/
  | peerHaltFrame (port : Fin 16) (lane : Fin 5) (word : BitVec 20) (ws : List (BitVec 64)) (fec : Bool)
  /-- LANE_WINDOW_END (R203). -/
  | laneWindowEnd (port : Fin 16) (lane : Fin 5) (uncorr corr : Nat)
  /-- LANE_MOVE (R203). -/
  | laneMove (port : Fin 16)
  /-- LANE_TRAIN_DONE (R203). -/
  | laneTrainDone (port : Fin 16) (lane : Fin 5) (ok : Bool)
  /-- LANE_STANDBY_RESTORE (R203). -/
  | laneStandbyRestore (port : Fin 16) (lane : Fin 5)
  /-- SEAM_RETRAIN (R204). -/
  | seamRetrain (port : Fin 16)
  /-- SEAM_LINK_UP (R210). -/
  | seamLinkUp (port : Fin 16) (lanes : BitVec 5) (anew : Bool)
  /-- SEAM_DOWN_TIMEOUT (R204). -/
  | seamDownTimeout (port : Fin 16)
  /-- SEAM_CTRL_EN_WRITE (R214). -/
  | seamCtrlEnWrite (port : Fin 16) (en : Bool)
  /-- SEAM_CLRCNT (R213). -/
  | seamClrcnt (port : Fin 16)
  /-- BRIDGE_CAPTURE (R235). -/
  | bridgeCapture (slot : Fin 32)
  /-- BRIDGE_OUT_TAKE (R235). -/
  | bridgeOutTake (slot : Fin 32)
  /-- BRIDGE_BIND (R238). -/
  | bridgeBind (slot : Fin 32)
  /-- BRIDGE_MOVE (R242). -/
  | bridgeMove (slot : Fin 32)
  /-- TRANSACTOR_RX_BEAT (R243). -/
  | transactorRxBeat (slot : Fin 32)
  /-- TRANSACTOR_TX_BEAT (R243). -/
  | transactorTxBeat (slot : Fin 32)
  /-- DRIVER_CONFLICT (R225). -/
  | driverConflict (row : Fin 32) (span : Fin 4) (line : Fin 16) (enabled : BitVec 12)
  /-- VIO_CHANGE (R231). -/
  | vioChange (bank : Fin 16) (meas : Fin 4)
  /-- BANK_CONFIG_TAKE (R231). -/
  | bankConfigTake (bank : Fin 16)
  /-- CUFF_CLRCNT (R225). -/
  | cuffClrcnt
  /-- STREAM_ARRIVED (R253). -/
  | streamArrived (p : Fin 16) (e : AccessEvent)
  /-- STAGE_TIMEOUT (R253). -/
  | stageTimeout (p : Fin 16)
  /-- CFG_NOP (R250). -/
  | cfgNop (p : Fin 16)
  /-- FAR (R250). -/
  | far (p : Fin 16)
  /-- WRITE (R250). -/
  | write (p : Fin 16)
  /-- ZERO (R250). -/
  | zero (p : Fin 16)
  /-- REGIONS (R250). -/
  | regions (p : Fin 16)
  /-- PATTERN (R183). -/
  | pattern (p : Fin 16)
  /-- KEY_ROLL (R258). -/
  | keyRoll (p : Fin 16)
  /-- COMMIT (R250). -/
  | commit (p : Fin 16) (ch : List (List SwitchChange))
  /-- STREAM_COMMIT (R260). -/
  | streamCommit (p : Fin 16) (ch : List (List SwitchChange)) (bad : Option Nat)
  /-- REGION_RELEASE (R266). -/
  | regionRelease (p : Fin 16)
  /-- LOAD_WAIT_END (R183). -/
  | loadWaitEnd (p : Fin 16)
  /-- INIT_N_CHANGE (R268). -/
  | initNChange (high : Bool)
  /-- DONE_RISE (R269). -/
  | doneRise
  /-- DONE_FALL (R270). -/
  | doneFall
  /-- CFG_DONE_RELEASE (R269). -/
  | cfgDoneRelease (release : Bool)
  /-- DONE_HOLD_TIMEOUT (R269). -/
  | doneHoldTimeout (r : Fin 16)
  /-- HEM_ENABLE (R328). -/
  | hemEnable
  /-- HEM_DISABLE (R328). -/
  | hemDisable
  /-- HEM_ARM (R328). -/
  | hemArm
  /-- SWEV (R328). -/
  | swev
  /-- HEM_EVENT (R329). -/
  | hemEvent (event : Fin 24)
  /-- HEM_OVERFLOW_SEND (R331). -/
  | hemOverflowSend
  /-- HEM_RATE_TICK (R321). -/
  | hemRateTick
  /-- ACQ_TAKE_ECYCLE (R341). -/
  | acqTakeEcycle (p : Fin 16)
  /-- ACQ_ARM (R344). -/
  | acqArm (u : Fin 16)
  /-- ACQ_STOP (R344). -/
  | acqStop (u : Fin 16)
  /-- FORCE (R352). -/
  | force (u : Fin 16)
  /-- TRIG_IN_PULSE (R348). -/
  | trigInPulse (k : Fin 4) (width : Nat)
  /-- ACQ_TIMER_EXPIRY (R351). -/
  | acqTimerExpiry (u : Fin 16) (k : Fin 4)
  /-- ACQ_REARM_DONE (R356). -/
  | acqRearmDone (u : Fin 16)
  /-- TRIG_OUT_PULSE_END (R362). -/
  | trigOutPulseEnd (k : Fin 4)
  /-- FIRE (R364). -/
  | fire (pair : Fin 4) (ecyc : BitVec 16) (group : BitVec 4)
  /-- BUS_ARM (R364). -/
  | busArm (pair : Fin 4) (group : BitVec 4)
  /-- DISARM (R364). -/
  | disarm (pair : Fin 4) (group : BitVec 4)
  /-- BUS_FRAME_SEND (R363). -/
  | busFrameSend (pair : Fin 4) (lost : Bool)
  /-- ROLLBACK (R386). -/
  | rollback (p : Fin 16) (cause : RollCause)
  /-- ROLLBACK_DRAINED (R386). -/
  | rollbackDrained (p : Fin 16) (ch : List (List SwitchChange)) (faulty : List BridgeTrack) (slot first second : AreaRead)
  /-- SELF_TEST_DONE (R373). -/
  | selfTestDone (c : ClusterId) (found : SelfTest)
  /-- REPLAY_PASSES_FAULT (R386). -/
  | replayPassesFault (p : Fin 16)
  /-- CHECKPOINT_COMMIT (R381). -/
  | checkpointCommit (p : Fin 16)
  /-- CHECKPOINT_SPILL (R383). -/
  | checkpointSpill (p : Fin 16)
  /-- SCRUB_STEP (R376). -/
  | scrubStep (k : Fin 6) (found : ScrubFind)
  /-- VOTER_TICK (R377). -/
  | voterTick (upsets : List ScrubUpset)
  /-- SCRUB_PARAM_REWRITE (R378). -/
  | scrubParamRewrite
  /-- PHASE_DROP (R390). -/
  | phaseDrop (rail : Fin 5)
  /-- RENEW (R396). -/
  | renew (n : Fin 2)
  /-- LEASE_GRANT (R397). -/
  | leaseGrant
  /-- YIELD (R398). -/
  | yieldLease (src : ColBy)
  /-- LEASE_EXPIRY (R398). -/
  | leaseExpiry
  /-- LEASE_NONE_TIMEOUT (R400). -/
  | leaseNoneTimeout
  /-- COL_SELF_WRITE (R397). -/
  | colSelfWrite (n : Fin 2) (request ready : Bool)
  /-- LOCKSTEP_FAIL (R395). -/
  | lockstepFail (n : Fin 2)
  /-- CONTROLLER_BOOT (R412). -/
  | controllerBoot (n : Fin 2)
  /-- SENSOR_SAMPLE (R402). -/
  | sensorSample (x : Sensor) (v : BitVec 16)
  /-- SNS_CAL (R404). -/
  | snsCal (kind : Fin 4) (d : Fin 8) (n : Fin 32)
  /-- SENSOR_CAL_DONE (R404). -/
  | sensorCalDone (kind : Fin 2) (d : Fin 5) (n : Fin 32)
  /-- LOG_PROGRAM (R408). -/
  | logProgram (eraseFails : Bool)
  /-- CONFIG_STORE_WRITE (R411). -/
  | configStoreWrite
  /-- FW_IMAGE (R414). -/
  | fwImage (bytes : List (BitVec 8)) (sigOk : Bool) (w : Path)
  /-- FW_START (R414). -/
  | fwStart (w : Path)
  /-- FW_READY_TIMEOUT (R414). -/
  | fwReadyTimeout
  /-- FW_CONFIRM_EXPIRY (R414). -/
  | fwConfirmExpiry
  /-- FW_ABORT (R418). -/
  | fwAbort (w : Path)
  /-- BLOW (R413). -/
  | blow (src : ColBy)
  /-- RESET_OTHER (R413). -/
  | resetOther (src : ColBy) (onceEn onceSlot : Bool)
  /-- COL_RECOVERY (R415). -/
  | colRecovery (len16 index : BitVec 16)
  /-- RECOVERY_CHUNK_DONE (R415). -/
  | recoveryChunkDone (sigOk : Bool)
  /-- OD_READ (R426). -/
  | odRead (w : Path) (index : BitVec 16) (sub : BitVec 8) (off len : BitVec 32)
  /-- OD_WRITE (R426). -/
  | odWrite (w : Path) (index : BitVec 16) (sub : BitVec 8) (off : BitVec 32) (bytes : List (BitVec 8)) (x : Crypto)
  /-- OD_DESCRIBE (R442). -/
  | odDescribe (w : Path) (index : BitVec 16) (sub : BitVec 8)
  /-- COL_OD_CMD_GO (R442). -/
  | colOdCmdGo (f : Option (Fin 16)) (c : Fin 16) (v : BitVec 32) (x : Crypto)
  /-- CLAMP_CLEAR (R432). -/
  | clampClear (w : Path)
  /-- LOG_READ (R410). -/
  | logRead (w : Path)
  /-- RUN (R439). -/
  | run (p : Fin 16)
  /-- PAUSE (R439). -/
  | pause (p : Fin 16)
  /-- STEP (R439). -/
  | step (p : Fin 16)
  /-- STOP_ECYCLE_WRITE (R439). -/
  | stopEcycleWrite (p : Fin 16) (v : BitVec 64) (w : Path)
  /-- SHUTDOWN (R527). -/
  | shutdown (w : Path)
  /-- ETH_FRAME_RX (R447). -/
  | ethFrameRx (q : Fin 2) (f : EthFrame)
  /-- ETH_LINK_CHANGE (R446). -/
  | ethLinkChange (q : Fin 2) (link : Fin 3)
  /-- ETH_FAILOVER (R448). -/
  | ethFailover
  /-- HELLO (R454). -/
  | hello (src : BitVec 144) (seq : BitVec 32) (role part : BitVec 8)
  /-- OPEN (R454). -/
  | openSession (m : PapMsg) (body : List (BitVec 8))
  /-- CHALLENGE_LAPSE (R454). -/
  | challengeLapse (session : BitVec 32)
  /-- CLOSE (R455). -/
  | closeSession (m : PapMsg)
  /-- PAP_SESSION_TIMEOUT (R455). -/
  | papSessionTimeout (session : BitVec 32)
  /-- PAP_READ (R456). -/
  | papRead (m : PapMsg) (refs : List EntryRef)
  /-- PAP_WRITE (R456). -/
  | papWrite (m : PapMsg) (items : List (EntryRef × List (BitVec 8))) (x : Crypto)
  /-- SEG_READ (R457). -/
  | segRead (m : PapMsg) (e : EntryRef) (off : BitVec 32) (len : BitVec 16)
  /-- SEG_WRITE (R457). -/
  | segWrite (m : PapMsg) (e : EntryRef) (off : BitVec 32) (bytes : List (BitVec 8)) (x : Crypto)
  /-- DESCRIBE (R452). -/
  | describe (m : PapMsg) (e : EntryRef)
  /-- SUBSCRIBE (R459). -/
  | subscribe (m : PapMsg) (subId mode : BitVec 8) (period : BitVec 16) (refs : List EntryRef)
  /-- UNSUBSCRIBE (R459). -/
  | unsubscribe (m : PapMsg) (subId : BitVec 8)
  /-- NOTIFY (R459). -/
  | notify (session : BitVec 32) (subId : Fin 8)
  /-- ECHO (R452). -/
  | echo (m : PapMsg) (bytes : List (BitVec 8))
  /-- PAP_VIOLATION (R461). -/
  | papViolation (m : PapMsg) (f : PapFault) (bytes : List (BitVec 8))
  /-- ANNOUNCE (R466). -/
  | announce (m : PtpMsg) (x : PtpMaster)
  /-- PTP_SYNC (R466). -/
  | ptpSync (m : PtpMsg) (twoStep : Bool)
  /-- FOLLOW_UP (R466). -/
  | followUp (m : PtpMsg)
  /-- DELAY_RESP (R466). -/
  | delayResp (m : PtpMsg)
  /-- DELAY_REQ_SEND (R471). -/
  | delayReqSend (t : TimeCtr) (seqId : BitVec 16)
  /-- MASTER_LOST (R466). -/
  | masterLost (t : TimeCtr)
  /-- TIME_SWITCH (R468). -/
  | timeSwitch (w : Path)
  /-- SLEW_DONE (R468). -/
  | slewDone (t : TimeCtr)
  /-- SPLIT_SAMPLE (R469). -/
  | splitSample
  /-- TIME_MANUAL (R464). -/
  | timeManual (v : BitVec 80) (w : Path)
  /-- SET_A (R464). -/
  | setA
  /-- SET_B (R464). -/
  | setB
  /-- TIME_INC_WRITE (R463). -/
  | timeIncWrite (t : TimeCtr) (v : BitVec 32)
  /-- TIME_CAPTURE (R463). -/
  | timeCapture
  /-- TXQ_POP (R471). -/
  | txqPop
  /-- ALARM_ARM (R474). -/
  | alarmArm (k : Fin 8) (v : Bool) (w : Path)
  /-- ALARM_FIRE (R472). -/
  | alarmFire (k : Fin 8)
  /-- DMAQ_ENABLE (R485). -/
  | dmaqEnable (q : Fin 1024) (fn : Fin 17) (w : BitVec 32)
  /-- DMAQ_ABORT (R491). -/
  | dmaqAbort (q : Fin 1024)
  /-- DMAQ_TAIL_WRITE (R486). -/
  | dmaqTailWrite (q : Fin 1024) (tail : BitVec 17)
  /-- DMA_DESCRIPTOR (R489). -/
  | dmaDescriptor (q : Fin 1024) (d : DmaDesc) (bytes : List (BitVec 8)) (e : AccessEvent) (req : RestoreRequest)
  /-- DESCRIPTOR_WRITEBACK (R487). -/
  | descriptorWriteback (q : Fin 1024)
  /-- FUNCTION_LEVEL_RESET (R480). -/
  | functionLevelReset (fn : Fin 17)
  /-- PCIE_PERST (R540). -/
  | pciePerst (link : BitVec 32)
  /-- PCIE_MEM_REQUEST (R479). -/
  | pcieMemRequest (r : MemRequest) (x : RegSide) (err : Option (BitVec 32))
  /-- PEER_WINDOW_ENABLE (R481). -/
  | peerWindowEnable (k : Fin 8) (base : BitVec 22) (idWord : BitVec 64)
  /-- MBX_LOCK_CLAIM (R493). -/
  | mbxLockClaim (c : Fin 64) (d : MbxDir) (token : BitVec 16) (side : MbxSide)
  /-- MBX_LOCK_RELEASE (R492). -/
  | mbxLockRelease (c : Fin 64) (d : MbxDir) (token : BitVec 16) (side : MbxSide)
  /-- POST (R493). -/
  | post (c : Fin 64) (d : MbxDir) (countM1 : BitVec 4) (side : MbxSide)
  /-- ACK (R493). -/
  | ack (c : Fin 64) (d : MbxDir) (side : MbxSide)
  /-- PEER_POST (R494). -/
  | peerPost (c : Fin 8) (ws : List Word) (countM1 : BitVec 4)
  /-- DOORBELL_SET (R497). -/
  | doorbellSet (c : Fin 64) (dst : MbxSide) (w : Word)
  /-- DOORBELL_CLEAR (R497). -/
  | doorbellClear (c : Fin 64) (dst : MbxSide) (w : Word)
  /-- DOORBELL_MASK_WRITE (R497). -/
  | doorbellMaskWrite (c : Fin 64) (dst : MbxSide) (w : Word)
  /-- MBX_CROSSED (R499). -/
  | mbxCrossed (c : Fin 64)
  /-- MBX_REQUEST (R500). -/
  | mbxRequest (c : Fin 64) (x : Crypto)
  /-- VIN_VALID (R504). -/
  | vinValid (strap : Fin 16)
  /-- VIN_LOCKOUT (R528). -/
  | vinLockout (deep : Bool)
  /-- VIN_WARN (R528). -/
  | vinWarn
  /-- VIN_RECOVER (R528). -/
  | vinRecover
  /-- INPUT_OVERCURRENT (R506). -/
  | inputOvercurrent
  /-- OVERCURRENT (R506). -/
  | overcurrent
  /-- RAIL_OVERCURRENT (R510). -/
  | railOvercurrent (d : Fin 4)
  /-- BRAKE_RELEASE (R512). -/
  | brakeRelease (cause : BrakeCause)
  /-- POWER_CAP_LOOP (R513). -/
  | powerCapLoop
  /-- PWR_CREDIT_WRITE (R511). -/
  | pwrCreditWrite (d : Fin 4) (n : BitVec 16)
  /-- PWR_VCORE_WRITE (R508). -/
  | pwrVcoreWrite (rail : Fin 5) (mv : BitVec 10)
  /-- THERMAL_TRIP (R515). -/
  | thermalTrip (part : Fin 9)
  /-- THERMAL_TRIP_CLEAR (R515). -/
  | thermalTripClear (part : Fin 9)
  /-- THERMAL_SHUTDOWN (R516). -/
  | thermalShutdown
  /-- SHUTDOWN_RAILS_OFF (R516). -/
  | shutdownRailsOff
  /-- BLOCK_IDLE_GATE (R518). -/
  | blockIdleGate (k : Fin 64)
  /-- PORST (R525). -/
  | porst (ns : Nat)
  /-- TACK (R519). -/
  | tack
  /-- BASTE (R520). -/
  | baste (okA okB : Bool) (f : StartFaults)
  /-- FIT (R521). -/
  | fit (f : StartFaults) (mv0 mv1 mv2 mv3 : BitVec 10)
  /-- REFCLK_LOSS (R524). -/
  | refclkLoss
  /-- REFCLK_RETURN (R524). -/
  | refclkReturn
  /-- REFCLK_LOST (R524). -/
  | refclkLost
  /-- RC_READ (R5). -/
  | rcRead (a : BitVec 49) (src : RegBy)
  /-- LO_CAPTURE_READ (R96). -/
  | loCaptureRead (a : BitVec 49) (src : RegBy)
  /-- REGISTER_WRITE (R5). -/
  | registerWrite (a : BitVec 49) (v : BitVec 32) (src : RegBy) (x : RegSide)
  /-- REFCLK_ARRIVAL (R523). -/
  | refclkArrival
  /-- PORST_N_RELEASE (R520). -/
  | porstNRelease (strap : Fin 16)
  /-- LANE_ALIGNMENT_LOST (R203). -/
  | laneAlignmentLost (port : Fin 16) (lane : Fin 5)
  /-- MBX_SESSION_TIMEOUT (R502). -/
  | mbxSessionTimeout (c : Fin 8)
  /-- TRIGGER_BUS_BAD_FRAME (R363). -/
  | triggerBusBadFrame (pair : Fin 4)
  /-- PCIE_LINK_ERROR (R478). -/
  | pcieLinkError (uncorrectable : Bool)
  /-- FUSE_BLOW_DONE (R413). -/
  | fuseBlowDone
deriving DecidableEq, Repr

end Sys2Proof
end

