-- ==== Sys2Proof/Machine/Crc.lean ====
section
/-! DEFINITION. CRC-32 with the polynomial and bit order of IEEE 802.3 (06, "The pattern file"), and lists of little-endian
bytes. -/

namespace Sys2Proof.Machine

/-- `n` bits of the CRC register shifted out, least significant first. -/
def crcShift (n : Nat) (c : BitVec 32) : BitVec 32 :=
  match n with
  | 0 => c
  | n + 1 => crcShift n (if c.getLsbD 0 then (c >>> 1) ^^^ 0xEDB88320#32 else c >>> 1)

/-- The CRC register after a byte string. -/
def crcRun (c : BitVec 32) (bs : List Byte) : BitVec 32 :=
  match bs with
  | [] => c
  | b :: rest => crcRun (crcShift 8 (c ^^^ b.setWidth 32)) rest

/-- CRC-32 of a byte string. -/
def crc32 (bs : List Byte) : Nat := (~~~ crcRun 0xFFFFFFFF#32 bs).toNat

/-- `v` as `n` little-endian bytes (R9). -/
def leBytes (n v : Nat) : List Byte :=
  match n with
  | 0 => []
  | n + 1 => BitVec.ofNat 8 v :: leBytes n (v / 256)

/-- A little-endian byte string as a number (R9). -/
def leNat (bs : List Byte) : Nat :=
  match bs with
  | [] => 0
  | b :: rest => b.toNat + 256 * leNat rest

/-- `n` bytes of a list from offset `a`; bytes beyond its end read as 0. -/
def bytesAt (bs : List Byte) (a n : Nat) : List Byte :=
  let l := (bs.drop a).take n
  l ++ List.replicate (n - l.length) 0

/-- The little-endian number of `n` bytes at offset `a` of a list. -/
def leAt (bs : List Byte) (a n : Nat) : Nat := leNat (bytesAt bs a n)

end Sys2Proof.Machine
end

