-- ==== Sys2Proof/Machine/Crypto.lean ====
section
/-! DEFINITION. The cryptographic functions that the chapters name and other standards define (R249, R258, R277, R284, R288):
AES-256 (FIPS 197), XTS-AES-256 (IEEE 1619), AES-CMAC (SP 800-38B), AES-GCM (SP 800-38D), AES key wrap (SP 800-38F), SHA-384
(FIPS 180-4), and the curve P-384 with ECDSA (FIPS 186) and the one-step key derivation of SP 800-56C. Their tables and
constants are the standards' own (assumption 77). Byte strings are lists of numbers below 256. -/

namespace Sys2Proof.Machine

/-! ## Byte strings -/

/-- The number that a byte string spells, most significant byte first. -/
def beNat (l : List Nat) : Nat := l.foldl (fun n b => n * 256 + b) 0

/-- `n` bytes of a number, least significant first. -/
def natLE (n v : Nat) : List Nat := (List.range n).map fun i => v / 256 ^ i % 256

/-- `n` bytes of a number, most significant first. -/
def natBE (n v : Nat) : List Nat := (natLE n v).reverse

/-- The number that a byte string spells, least significant byte first. -/
def leNumber (l : List Nat) : Nat := beNat l.reverse

/-- Byte by byte exclusive or. -/
def xorBytes (a b : List Nat) : List Nat := List.zipWith (fun x y => x ^^^ y) a b

/-- A byte string cut into pieces of `n`, at most `fuel` of them. -/
def pieces (n fuel : Nat) (l : List Nat) : List (List Nat) :=
  match fuel, l with
  | 0, _ => []
  | _, [] => []
  | fuel + 1, l => l.take n :: pieces n fuel (l.drop n)

/-- A byte string cut into blocks of 16. -/
def blocks16 (l : List Nat) : List (List Nat) := pieces 16 ((l.length + 15) / 16) l

/-- A byte string of numbers as bytes, and back. -/
def toBytes (l : List Nat) : List Byte := l.map (BitVec.ofNat 8)
def ofBytes (l : List Byte) : List Nat := l.map BitVec.toNat

/-! ## AES-256 -/

/-- The substitution table of AES. Value `x` at bits [8x + 7:8x]. -/
def aesSboxTable : Nat :=
  0xC072A49CAFA2D4ADF04759FA7DC982CA76ABD7FE2B670130C56F6BF27B777C63 +
  0x75B227EBE28012079A059618C323C7041531D871F1E5A534CCF73F362693FDB7 * 2 ^ 256 +
  0xCF584C4A39BECB6A5BB1FC20ED00D153842FE329B3D63B52A05A6E1B1A2C8309 * 2 ^ 512 +
  0xD2F3FF1021DAB6BCF5389D928F40A351A89F3C507F02F94585334D43FBAAEFD0 * 2 ^ 768 +
  0xDB0B5EDE14B8EE4688902A22DC4F816073195D643D7EA7C41744975FEC130CCD * 2 ^ 1024 +
  0x08AE7A65EAF4566CA94ED58D6D37C8E779E4959162ACD3C25C2406490A3A32E0 * 2 ^ 1280 +
  0x9E1DC186B95735610EF6034866B53E708A8BBD4B1F74DDE8C6B4A61C2E2578BA * 2 ^ 1536 +
  0x16BB54B00F2D99416842E6BF0D89A18CDF2855CEE9871E9B948ED9691198F8E1 * 2 ^ 1792

/-- The inverse substitution table of AES. Value `x` at bits [8x + 7:8x]. -/
def aesInvTable : Nat :=
  0xCBE9DEC444438E3487FF2F9B8239E37CFBD7F3819EA340BF38A53630D56A0952 +
  0x25D18B6D49A25B76B224D92866A12E084EC3FA420B954CEE3D23C2A632947B54 * 2 ^ 256 +
  0x849D8DA75746155EDAB9EDFD5048706C92B6655DCC5CA4D41698688664F6F872 * 2 ^ 512 +
  0x6B8A130103BDAFC1020F3FCA8F1E2CD00645B3B80558E4F70AD3BC8C00ABD890 * 2 ^ 768 +
  0x6EDF751CE837F9E28535ADE72274AC9673E6B4F0CECFF297EADC674F4111913A * 2 ^ 1024 +
  0xF45ACD78FEC0DB9A2079D2C64B3E56FC1BBE18AA0E62B76F89C5291D711AF147 * 2 ^ 1280 +
  0xEF9CC9939F7AE52D0D4AB519A97F51605FEC8027591012B131C7078833A8DD1F * 2 ^ 1536 +
  0x7D0C2155631469E126D677BA7E042B17619953833CBBEBC8B0F52AAE4D3BE0A0 * 2 ^ 1792

/-- An entry of one of the two tables. -/
def tableByte (t x : Nat) : Nat := t / 2 ^ (8 * x) % 256

/-- A product in the field of AES by the polynomial x. -/
def gfDouble (x : Nat) : Nat := if x < 128 then 2 * x else 2 * x ^^^ 0x11B

/-- A product in the field of AES by a constant below 16. -/
def gfTimes (a b : Nat) : Nat :=
  ((List.range 4).foldl (fun (r : Nat × Nat) i => (if b.testBit i then r.1 ^^^ r.2 else r.1, gfDouble r.2)) (0, a)).1

/-- The table of a column product: entry `x`, of 64 bits, holds twice over the column of the products of `f x` by the four
constants, so that the entry shifted gives the column rotated. -/
def mixTable (f : Nat → Nat) (m : List Nat) : Nat :=
  (List.range 256).foldl (fun t x => t + leNumber (m.map (gfTimes (f x))) * (2 ^ 32 + 1) * 2 ^ (64 * x)) 0

/-- SubBytes and MixColumns in one table, and InvMixColumns in another. -/
def aesEncTable : Nat := mixTable (tableByte aesSboxTable) [2, 1, 1, 3]
def aesDecTable : Nat := mixTable (fun x => x) [14, 9, 13, 11]

/-- The column that a table gives for the byte `x` of row `r`. -/
def mixEntry (t r x : Nat) : Nat := t / 2 ^ (64 * x + 32 - 8 * r) % 2 ^ 32

/-- Byte `i` of a block, a number least significant byte first. -/
def blockByte (x i : Nat) : Nat := x / 2 ^ (8 * (i % 16)) % 256

/-- Bytes put together into a block by `f`. -/
def mapBlock (f : Nat → Nat) : Nat := (List.range 16).foldl (fun y i => y + f i * 2 ^ (8 * i)) 0

/-- The columns of a block mixed by a table, byte `r` of column `j` taken from column `j + d r` (ShiftRows). -/
def mixBlock (t x d : Nat) : Nat :=
  (List.range 4).foldl (fun y j =>
    y + (mixEntry t 0 (blockByte x (4 * j)) ^^^ mixEntry t 1 (blockByte x (4 * (j + d) + 1)) ^^^
         mixEntry t 2 (blockByte x (4 * (j + 2 * d) + 2)) ^^^ mixEntry t 3 (blockByte x (4 * (j + 3 * d) + 3))) * 2 ^ (32 * j)) 0

/-- A word of the key schedule with each byte substituted. -/
def subWord (w : Nat) : Nat :=
  (List.range 4).foldl (fun y i => y + tableByte aesSboxTable (w / 2 ^ (8 * i) % 256) * 2 ^ (8 * i)) 0

/-- The key schedule: word `i` from the words before it, newest first. -/
def aesNextWord (i : Nat) (w : List Nat) : Nat :=
  let t := w.headD 0
  let t := if i % 8 = 0 then subWord (t / 256 + t % 256 * 2 ^ 24) ^^^ 2 ^ (i / 8 - 1) else if i % 8 = 4 then subWord t else t
  w.getD 7 0 ^^^ t

/-- The 15 round keys of a 32-byte key, as one number, round 0 lowest. -/
def aesRoundKeys (key : List Nat) : Nat :=
  let w0 := (pieces 4 8 key).reverse.map leNumber
  let w := (List.range 52).foldl (fun w i => aesNextWord (i + 8) w :: w) w0
  w.foldl (fun n x => n * 2 ^ 32 + x) 0

/-- Round key `i`. -/
def roundKey (ks i : Nat) : Nat := ks / 2 ^ (128 * i) % 2 ^ 128

/-- SubBytes and ShiftRows of a block, and the inverse of both. -/
def subShift (x : Nat) : Nat := mapBlock fun i => tableByte aesSboxTable (blockByte x (4 * (i / 4 + i % 4) + i % 4))
def unsubShift (x : Nat) : Nat := mapBlock fun i => tableByte aesInvTable (blockByte x (4 * (i / 4 + 4 - i % 4) + i % 4))

/-- The AES-256 encryption of one block under round keys. -/
def aesForward (ks x : Nat) : Nat :=
  subShift ((List.range 13).foldl (fun x i => mixBlock aesEncTable x 1 ^^^ roundKey ks (i + 1)) (x ^^^ roundKey ks 0)) ^^^ roundKey ks 14

/-- The AES-256 decryption of one block under round keys. -/
def aesBackward (ks x : Nat) : Nat :=
  unsubShift ((List.range 13).foldl (fun x i => mixBlock aesDecTable (unsubShift x ^^^ roundKey ks (13 - i)) 0)
    (x ^^^ roundKey ks 14)) ^^^ roundKey ks 0

/-- The AES-256 encryption and decryption of the 16 bytes of a block. -/
def aesEncrypt (key b : List Nat) : List Nat := natLE 16 (aesForward (aesRoundKeys key) (leNumber b))
def aesDecrypt (key b : List Nat) : List Nat := natLE 16 (aesBackward (aesRoundKeys key) (leNumber b))

/-! ## XTS-AES-256 -/

/-- The next tweak of a data unit: a product by the polynomial x, the number least significant byte first. -/
def xtsNext (t : Nat) : Nat := if t < 2 ^ 127 then 2 * t else (2 * t) % 2 ^ 128 ^^^ 0x87

/-- A data unit of whole blocks under the cipher `f`, from tweak `t` on. -/
def xtsBlocks (f : List Nat → List Nat) (t : Nat) (l : List (List Nat)) : List Nat :=
  match l with
  | [] => []
  | b :: rest => xorBytes (f (xorBytes b (natLE 16 t))) (natLE 16 t) ++ xtsBlocks f (xtsNext t) rest

/-- XTS-AES-256 of a data unit of whole blocks: encryption and decryption under K1 and K2 with a tweak. -/
def xtsEncrypt (k1 k2 : List Nat) (tweak : Nat) (p : List Nat) : List Nat :=
  xtsBlocks (aesEncrypt k1) (leNumber (aesEncrypt k2 (natLE 16 tweak))) (blocks16 p)
def xtsDecrypt (k1 k2 : List Nat) (tweak : Nat) (c : List Nat) : List Nat :=
  xtsBlocks (aesDecrypt k1) (leNumber (aesEncrypt k2 (natLE 16 tweak))) (blocks16 c)

/-! ## AES-CMAC -/

/-- A subkey doubled. -/
def cmacDouble (l : List Nat) : List Nat :=
  let n := beNat l
  natBE 16 (if n < 2 ^ 127 then 2 * n else (2 * n) % 2 ^ 128 ^^^ 0x87)

/-- AES-CMAC of a message. -/
def aesCmac (key m : List Nat) : List Nat :=
  let k1 := cmacDouble (aesEncrypt key (List.replicate 16 0))
  let bs := blocks16 m
  let last := bs.getLastD []
  let last := if last.length = 16 then xorBytes last k1
    else xorBytes ((last ++ 0x80 :: List.replicate 15 0).take 16) (cmacDouble k1)
  aesEncrypt key (xorBytes (bs.dropLast.foldl (fun x b => aesEncrypt key (xorBytes x b)) (List.replicate 16 0)) last)

/-! ## AES-GCM -/

/-- A product in the field of GHASH, of numbers most significant byte first. -/
def ghashTimes (x y : Nat) : Nat :=
  ((List.range 128).foldl (fun (r : Nat × Nat) i =>
    (if x.testBit (127 - i) then r.1 ^^^ r.2 else r.1, if r.2 % 2 = 1 then r.2 / 2 ^^^ 0xE1 * 2 ^ 120 else r.2 / 2)) (0, y)).1

/-- A byte string padded with zeros to whole blocks. -/
def padBlocks (l : List Nat) : List Nat := l ++ List.replicate ((16 - l.length % 16) % 16) 0

/-- GHASH of additional data and ciphertext. -/
def ghash (h : Nat) (aad c : List Nat) : Nat :=
  (blocks16 (padBlocks aad ++ padBlocks c ++ natBE 8 (8 * aad.length) ++ natBE 8 (8 * c.length))).foldl
    (fun y b => ghashTimes (y ^^^ beNat b) h) 0

/-- Counter mode from a 12-byte IV, its counter from `i` on. -/
def gcmStream (key iv : List Nat) (i : Nat) (l : List (List Nat)) : List Nat :=
  match l with
  | [] => []
  | b :: rest => xorBytes b (aesEncrypt key (iv ++ natBE 4 i)) ++ gcmStream key iv (i + 1) rest

/-- The 16-byte tag of AES-256-GCM over additional data and ciphertext. -/
def gcmTag (key iv aad c : List Nat) : List Nat :=
  xorBytes (aesEncrypt key (iv ++ natBE 4 1)) (natBE 16 (ghash (beNat (aesEncrypt key (List.replicate 16 0))) aad c))

/-- AES-256-GCM decryption, which is its own inverse. -/
def gcmDecrypt (key iv c : List Nat) : List Nat := gcmStream key iv 2 (blocks16 c)

/-! ## AES key wrap -/

/-- One step of the unwrapping of `n` semiblocks: step `t`, counting down. -/
def unwrapStep (key : List Nat) (n t : Nat) (x : List Nat × List (List Nat)) : List Nat × List (List Nat) :=
  let i := (t - 1) % n
  let b := aesDecrypt key (xorBytes x.1 (natBE 8 t) ++ x.2.getD i [])
  (b.take 8, x.2.set i (b.drop 8))

/-- A wrapped key unwrapped, or none where its integrity check fails. -/
def keyUnwrap (key c : List Nat) : Option (List Nat) :=
  let n := c.length / 8 - 1
  let x := (List.range (6 * n)).foldl (fun x j => unwrapStep key n (6 * n - j) x) (c.take 8, pieces 8 n (c.drop 8))
  if x.1 = List.replicate 8 0xA6 then some x.2.flatten else none

/-! ## SHA-384 -/

/-- The round constants of SHA-512 and SHA-384. -/
def shaK : List Nat :=
  [0x428A2F98D728AE22, 0x7137449123EF65CD, 0xB5C0FBCFEC4D3B2F, 0xE9B5DBA58189DBBC,
   0x3956C25BF348B538, 0x59F111F1B605D019, 0x923F82A4AF194F9B, 0xAB1C5ED5DA6D8118,
   0xD807AA98A3030242, 0x12835B0145706FBE, 0x243185BE4EE4B28C, 0x550C7DC3D5FFB4E2,
   0x72BE5D74F27B896F, 0x80DEB1FE3B1696B1, 0x9BDC06A725C71235, 0xC19BF174CF692694,
   0xE49B69C19EF14AD2, 0xEFBE4786384F25E3, 0x0FC19DC68B8CD5B5, 0x240CA1CC77AC9C65,
   0x2DE92C6F592B0275, 0x4A7484AA6EA6E483, 0x5CB0A9DCBD41FBD4, 0x76F988DA831153B5,
   0x983E5152EE66DFAB, 0xA831C66D2DB43210, 0xB00327C898FB213F, 0xBF597FC7BEEF0EE4,
   0xC6E00BF33DA88FC2, 0xD5A79147930AA725, 0x06CA6351E003826F, 0x142929670A0E6E70,
   0x27B70A8546D22FFC, 0x2E1B21385C26C926, 0x4D2C6DFC5AC42AED, 0x53380D139D95B3DF,
   0x650A73548BAF63DE, 0x766A0ABB3C77B2A8, 0x81C2C92E47EDAEE6, 0x92722C851482353B,
   0xA2BFE8A14CF10364, 0xA81A664BBC423001, 0xC24B8B70D0F89791, 0xC76C51A30654BE30,
   0xD192E819D6EF5218, 0xD69906245565A910, 0xF40E35855771202A, 0x106AA07032BBD1B8,
   0x19A4C116B8D2D0C8, 0x1E376C085141AB53, 0x2748774CDF8EEB99, 0x34B0BCB5E19B48A8,
   0x391C0CB3C5C95A63, 0x4ED8AA4AE3418ACB, 0x5B9CCA4F7763E373, 0x682E6FF3D6B2B8A3,
   0x748F82EE5DEFB2FC, 0x78A5636F43172F60, 0x84C87814A1F0AB72, 0x8CC702081A6439EC,
   0x90BEFFFA23631E28, 0xA4506CEBDE82BDE9, 0xBEF9A3F7B2C67915, 0xC67178F2E372532B,
   0xCA273ECEEA26619C, 0xD186B8C721C0C207, 0xEADA7DD6CDE0EB1E, 0xF57D4F7FEE6ED178,
   0x06F067AA72176FBA, 0x0A637DC5A2C898A6, 0x113F9804BEF90DAE, 0x1B710B35131C471B,
   0x28DB77F523047D84, 0x32CAAB7B40C72493, 0x3C9EBE0A15C9BEBC, 0x431D67C49C100D4C,
   0x4CC5D4BECB3E42B6, 0x597F299CFC657E2A, 0x5FCB6FAB3AD6FAEC, 0x6C44198C4A475817]

/-- The initial hash value of SHA-384. -/
def shaInit : List Nat :=
  [0xCBBB9D5DC1059ED8, 0x629A292A367CD507, 0x9159015A3070DD17, 0x152FECD8F70E5939,
   0x67332667FFC00B31, 0x8EB44A8768581511, 0xDB0C2E0D64F98FA7, 0x47B5481DBEFA4FA4]

/-- A 64-bit number rotated right. -/
def rotr64 (n x : Nat) : Nat := x / 2 ^ n + x % 2 ^ n * 2 ^ (64 - n)

/-- The next word of the message schedule, from the words before it, newest first. -/
def shaNextWord (w : List Nat) : Nat :=
  let a := w.getD 14 0
  let b := w.getD 1 0
  (w.getD 15 0 + (rotr64 1 a ^^^ rotr64 8 a ^^^ a / 2 ^ 7) + w.getD 6 0 + (rotr64 19 b ^^^ rotr64 61 b ^^^ b / 2 ^ 6)) % 2 ^ 64

/-- One round on the working variables a to h. -/
def shaRound (v : List Nat) (kw : Nat) : List Nat :=
  match v with
  | [a, b, c, d, e, f, g, h] =>
    let t1 := h + (rotr64 14 e ^^^ rotr64 18 e ^^^ rotr64 41 e) + ((e &&& f) ^^^ ((2 ^ 64 - 1 - e) &&& g)) + kw
    let t2 := (rotr64 28 a ^^^ rotr64 34 a ^^^ rotr64 39 a) + ((a &&& b) ^^^ (a &&& c) ^^^ (b &&& c))
    [(t1 + t2) % 2 ^ 64, a, b, c, (d + t1) % 2 ^ 64, e, f, g]
  | _ => v

/-- One block of 128 bytes compressed into the hash value. -/
def shaBlock (h : List Nat) (b : List Nat) : List Nat :=
  let w0 := ((pieces 8 16 b).map beNat).reverse
  let w := ((List.range 64).foldl (fun w _ => shaNextWord w :: w) w0).reverse
  List.zipWith (fun x y => (x + y) % 2 ^ 64) h ((List.zipWith (fun k x => k + x) shaK w).foldl shaRound h)

/-- SHA-384 of a byte string, as its 48 bytes. -/
def sha384 (m : List Nat) : List Nat :=
  let n := m.length
  let padded := m ++ 0x80 :: List.replicate ((111 + 128 - n % 128) % 128) 0 ++ natBE 16 (8 * n)
  (((pieces 128 (padded.length / 128) padded).foldl shaBlock shaInit).take 6).flatMap (natBE 8)

/-- The hash of a compressed key as the number that an OCT(48) entry holds. -/
def keyHash (key : List Nat) : Nat := leNumber (sha384 key)

/-! ## P-384 -/

/-- The prime, the coefficient b, the order and the base point of P-384. -/
def p384P : Nat := 2 ^ 384 - 2 ^ 128 - 2 ^ 96 + 2 ^ 32 - 1
def p384B : Nat :=
  0xB3312FA7E23EE7E4988E056BE3F82D19181D9C6EFE8141120314088F5013875AC656398D8A2ED19D2A85C8EDD3EC2AEF
def p384N : Nat :=
  0xFFFFFFFFFFFFFFFFFFFFFFFFFFFFFFFFFFFFFFFFFFFFFFFFC7634D81F4372DDF581A0DB248B0A77AECEC196ACCC52973
def p384G : Nat × Nat × Nat :=
  (0xAA87CA22BE8B05378EB1C71EF320AD746E1D3B628BA79B9859F741E082542A385502F25DBF55296C3A545E3872760AB7,
   0x3617DE4A96262C6F5D9E98BF9292DC29F8F41DBD289A147CE9DA3113B5F0B8C00A60B1CE1D7E819D7A431D7C90EA0E5F, 1)

/-- A power modulo `m`, over the `n` low bits of the exponent. -/
def powMod (m b e n : Nat) : Nat :=
  (List.range n).foldl (fun r i => if e.testBit (n - 1 - i) then r * r % m * b % m else r * r % m) 1

/-- The inverse modulo the prime `m` of 384 bits. -/
def invMod (m x : Nat) : Nat := powMod m x (m - 2) 384

/-- A difference modulo p. -/
def subP (a b : Nat) : Nat := (a + p384P - b % p384P) % p384P

/-- A point in Jacobian coordinates doubled; z = 0 is the point at infinity. -/
def ecDouble (q : Nat × Nat × Nat) : Nat × Nat × Nat :=
  let zz := q.2.2 * q.2.2 % p384P
  let yy := q.2.1 * q.2.1 % p384P
  let s := 4 * q.1 * yy % p384P
  let m := 3 * subP q.1 zz * (q.1 + zz) % p384P
  let x := subP (m * m) (2 * s)
  (x, subP (m * subP s x) (8 * yy * yy), 2 * q.2.1 * q.2.2 % p384P)

/-- The sum of two points. -/
def ecAdd (a b : Nat × Nat × Nat) : Nat × Nat × Nat :=
  if a.2.2 = 0 then b
  else if b.2.2 = 0 then a
  else
    let za := a.2.2 * a.2.2 % p384P
    let zb := b.2.2 * b.2.2 % p384P
    let u1 := a.1 * zb % p384P
    let u2 := b.1 * za % p384P
    let s1 := a.2.1 * zb % p384P * b.2.2 % p384P
    let s2 := b.2.1 * za % p384P * a.2.2 % p384P
    if u1 = u2 then (if s1 = s2 then ecDouble a else (1, 1, 0))
    else
      let h := subP u2 u1
      let r := subP s2 s1
      let hh := h * h % p384P
      let hhh := h * hh % p384P
      let v := u1 * hh % p384P
      let x := subP (r * r) (hhh + 2 * v)
      (x, subP (r * subP v x) (s1 * hhh), h * a.2.2 % p384P * b.2.2 % p384P)

/-- A multiple of a point, by a number of 384 bits. -/
def ecTimes (k : Nat) (q : Nat × Nat × Nat) : Nat × Nat × Nat :=
  (List.range 384).foldl (fun r i => if k.testBit (383 - i) then ecAdd (ecDouble r) q else ecDouble r) (1, 1, 0)

/-- The affine coordinates of a point. -/
def ecAffine (q : Nat × Nat × Nat) : Nat × Nat :=
  let i := invMod p384P q.2.2
  let ii := i * i % p384P
  (q.1 * ii % p384P, q.2.1 * ii % p384P * i % p384P)

/-- The compressed form of a point: 49 bytes. -/
def ecCompress (q : Nat × Nat × Nat) : List Nat := (2 + (ecAffine q).2 % 2) :: natBE 48 (ecAffine q).1

/-- The point that 49 compressed bytes name, or none where they name none. -/
def ecExpand (l : List Nat) : Option (Nat × Nat × Nat) :=
  let x := beNat (l.drop 1)
  let c := (x * x % p384P * x + p384B + 3 * (p384P - x % p384P)) % p384P
  let y := powMod p384P c ((p384P + 1) / 4) 384
  if l.length ≠ 49 ∨ ¬ (l.headD 0 = 2 ∨ l.headD 0 = 3) ∨ p384P ≤ x ∨ y * y % p384P ≠ c then none
  else some (x, if y % 2 = l.headD 0 % 2 then y else (p384P - y) % p384P, 1)

/-- An ECDSA signature, r and then s of 48 bytes each, verifies for a hash under a public key. -/
def ecdsaVerify (q : Nat × Nat × Nat) (hash sig : List Nat) : Bool :=
  let r := beNat (sig.take 48)
  let s := beNat (sig.drop 48)
  let w := invMod p384N s
  let x := ecAdd (ecTimes (beNat hash * w % p384N) p384G) (ecTimes (r * w % p384N) q)
  decide (sig.length = 96) && decide (1 ≤ r) && decide (r < p384N) && decide (1 ≤ s) && decide (s < p384N) &&
  decide (x.2.2 ≠ 0) && decide ((ecAffine x).1 % p384N = r)

/-- The ECDSA signature of a hash under a private key, with the per-signature number `k`. -/
def ecdsaSign (d k : Nat) (hash : List Nat) : List Nat :=
  let r := (ecAffine (ecTimes k p384G)).1 % p384N
  natBE 48 r ++ natBE 48 (invMod p384N k * ((beNat hash + r * d) % p384N) % p384N)

/-- The ECDH shared secret: the x coordinate, 48 bytes. -/
def ecdhSecret (d : Nat) (q : Nat × Nat × Nat) : List Nat := natBE 48 (ecAffine (ecTimes d q)).1

/-- The one-step key derivation of SP 800-56C with SHA-384, to 32 bytes: SHA-384 of the counter 1, the secret and the fixed
information. -/
def deriveKey (secret info : List Nat) : List Nat := (sha384 (natBE 4 1 ++ secret ++ info)).take 32

end Sys2Proof.Machine
end

