-- ==== Sys2Proof/Config.lean ====
section
/-! DEFINITION. What an implementation fixes (the stepping and the grade, R1 to R4), and the free values: constants with no
body, applied to the operands or to the counter `State.free`, of which nothing can be proved (assumption 2). -/

namespace Sys2Proof

/-- The two steppings of R1. -/
inductive Stepping where
  | a0 | b0
deriving DecidableEq, Repr, Inhabited

/-- The two grades of R2. -/
inductive Grade where
  | s1 | s2
deriving DecidableEq, Repr, Inhabited

/-- The module's stepping (R4: the same on every die). No claim may rest on which it is. -/
opaque Config.stepping : Stepping

/-- The module's grade (R3). -/
opaque Config.grade : Grade

/-- A free bit, drawn with the free counter. -/
opaque Config.freeBit : Nat → Bool

/-- A free number, drawn with the free counter: an identity value, a nonce, a random key. -/
opaque Config.freeNat : Nat → Nat

/-- A fused or printed identity value, by object-dictionary key (15: serial, lots, keys, certificates). -/
opaque Config.identity : Nat → Nat

/-- The severity of a log record whose severity no rule states, by its code (assumption 5). -/
opaque Config.severity : Nat → Fin 8

/-- The code of a log record for which the rule of this number names none (assumption 5). -/
opaque Config.code : Nat → Nat

/-- The vendor certificate of the module's identity key, in DER (R417). -/
opaque Config.idCert : List Byte

/-- The private half of the module's P-384 identity key, generated at manufacture (R416). -/
opaque Config.identityKey : Nat

/-- The handshake cycle in ps from which on the Yoke core limits the packet network or the Seam packers (R98, assumption 84). -/
opaque Config.yokeCycle : Nat

/-- The level of a running global tree where the fabric reads it as data, by tree and REFCLK period (R221, R226). -/
opaque Config.treeLevel : Nat → Nat → Bool

/-- The scrambler of a Hem serial lane as its port starts, by lane and draw (R334). -/
opaque Config.hemScrambler : Nat → Nat → BitVec 58

/-- What the target drives at a pin in a REFCLK period, none where it drives nothing, and the level of a pin that no one drives or
that two parties drive differently (R228 to R231). -/
opaque Config.pinDriven : Nat → Nat → Option Bool
opaque Config.pinFloat : Nat → Nat → Bool

end Sys2Proof
end

