-- ==== Sys2Proof/Machine/Codes.lean ====
section
/-! DEFINITION. The abort codes of R11, with the values that the code tables of chapters 16 to 19 give them (R444). -/

namespace Sys2Proof.Machine

def Code.ACCESS_DENIED : Nat := 0x01000001
def Code.NOT_IDLE : Nat := 0x01000002
def Code.NO_SUCH_ENTRY : Nat := 0x01000003
def Code.WRONG_STATE : Nat := 0x01000004
def Code.LENGTH_EXCEEDS_BUFFER : Nat := 0x02000001
def Code.VALUE_INVALID : Nat := 0x03000001
def Code.TIMEOUT : Nat := 0x06000001
def Code.DOMAIN_ASLEEP : Nat := 0x06000002
def Code.UNMAPPED : Nat := 0x06000003
def Code.VALUE_CLAMPED : Nat := 0x10000001
def Code.SECTOR_AUTH_FAIL : Nat := 0x04060001
def Code.KEY_IDS_EXHAUSTED : Nat := 0x05060001
def Code.KEY_SLOTS_FULL : Nat := 0x05060002
def Code.HBM_UNCORRECTABLE : Nat := 0x07060001
def Code.INTEGRITY_FAIL : Nat := 0x07060002
def Code.NOC_MALFORMED : Nat := 0x03070001
def Code.NOC_ROUTE_LOOP : Nat := 0x06070001
def Code.SEAM_MAP_MISMATCH : Nat := 0x03080001
def Code.SEAM_STORE : Nat := 0x05080001
def Code.FENCE_LIMIT : Nat := 0x05090001
def Code.CFG_FORMAT : Nat := 0x030A0001
def Code.CFG_FRAME_CHECK : Nat := 0x030A0002
def Code.CFG_AUTH_FAIL : Nat := 0x040A0001
def Code.CFG_STREAM_SEQ : Nat := 0x040A0002
def Code.CFG_READBACK : Nat := 0x070A0001
def Code.FW_NO_PEER : Nat := 0x010E0001
def Code.PATTERN_FORMAT : Nat := 0x030E0001
def Code.PATTERN_CHECK : Nat := 0x030E0002
def Code.LATENCY_TABLE_VERSION : Nat := 0x030E0003
def Code.CUFF_MAP_MISMATCH : Nat := 0x030E0004
def Code.PROBE_MAP_CONFLICT : Nat := 0x030E0005
def Code.FW_ROLLBACK : Nat := 0x040E0001
def Code.CARVE_EXCEEDED : Nat := 0x050E0001
def Code.NO_CAPACITY : Nat := 0x050E0002
def Code.CARVE_CONFLICT : Nat := 0x050E0003
def Code.FW_FUSES_SPENT : Nat := 0x050E0004
def Code.FW_REJECTED : Nat := 0x070E0001
def Code.LOG_SECTOR : Nat := 0x200E0001
def Code.ENVELOPE_EXCEEDED : Nat := 0x08110001
def Code.CKPT_UNREADABLE : Nat := 0x08110002
def Code.LIMIT_REFUSED : Nat := 0x01000005
def Code.LIMIT_CLAMPED : Nat := 0x10000002
def Code.ILLEGAL_ENCODING : Nat := 0x20010001
def Code.NO_PROGRESS : Nat := 0x20010002
def Code.DESC_INVALID_USE : Nat := 0x20050001
def Code.STREAM_COMMITTED : Nat := 0x200A0001
def Code.PATTERN_COMMITTED : Nat := 0x200A0002
def Code.PART_CREATED : Nat := 0x200E0002
def Code.PART_DESTROYED : Nat := 0x200E0003
def Code.REPAIRED : Nat := 0x20110001
def Code.PAP_NO_SESSION : Nat := 0x010F0001
def Code.PAP_BAD_MESSAGE : Nat := 0x030F0001
def Code.PAP_VERSION : Nat := 0x030F0002
def Code.PAP_AUTH_FAIL : Nat := 0x040F0001
def Code.PAP_SESSIONS_FULL : Nat := 0x050F0001
def Code.TIME_SPLIT : Nat := 0x200F0001
def Code.TXQ_OVERFLOW : Nat := 0x200F0002
def Code.PORT_FAILOVER : Nat := 0x200F0003
def Code.QUEUE_ABORTED : Nat := 0x010D0001
def Code.MBX_BAD_MESSAGE : Nat := 0x030D0001
def Code.DMA_HOST_ERROR : Nat := 0x060D0001
def Code.THERMAL_SHUTDOWN : Nat := 0x07100001
def Code.REFCLK_LOST : Nat := 0x07100002
def Code.START_FAULT : Nat := 0x07100003
def Code.BROWNOUT : Nat := 0x20100001
def Code.THERMAL_TRIP : Nat := 0x20100002
def Code.OVERCURRENT : Nat := 0x20100003
def Code.CAP_UNMET : Nat := 0x20100004
def Code.SHUTDOWN_DONE : Nat := 0x20100005

end Sys2Proof.Machine
end

