-- ==== Sys2Proof/Machine/OdTable.lean ====
section
/-! DEFINITION. The object dictionary's entry table: every entry that the chapters of spec/ give in an OD table, with its
index, sub-index, type, access right, default and range (R419 to R424). An entry's key is its index times 256 plus its
sub-index. -/

namespace Sys2Proof.Machine

/-- The types of R419. -/
inductive OdType where
  | bool | u8 | u16 | u32 | u64 | i32 | i64 | time80 | domain
  | oct (n : Nat) | str (n : Nat)
deriving DecidableEq, Repr

/-- The access rights of R420. -/
inductive OdAccess where
  | const | ro | wo | rw | rwi
deriving DecidableEq, Repr

/-- The Range column: no limit beyond the type, a range with further single values, a set, or a mask of legal bits. -/
inductive OdRange where
  | any
  | range (lo hi : Int) (extra : List Int)
  | set (vals : List Int)
  | bits (mask : Nat)
deriving DecidableEq, Repr

/-- One row of an entry table. `count` indices, `stride` apart, and `subs` sub-indices share it. -/
structure OdDesc where
  name     : String
  index    : Nat
  count    : Nat
  stride   : Nat
  sub      : Nat
  subs     : Nat
  type     : OdType
  access   : OdAccess
  sec      : Bool
  defaults : List Nat
  range    : OdRange
deriving Repr

/-- The key of an entry. -/
def odKey (index sub : Nat) : Nat := index * 256 + sub

def Od.RATE_TARGET : Nat := odKey (0x3020) (0x1)
def Od.RATE_POLICY : Nat := odKey (0x3020) (0x2)
def Od.RATE_INTRINSIC : Nat := odKey (0x3020) (0x3)
def Od.RATE_ACHIEVED : Nat := odKey (0x3020) (0x4)
def Od.RATE_SHORTFALL : Nat := odKey (0x3020) (0x5)
def Od.STALL_WATCHDOG : Nat := odKey (0x3020) (0x6)
def Od.VMAP (i : Nat) : Nat := odKey (0x6040 + 256 * i) (0x1)
def Od.VMAP_FOLD (i : Nat) : Nat := odKey (0x6040 + 256 * i) (0x2)
def Od.VMAP_GEN (i : Nat) : Nat := odKey (0x6040 + 256 * i) (0x3)
def Od.LOAD_STATUS (i : Nat) : Nat := odKey (0x6041 + 256 * i) (0x1)
def Od.LOAD_FOLD (i : Nat) : Nat := odKey (0x6041 + 256 * i) (0x2)
def Od.SPARES_USED (i : Nat) : Nat := odKey (0x6041 + 256 * i) (0x3)
def Od.SLOWER_ELEMENTS (i : Nat) : Nat := odKey (0x6041 + 256 * i) (0x4)
def Od.PRED_SWEEP_PPM (i : Nat) : Nat := odKey (0x6041 + 256 * i) (0x5)
def Od.RETIMED (i : Nat) : Nat := odKey (0x6041 + 256 * i) (0x6)
def Od.CREDIT_LIMIT (i : Nat) : Nat := odKey (0x6041 + 256 * i) (0x7)
def Od.ROUTE_ADDED (i : Nat) : Nat := odKey (0x6041 + 256 * i) (0x8)
def Od.PATTERN_ID (i : Nat) : Nat := odKey (0x6041 + 256 * i) (0x9)
def Od.FAIL_AT (i : Nat) : Nat := odKey (0x6041 + 256 * i) (0xA)
def Od.RETIME_ENABLE (i : Nat) : Nat := odKey (0x6042 + 256 * i) (0x1)
def Od.FOLD_LIMIT (i : Nat) : Nat := odKey (0x6042 + 256 * i) (0x2)
def Od.SEAM_EMULATION_ID : Nat := odKey (0x7000) (0x1)
def Od.SEAM_MODULE : Nat := odKey (0x7000) (0x2)
def Od.SEAM_DIAMETER : Nat := odKey (0x7000) (0x3)
def Od.LINK_PORT (j : Nat) : Nat := odKey (0x7001) (0x1 + j)
def Od.LANE_UNCORR_LIMIT : Nat := odKey (0x7002) (0x1)
def Od.LANE_CORR_LIMIT : Nat := odKey (0x7002) (0x2)
def Od.PORT_VIOL_LIMIT : Nat := odKey (0x7002) (0x3)
def Od.SEAM_DOWN_LIMIT : Nat := odKey (0x7002) (0x4)
def Od.SEAM_RETAIN_MIB (i : Nat) : Nat := odKey (0x6048 + 256 * i) (0x1)
def Od.SEAM_RETAIN_USED (i : Nat) : Nat := odKey (0x6048 + 256 * i) (0x2)
def Od.STAGE_MIB (i : Nat) : Nat := odKey (0x6044 + 256 * i) (0x1)
def Od.STAGE_TIMEOUT (i : Nat) : Nat := odKey (0x6044 + 256 * i) (0x2)
def Od.DONE_GROUP (i : Nat) : Nat := odKey (0x6044 + 256 * i) (0x3)
def Od.START_ON_DONE (i : Nat) : Nat := odKey (0x6044 + 256 * i) (0x4)
def Od.STREAM_SEQ_LAST (i : Nat) : Nat := odKey (0x6044 + 256 * i) (0x5)
def Od.CFG_KEY_ID (i : Nat) : Nat := odKey (0x6044 + 256 * i) (0x6)
def Od.STREAM_STATUS (i : Nat) : Nat := odKey (0x6044 + 256 * i) (0x7)
def Od.STREAM_FAIL_AT (i : Nat) : Nat := odKey (0x6044 + 256 * i) (0x8)
def Od.DRIVER_CONFLICT (i : Nat) : Nat := odKey (0x6044 + 256 * i) (0x9)
def Od.FRAMES_WRITTEN (i : Nat) : Nat := odKey (0x6044 + 256 * i) (0xA)
def Od.HOLD_US (i : Nat) : Nat := odKey (0x6044 + 256 * i) (0xB)
def Od.DONE_STATE : Nat := odKey (0x7300) (0x1)
def Od.DONE_FALL_ACTION : Nat := odKey (0x7300) (0x2)
def Od.BANK_PREPULL : Nat := odKey (0x7300) (0x3)
def Od.PART_STATE (i : Nat) : Nat := odKey (0x6000 + 256 * i) (0x1)
def Od.PART_CMD (i : Nat) : Nat := odKey (0x6000 + 256 * i) (0x2)
def Od.PART_FAIL (i : Nat) : Nat := odKey (0x6000 + 256 * i) (0x3)
def Od.FAIL_FIELD (i : Nat) : Nat := odKey (0x6000 + 256 * i) (0x4)
def Od.ROWS_W (i j : Nat) : Nat := odKey (0x6001 + 256 * i) (0x1 + j)
def Od.HBM_H (i j : Nat) : Nat := odKey (0x6002 + 256 * i) (0x1 + j)
def Od.DMEM_H (i j : Nat) : Nat := odKey (0x6002 + 256 * i) (0x5 + j)
def Od.DESC_FIRST_W (i j : Nat) : Nat := odKey (0x6003 + 256 * i) (0x1 + j)
def Od.DESC_COUNT_W (i j : Nat) : Nat := odKey (0x6003 + 256 * i) (0x5 + j)
def Od.BANK_FIRST_W (i j : Nat) : Nat := odKey (0x6003 + 256 * i) (0x9 + j)
def Od.BANK_COUNT_W (i j : Nat) : Nat := odKey (0x6003 + 256 * i) (0xD + j)
def Od.BRG_TRACK_CARVE (i j : Nat) : Nat := odKey (0x6004 + 256 * i) (0x1 + j)
def Od.STORE_KBIT (i : Nat) : Nat := odKey (0x6004 + 256 * i) (0x9)
def Od.REGIONS (i : Nat) : Nat := odKey (0x6004 + 256 * i) (0xA)
def Od.TREES (i : Nat) : Nat := odKey (0x6004 + 256 * i) (0xB)
def Od.LINKS (i : Nat) : Nat := odKey (0x6004 + 256 * i) (0xC)
def Od.OWNER_KEY_HASH (i : Nat) : Nat := odKey (0x6005 + 256 * i) (0x1)
def Od.LINE_KEY_ID (i : Nat) : Nat := odKey (0x6008 + 256 * i) (0x1)
def Od.KS_NONCE (i : Nat) : Nat := odKey (0x6008 + 256 * i) (0x2)
def Od.KS_OPEN (i : Nat) : Nat := odKey (0x6008 + 256 * i) (0x3)
def Od.KS_MODULE (i : Nat) : Nat := odKey (0x6008 + 256 * i) (0x4)
def Od.KS_WRAP_CFG (i : Nat) : Nat := odKey (0x6008 + 256 * i) (0x5)
def Od.KS_WRAP_SECTOR (i : Nat) : Nat := odKey (0x6008 + 256 * i) (0x6)
def Od.KS_CLOSE (i : Nat) : Nat := odKey (0x6008 + 256 * i) (0x7)
def Od.LINE_ROLL (i : Nat) : Nat := odKey (0x6008 + 256 * i) (0x8)
def Od.REKEY_PERMILLE (i : Nat) : Nat := odKey (0x6008 + 256 * i) (0x9)
def Od.SECTOR_RETIRE (i : Nat) : Nat := odKey (0x6008 + 256 * i) (0xA)
def Od.SECTOR_KEY_ID (i : Nat) : Nat := odKey (0x6008 + 256 * i) (0xB)
def Od.INTEGRITY_HALT : Nat := odKey (0x4001) (0x1)
def Od.HALT_STACK : Nat := odKey (0x4001) (0x2)
def Od.HALT_LINE : Nat := odKey (0x4001) (0x3)
def Od.HALT_PARTITION : Nat := odKey (0x4001) (0x4)
def Od.HALT_EXTRA : Nat := odKey (0x4001) (0x5)
def Od.HALT_TIME : Nat := odKey (0x4001) (0x6)
def Od.HEM_OWNER : Nat := odKey (0x5001) (0x1)
def Od.HEM_PORT_ALLOW : Nat := odKey (0x5001) (0x2)
def Od.HEM_BUF_MIB : Nat := odKey (0x5001) (0x3)
def Od.HEM_BUF_WRAP : Nat := odKey (0x5001) (0x4)
def Od.HEM_LOST : Nat := odKey (0x5001) (0x5)
def Od.ACQ_UNITS (i : Nat) : Nat := odKey (0x6046 + 256 * i) (0x1)
def Od.ACQ_PROBE_FIRST (i : Nat) : Nat := odKey (0x6046 + 256 * i) (0x2)
def Od.ACQ_PROBE_COUNT (i : Nat) : Nat := odKey (0x6046 + 256 * i) (0x3)
def Od.ACQ_BUF_MIB (i : Nat) : Nat := odKey (0x6046 + 256 * i) (0x4)
def Od.HOLD : Nat := odKey (0x5104) (0x1)
def Od.WRAP : Nat := odKey (0x5104) (0x2)
def Od.QUEUE_ONE : Nat := odKey (0x5104) (0x3)
def Od.STREAM_DROP : Nat := odKey (0x5104) (0x4)
def Od.ACQ_REGS (i : Nat) : Nat := odKey (0x6047 + 256 * i) (0x1)
def Od.SPARE_BP_USED : Nat := odKey (0x4010) (0x1)
def Od.SPARE_BP_FAILED : Nat := odKey (0x4010) (0x2)
def Od.CLUSTERS_RETIRED : Nat := odKey (0x4010) (0x3)
def Od.BRIDGE_SPARES_USED : Nat := odKey (0x4010) (0x4)
def Od.LANES_SPARED : Nat := odKey (0x4010) (0x5)
def Od.HBM_PC_RETIRED : Nat := odKey (0x4010) (0x6)
def Od.PPR_ROWS_USED : Nat := odKey (0x4010) (0x7)
def Od.PHASES_LOST : Nat := odKey (0x4010) (0x8)
def Od.HEALTH : Nat := odKey (0x4010) (0x9)
def Od.CKPT_INTERVAL : Nat := odKey (0x4020) (0x1)
def Od.ROLLBACK_LIMIT : Nat := odKey (0x4020) (0x2)
def Od.ROLLBACKS : Nat := odKey (0x4020) (0x3)
def Od.SCRUB_PERIOD (j : Nat) : Nat := odKey (0x4030) (0x1 + j)
def Od.SCRUB_RANGE (j : Nat) : Nat := odKey (0x4031) (0x1 + j)
def Od.SCRUB_MODE (j : Nat) : Nat := odKey (0x4032) (0x1 + j)
def Od.CKPT_LAST (i : Nat) : Nat := odKey (0x6049 + 256 * i) (0x1)
def Od.INLOG_MIB (i : Nat) : Nat := odKey (0x6049 + 256 * i) (0x2)
def Od.UNDO_MIB (i : Nat) : Nat := odKey (0x6049 + 256 * i) (0x3)
def Od.SPILL (i : Nat) : Nat := odKey (0x6049 + 256 * i) (0x4)
def Od.SPILL_QUEUE (i : Nat) : Nat := odKey (0x6049 + 256 * i) (0x5)
def Od.SPILL_LAST (i : Nat) : Nat := odKey (0x6049 + 256 * i) (0x6)
def Od.PART_ROLLBACKS (i : Nat) : Nat := odKey (0x6049 + 256 * i) (0x7)
def Od.LAST_STOP (i : Nat) : Nat := odKey (0x6049 + 256 * i) (0x8)
def Od.LOG_NEWEST : Nat := odKey (0x1210) (0x1)
def Od.LOG_OLDEST : Nat := odKey (0x1210) (0x2)
def Od.LOG_CURSOR : Nat := odKey (0x1210) (0x3)
def Od.LOG_READ : Nat := odKey (0x1210) (0x4)
def Od.LOG_DROPPED : Nat := odKey (0x1210) (0x5)
def Od.LOG_ERASE_MAX : Nat := odKey (0x1210) (0x6)
def Od.LOG_AREA : Nat := odKey (0x1210) (0x7)
def Od.DEVICE_TYPE : Nat := odKey (0x1000) (0x1)
def Od.SERIAL : Nat := odKey (0x1001) (0x1)
def Od.ASSEMBLY_LOT : Nat := odKey (0x1001) (0x2)
def Od.DATE_CODE : Nat := odKey (0x1001) (0x3)
def Od.GRADE : Nat := odKey (0x1001) (0x4)
def Od.ID_KEY : Nat := odKey (0x1001) (0x5)
def Od.ID_CERT : Nat := odKey (0x1001) (0x6)
def Od.ATTEST : Nat := odKey (0x1001) (0x7)
def Od.ATTEST_NONCE : Nat := odKey (0x1001) (0x8)
def Od.DIE_LOT (i : Nat) : Nat := odKey (0x1010 + i) (0x1)
def Od.DIE_WAFER (i : Nat) : Nat := odKey (0x1010 + i) (0x2)
def Od.DIE_X (i : Nat) : Nat := odKey (0x1010 + i) (0x3)
def Od.DIE_Y (i : Nat) : Nat := odKey (0x1010 + i) (0x4)
def Od.DIE_STEPPING (i : Nat) : Nat := odKey (0x1010 + i) (0x5)
def Od.HBM_DEVICE_ID (i : Nat) : Nat := odKey (0x1020 + i) (0x1)
def Od.HBM_VENDOR (i : Nat) : Nat := odKey (0x1020 + i) (0x2)
def Od.HBM_RAW_GIB (i : Nat) : Nat := odKey (0x1020 + i) (0x3)
def Od.FW_RUNNING : Nat := odKey (0x2002) (0x1)
def Od.FW_SLOT_A : Nat := odKey (0x2002) (0x2)
def Od.FW_SLOT_B : Nat := odKey (0x2002) (0x3)
def Od.FW_COMMITTED : Nat := odKey (0x2002) (0x4)
def Od.FUSE_STEPS_USED : Nat := odKey (0x2002) (0x5)
def Od.FW_STATUS : Nat := odKey (0x2002) (0x6)
def Od.COL_HOLDER : Nat := odKey (0x2001) (0x1)
def Od.COL_A_STATE : Nat := odKey (0x2001) (0x2)
def Od.COL_B_STATE : Nat := odKey (0x2001) (0x3)
def Od.COL_FAILOVERS : Nat := odKey (0x2001) (0x4)
def Od.FW_IMAGE : Nat := odKey (0x2003) (0x1)
def Od.FW_START : Nat := odKey (0x2003) (0x2)
def Od.FW_CONFIRM_S : Nat := odKey (0x2003) (0x3)
def Od.FW_ABORT : Nat := odKey (0x2003) (0x4)
def Od.FW_FORCE_SINGLE : Nat := odKey (0x2003) (0x5)
def Od.SNS_CAL_PERIOD : Nat := odKey (0x2011) (0x1)
def Od.CLAMP_TOTAL : Nat := odKey (0x1200) (0x1)
def Od.CLAMP_LAST : Nat := odKey (0x1200) (0x2)
def Od.CLAMP_RING : Nat := odKey (0x1200) (0x3)
def Od.CLAMP_CLEAR : Nat := odKey (0x1200) (0x4)
def Od.RUN_CMD (i : Nat) : Nat := odKey (0x3100 + i) (0x1)
def Od.RUN_STATE (i : Nat) : Nat := odKey (0x3100 + i) (0x2)
def Od.RUN_ECYCLE (i : Nat) : Nat := odKey (0x3100 + i) (0x3)
def Od.STOP_ECYCLE (i : Nat) : Nat := odKey (0x3100 + i) (0x4)
def Od.STEP_COUNT (i : Nat) : Nat := odKey (0x3100 + i) (0x5)
def Od.PAUSE_REASON (i : Nat) : Nat := odKey (0x3100 + i) (0x6)
def Od.BREAK_ECYCLE (i : Nat) : Nat := odKey (0x3100 + i) (0x7)
def Od.POWER_CAP : Nat := odKey (0x2020) (0x1)
def Od.POWER_NOW : Nat := odKey (0x2020) (0x2)
def Od.POWER_CAPPED : Nat := odKey (0x2020) (0x3)
def Od.ETH_MODE : Nat := odKey (0x1100) (0x1)
def Od.ETH_ACTIVE : Nat := odKey (0x1100) (0x2)
def Od.ETH_FAILOVERS : Nat := odKey (0x1100) (0x3)
def Od.MAC (i : Nat) : Nat := odKey (0x1101 + i) (0x1)
def Od.LINK (i : Nat) : Nat := odKey (0x1101 + i) (0x2)
def Od.PHY_MODE (i : Nat) : Nat := odKey (0x1101 + i) (0x3)
def Od.IPV4_ADDR (i : Nat) : Nat := odKey (0x1101 + i) (0x4)
def Od.IPV4_PREFIX (i : Nat) : Nat := odKey (0x1101 + i) (0x5)
def Od.IPV4_GW (i : Nat) : Nat := odKey (0x1101 + i) (0x6)
def Od.DHCP (i : Nat) : Nat := odKey (0x1101 + i) (0x7)
def Od.IPV6_ADDR (i : Nat) : Nat := odKey (0x1101 + i) (0x8)
def Od.IPV6_PREFIX (i : Nat) : Nat := odKey (0x1101 + i) (0x9)
def Od.VLAN_ID (i : Nat) : Nat := odKey (0x1101 + i) (0xA)
def Od.ASYMMETRY (i : Nat) : Nat := odKey (0x1101 + i) (0xB)
def Od.RX_DISCARDED (i : Nat) : Nat := odKey (0x1101 + i) (0xC)
def Od.PAP_PORT : Nat := odKey (0x1120) (0x1)
def Od.PAP_OWNER_KEY_HASH : Nat := odKey (0x1120) (0x2)
def Od.PAP_SESSION_TIMEOUT : Nat := odKey (0x1120) (0x3)
def Od.PAP_ABORT_INTERVAL : Nat := odKey (0x1120) (0x4)
def Od.PAP_SESSIONS : Nat := odKey (0x1120) (0x5)
def Od.PAP_DISCARDED : Nat := odKey (0x1120) (0x6)
def Od.PAP_ABORTS_SUPPRESSED : Nat := odKey (0x1120) (0x7)
def Od.PAP_ANON : Nat := odKey (0x1120) (0x8)
def Od.A_PTP_DOMAIN : Nat := odKey (0x1130) (0x1)
def Od.B_PTP_DOMAIN : Nat := odKey (0x1130) (0x2)
def Od.TIME_SWITCH : Nat := odKey (0x1130) (0x3)
def Od.DOMAIN_SPLIT_LIMIT : Nat := odKey (0x1130) (0x4)
def Od.SPLIT_NOW : Nat := odKey (0x1130) (0x5)
def Od.SPLIT_STATE : Nat := odKey (0x1130) (0x6)
def Od.SPLIT_EVENTS : Nat := odKey (0x1130) (0x7)
def Od.A_PORT : Nat := odKey (0x1130) (0x8)
def Od.B_PORT : Nat := odKey (0x1130) (0x9)
def Od.A_STATE : Nat := odKey (0x1130) (0xA)
def Od.B_STATE : Nat := odKey (0x1130) (0xB)
def Od.A_OFFSET : Nat := odKey (0x1130) (0xC)
def Od.B_OFFSET : Nat := odKey (0x1130) (0xD)
def Od.A_MASTER : Nat := odKey (0x1130) (0xE)
def Od.B_MASTER : Nat := odKey (0x1130) (0xF)
def Od.UTC_OFFSET : Nat := odKey (0x1130) (0x10)
def Od.PTP_DISCARDED : Nat := odKey (0x1130) (0x11)
def Od.TXQ_LOST : Nat := odKey (0x1130) (0x12)
def Od.TIME_MANUAL : Nat := odKey (0x1130) (0x13)
def Od.ALARM_TIME (i : Nat) : Nat := odKey (0x1140 + i) (0x1)
def Od.ALARM_PERIOD (i : Nat) : Nat := odKey (0x1140 + i) (0x2)
def Od.ALARM_ACTION (i : Nat) : Nat := odKey (0x1140 + i) (0x3)
def Od.ALARM_TARGET (i : Nat) : Nat := odKey (0x1140 + i) (0x4)
def Od.ALARM_DOMAIN (i : Nat) : Nat := odKey (0x1140 + i) (0x5)
def Od.ALARM_ARM (i : Nat) : Nat := odKey (0x1140 + i) (0x6)
def Od.ALARM_STATE (i : Nat) : Nat := odKey (0x1140 + i) (0x7)
def Od.ALARM_RESULT (i : Nat) : Nat := odKey (0x1140 + i) (0x8)
def Od.ALARM_FIRES (i : Nat) : Nat := odKey (0x1140 + i) (0x9)
def Od.CREDIT_REFILL : Nat := odKey (0x2020) (0x4)
def Od.THERM_SLOW : Nat := odKey (0x2020) (0x5)
def Od.VIN_WARN_MV : Nat := odKey (0x2020) (0x6)
def Od.GATE_IDLE : Nat := odKey (0x2020) (0x7)
def Od.GATE_DELAY_S : Nat := odKey (0x2020) (0x8)
def Od.START_STAGE : Nat := odKey (0x2030) (0x1)
def Od.STAGE_MS : Nat := odKey (0x2030) (0x2)
def Od.START_FAULTS : Nat := odKey (0x2030) (0x3)
def Od.RESET_CAUSE : Nat := odKey (0x2030) (0x4)
def Od.SHUTDOWN : Nat := odKey (0x2030) (0x5)
def Od.THERMAL_TRIPS : Nat := odKey (0x2030) (0x6)
def Od.SLOT_STRAP : Nat := odKey (0x1002) (0x1)

/-- The entry table. -/
def odTable : List OdDesc :=
  [⟨"RATE_TARGET", 0x3020, 1, 0, 0x1, 1, .u32, .rw, false, [1500], (.range 500 2600 [])⟩,
   ⟨"RATE_POLICY", 0x3020, 1, 0, 0x2, 1, .u8, .rw, false, [0], (.set [0, 1])⟩,
   ⟨"RATE_INTRINSIC", 0x3020, 1, 0, 0x3, 1, .u32, .ro, false, [0], .any⟩,
   ⟨"RATE_ACHIEVED", 0x3020, 1, 0, 0x4, 1, .u32, .ro, false, [0], .any⟩,
   ⟨"RATE_SHORTFALL", 0x3020, 1, 0, 0x5, 1, .bool, .ro, false, [0], .any⟩,
   ⟨"STALL_WATCHDOG", 0x3020, 1, 0, 0x6, 1, .u32, .rw, false, [1000], (.range 10 600000 [])⟩,
   ⟨"VMAP", 0x6040, 16, 256, 0x1, 1, .domain, .ro, false, [0], .any⟩,
   ⟨"VMAP_FOLD", 0x6040, 16, 256, 0x2, 1, .u8, .ro, false, [0], (.set [0, 1, 2, 4])⟩,
   ⟨"VMAP_GEN", 0x6040, 16, 256, 0x3, 1, .u32, .ro, false, [0], .any⟩,
   ⟨"LOAD_STATUS", 0x6041, 16, 256, 0x1, 1, .u32, .ro, false, [0], .any⟩,
   ⟨"LOAD_FOLD", 0x6041, 16, 256, 0x2, 1, .u8, .ro, false, [0], (.set [0, 1, 2, 4])⟩,
   ⟨"SPARES_USED", 0x6041, 16, 256, 0x3, 1, .u16, .ro, false, [0], (.range 0 128 [])⟩,
   ⟨"SLOWER_ELEMENTS", 0x6041, 16, 256, 0x4, 1, .u32, .ro, false, [0], .any⟩,
   ⟨"PRED_SWEEP_PPM", 0x6041, 16, 256, 0x5, 1, .u32, .ro, false, [0], .any⟩,
   ⟨"RETIMED", 0x6041, 16, 256, 0x6, 1, .u16, .ro, false, [0], .any⟩,
   ⟨"CREDIT_LIMIT", 0x6041, 16, 256, 0x7, 1, .u32, .ro, false, [0], .any⟩,
   ⟨"ROUTE_ADDED", 0x6041, 16, 256, 0x8, 1, .u16, .ro, false, [0], .any⟩,
   ⟨"PATTERN_ID", 0x6041, 16, 256, 0x9, 1, (.oct 8), .ro, false, [0], .any⟩,
   ⟨"FAIL_AT", 0x6041, 16, 256, 0xA, 1, .u64, .ro, false, [0], .any⟩,
   ⟨"RETIME_ENABLE", 0x6042, 16, 256, 0x1, 1, .bool, .rwi, false, [1], (.set [0, 1])⟩] ++
  [⟨"FOLD_LIMIT", 0x6042, 16, 256, 0x2, 1, .u8, .rwi, false, [4], (.set [1, 2, 4])⟩,
   ⟨"SEAM_EMULATION_ID", 0x7000, 1, 0, 0x1, 1, (.oct 8), .ro, false, [0], .any⟩,
   ⟨"SEAM_MODULE", 0x7000, 1, 0, 0x2, 1, .u8, .ro, false, [0], (.range 0 63 [])⟩,
   ⟨"SEAM_DIAMETER", 0x7000, 1, 0, 0x3, 1, .u8, .ro, false, [0], (.range 0 63 [])⟩,
   ⟨"LINK_PORT", 0x7001, 1, 0, 0x1, 16, .u8, .rwi, false, [0, 1, 2, 3, 4, 5, 6, 7, 8, 9, 10, 11, 12, 13, 14, 15], (.range 0 15 [])⟩,
   ⟨"LANE_UNCORR_LIMIT", 0x7002, 1, 0, 0x1, 1, .u16, .rw, false, [8], (.range 1 1000 [])⟩,
   ⟨"LANE_CORR_LIMIT", 0x7002, 1, 0, 0x2, 1, .u16, .rw, false, [20000], (.range 100 65535 [])⟩,
   ⟨"PORT_VIOL_LIMIT", 0x7002, 1, 0, 0x3, 1, .u8, .rw, false, [4], (.range 1 64 [])⟩,
   ⟨"SEAM_DOWN_LIMIT", 0x7002, 1, 0, 0x4, 1, .u32, .rw, false, [10000], (.range 100 600000 [])⟩,
   ⟨"SEAM_RETAIN_MIB", 0x6048, 16, 256, 0x1, 1, .u32, .rwi, false, [4096], (.range 64 65536 [])⟩,
   ⟨"SEAM_RETAIN_USED", 0x6048, 16, 256, 0x2, 1, .u32, .ro, false, [0], .any⟩,
   ⟨"STAGE_MIB", 0x6044, 16, 256, 0x1, 1, .u32, .rwi, false, [1024], (.range 16 65536 [])⟩,
   ⟨"STAGE_TIMEOUT", 0x6044, 16, 256, 0x2, 1, .u32, .rw, false, [10000], (.range 100 600000 [])⟩,
   ⟨"DONE_GROUP", 0x6044, 16, 256, 0x3, 1, .bool, .rwi, false, [0], (.set [0, 1])⟩,
   ⟨"START_ON_DONE", 0x6044, 16, 256, 0x4, 1, .bool, .rwi, false, [0], (.set [0, 1])⟩,
   ⟨"STREAM_SEQ_LAST", 0x6044, 16, 256, 0x5, 1, .u64, .ro, false, [0], .any⟩,
   ⟨"CFG_KEY_ID", 0x6044, 16, 256, 0x6, 1, .u16, .ro, false, [0], (.range 0 4095 [])⟩,
   ⟨"STREAM_STATUS", 0x6044, 16, 256, 0x7, 1, .u32, .ro, false, [0], .any⟩,
   ⟨"STREAM_FAIL_AT", 0x6044, 16, 256, 0x8, 1, .u64, .ro, false, [0], .any⟩,
   ⟨"DRIVER_CONFLICT", 0x6044, 16, 256, 0x9, 1, .u64, .ro, false, [0], .any⟩] ++
  [⟨"FRAMES_WRITTEN", 0x6044, 16, 256, 0xA, 1, .u32, .ro, false, [0], .any⟩,
   ⟨"HOLD_US", 0x6044, 16, 256, 0xB, 1, .u32, .ro, false, [0], .any⟩,
   ⟨"DONE_STATE", 0x7300, 1, 0, 0x1, 1, .u8, .ro, false, [0], (.set [0, 1, 2])⟩,
   ⟨"DONE_FALL_ACTION", 0x7300, 1, 0, 0x2, 1, .u8, .rw, false, [0], (.set [0, 1])⟩,
   ⟨"BANK_PREPULL", 0x7300, 1, 0, 0x3, 1, .u16, .rw, false, [0], .any⟩,
   ⟨"PART_STATE", 0x6000, 16, 256, 0x1, 1, .u8, .ro, false, [0], (.range 0 4 [])⟩,
   ⟨"PART_CMD", 0x6000, 16, 256, 0x2, 1, .u8, .wo, false, [0], (.set [1, 2])⟩,
   ⟨"PART_FAIL", 0x6000, 16, 256, 0x3, 1, .u32, .ro, false, [0], .any⟩,
   ⟨"FAIL_FIELD", 0x6000, 16, 256, 0x4, 1, .u16, .ro, false, [0], .any⟩,
   ⟨"ROWS_W", 0x6001, 16, 256, 0x1, 4, .u16, .rwi, false, [0], .any⟩,
   ⟨"HBM_H", 0x6002, 16, 256, 0x1, 4, .u32, .rwi, false, [0], .any⟩,
   ⟨"DMEM_H", 0x6002, 16, 256, 0x5, 4, .u16, .rwi, false, [0], (.range 0 180 [])⟩,
   ⟨"DESC_FIRST_W", 0x6003, 16, 256, 0x1, 4, .u16, .rwi, false, [0], (.range 0 65535 [])⟩,
   ⟨"DESC_COUNT_W", 0x6003, 16, 256, 0x5, 4, .u32, .rwi, false, [0], (.range 0 65536 [])⟩,
   ⟨"BANK_FIRST_W", 0x6003, 16, 256, 0x9, 4, .u16, .rwi, false, [0], (.range 0 2047 [])⟩,
   ⟨"BANK_COUNT_W", 0x6003, 16, 256, 0xD, 4, .u16, .rwi, false, [0], (.range 0 2048 [])⟩,
   ⟨"BRG_TRACK_CARVE", 0x6004, 16, 256, 0x1, 8, .u32, .rwi, false, [0], .any⟩,
   ⟨"STORE_KBIT", 0x6004, 16, 256, 0x9, 1, .u32, .rwi, false, [0], (.range 0 65536 [])⟩,
   ⟨"REGIONS", 0x6004, 16, 256, 0xA, 1, .u16, .rwi, false, [0], .any⟩,
   ⟨"TREES", 0x6004, 16, 256, 0xB, 1, .u8, .rwi, false, [0], .any⟩] ++
  [⟨"LINKS", 0x6004, 16, 256, 0xC, 1, .u16, .rwi, false, [0], .any⟩,
   ⟨"OWNER_KEY_HASH", 0x6005, 16, 256, 0x1, 1, (.oct 48), .rwi, false, [0], .any⟩,
   ⟨"LINE_KEY_ID", 0x6008, 16, 256, 0x1, 1, .u16, .ro, false, [0], (.range 0 4095 [])⟩,
   ⟨"KS_NONCE", 0x6008, 16, 256, 0x2, 1, (.oct 16), .ro, false, [0], .any⟩,
   ⟨"KS_OPEN", 0x6008, 16, 256, 0x3, 1, (.oct 194), .wo, true, [0], .any⟩,
   ⟨"KS_MODULE", 0x6008, 16, 256, 0x4, 1, (.oct 145), .ro, true, [0], .any⟩,
   ⟨"KS_WRAP_CFG", 0x6008, 16, 256, 0x5, 1, (.oct 40), .wo, true, [0], .any⟩,
   ⟨"KS_WRAP_SECTOR", 0x6008, 16, 256, 0x6, 1, (.oct 104), .wo, true, [0], .any⟩,
   ⟨"KS_CLOSE", 0x6008, 16, 256, 0x7, 1, .bool, .wo, true, [0], (.set [1])⟩,
   ⟨"LINE_ROLL", 0x6008, 16, 256, 0x8, 1, .bool, .wo, true, [0], (.set [1])⟩,
   ⟨"REKEY_PERMILLE", 0x6008, 16, 256, 0x9, 1, .u16, .ro, false, [1000], (.range 0 1000 [])⟩,
   ⟨"SECTOR_RETIRE", 0x6008, 16, 256, 0xA, 1, .bool, .wo, true, [0], (.set [1])⟩,
   ⟨"SECTOR_KEY_ID", 0x6008, 16, 256, 0xB, 1, .u32, .ro, false, [0], .any⟩,
   ⟨"INTEGRITY_HALT", 0x4001, 1, 0, 0x1, 1, .bool, .ro, false, [0], .any⟩,
   ⟨"HALT_STACK", 0x4001, 1, 0, 0x2, 1, .u8, .ro, false, [0], (.range 0 3 [])⟩,
   ⟨"HALT_LINE", 0x4001, 1, 0, 0x3, 1, .u32, .ro, false, [0], (.range 0 754974719 [])⟩,
   ⟨"HALT_PARTITION", 0x4001, 1, 0, 0x4, 1, .u8, .ro, false, [0], (.range 0 15 [255])⟩,
   ⟨"HALT_EXTRA", 0x4001, 1, 0, 0x5, 1, .u32, .ro, false, [0], .any⟩,
   ⟨"HALT_TIME", 0x4001, 1, 0, 0x6, 1, .time80, .ro, false, [0], .any⟩,
   ⟨"HEM_OWNER", 0x5001, 1, 0, 0x1, 1, .u8, .rwi, false, [255], (.range 0 15 [255])⟩] ++
  [⟨"HEM_PORT_ALLOW", 0x5001, 1, 0, 0x2, 1, .bool, .rw, true, [0], (.set [0, 1])⟩,
   ⟨"HEM_BUF_MIB", 0x5001, 1, 0, 0x3, 1, .u32, .rwi, false, [0], (.range 0 4096 [])⟩,
   ⟨"HEM_BUF_WRAP", 0x5001, 1, 0, 0x4, 1, .bool, .rwi, false, [1], (.set [0, 1])⟩,
   ⟨"HEM_LOST", 0x5001, 1, 0, 0x5, 1, .u32, .ro, false, [0], .any⟩,
   ⟨"ACQ_UNITS", 0x6046, 16, 256, 0x1, 1, .u16, .rwi, false, [0], .any⟩,
   ⟨"ACQ_PROBE_FIRST", 0x6046, 16, 256, 0x2, 1, .u16, .rwi, false, [0], (.range 0 16383 [])⟩,
   ⟨"ACQ_PROBE_COUNT", 0x6046, 16, 256, 0x3, 1, .u16, .rwi, false, [0], (.range 0 16384 [])⟩,
   ⟨"ACQ_BUF_MIB", 0x6046, 16, 256, 0x4, 1, .u32, .rwi, false, [0], (.range 0 65536 [])⟩,
   ⟨"HOLD", 0x5104, 1, 0, 0x1, 1, .u16, .rw, false, [65535], .any⟩,
   ⟨"WRAP", 0x5104, 1, 0, 0x2, 1, .u16, .rw, false, [0], .any⟩,
   ⟨"QUEUE_ONE", 0x5104, 1, 0, 0x3, 1, .u16, .rw, false, [0], .any⟩,
   ⟨"STREAM_DROP", 0x5104, 1, 0, 0x4, 1, .u16, .rw, false, [0], (.bits 3)⟩,
   ⟨"ACQ_REGS", 0x6047, 16, 256, 0x1, 1, .domain, .rw, false, [0], .any⟩,
   ⟨"SPARE_BP_USED", 0x4010, 1, 0, 0x1, 1, .u16, .ro, false, [0], (.range 0 4224 [])⟩,
   ⟨"SPARE_BP_FAILED", 0x4010, 1, 0, 0x2, 1, .u16, .ro, false, [0], (.range 0 4224 [])⟩,
   ⟨"CLUSTERS_RETIRED", 0x4010, 1, 0, 0x3, 1, .u16, .ro, false, [0], (.range 0 4224 [])⟩,
   ⟨"BRIDGE_SPARES_USED", 0x4010, 1, 0, 0x4, 1, .u16, .ro, false, [0], (.range 0 256 [])⟩,
   ⟨"LANES_SPARED", 0x4010, 1, 0, 0x5, 1, .u8, .ro, false, [0], (.range 0 160 [])⟩,
   ⟨"HBM_PC_RETIRED", 0x4010, 1, 0, 0x6, 1, .u8, .ro, false, [0], .any⟩,
   ⟨"PPR_ROWS_USED", 0x4010, 1, 0, 0x7, 1, .u16, .ro, false, [0], (.range 0 4096 [])⟩] ++
  [⟨"PHASES_LOST", 0x4010, 1, 0, 0x8, 1, .u16, .ro, false, [0], .any⟩,
   ⟨"HEALTH", 0x4010, 1, 0, 0x9, 1, .u8, .ro, false, [0], (.set [0, 1, 2])⟩,
   ⟨"CKPT_INTERVAL", 0x4020, 1, 0, 0x1, 1, .u32, .rw, false, [1048576], (.range 4096 4294963200 [])⟩,
   ⟨"ROLLBACK_LIMIT", 0x4020, 1, 0, 0x2, 1, .u8, .rw, false, [3], (.range 1 15 [])⟩,
   ⟨"ROLLBACKS", 0x4020, 1, 0, 0x3, 1, .u32, .ro, false, [0], .any⟩,
   ⟨"SCRUB_PERIOD", 0x4030, 1, 0, 0x1, 6, .u32, .rw, false, [0], .any⟩,
   ⟨"SCRUB_RANGE", 0x4031, 1, 0, 0x1, 6, .u32, .rw, false, [65535], .any⟩,
   ⟨"SCRUB_MODE", 0x4032, 1, 0, 0x1, 6, .u8, .rw, false, [0], (.set [0, 1])⟩,
   ⟨"CKPT_LAST", 0x6049, 16, 256, 0x1, 1, .u64, .ro, false, [0], .any⟩,
   ⟨"INLOG_MIB", 0x6049, 16, 256, 0x2, 1, .u32, .rwi, false, [1024], (.range 16 65536 [])⟩,
   ⟨"UNDO_MIB", 0x6049, 16, 256, 0x3, 1, .u32, .rwi, false, [4096], (.range 16 65536 [])⟩,
   ⟨"SPILL", 0x6049, 16, 256, 0x4, 1, .u8, .rw, false, [0], (.set [0, 1, 2])⟩,
   ⟨"SPILL_QUEUE", 0x6049, 16, 256, 0x5, 1, .u16, .rwi, false, [0], (.range 0 1023 [])⟩,
   ⟨"SPILL_LAST", 0x6049, 16, 256, 0x6, 1, (.oct 16), .ro, false, [0], .any⟩,
   ⟨"PART_ROLLBACKS", 0x6049, 16, 256, 0x7, 1, .u32, .ro, false, [0], .any⟩,
   ⟨"LAST_STOP", 0x6049, 16, 256, 0x8, 1, .u32, .ro, false, [0], .any⟩,
   ⟨"LOG_NEWEST", 0x1210, 1, 0, 0x1, 1, .u64, .ro, false, [0], .any⟩,
   ⟨"LOG_OLDEST", 0x1210, 1, 0, 0x2, 1, .u64, .ro, false, [0], .any⟩,
   ⟨"LOG_CURSOR", 0x1210, 1, 0, 0x3, 1, .u64, .rw, false, [0], .any⟩,
   ⟨"LOG_READ", 0x1210, 1, 0, 0x4, 1, (.oct 1024), .ro, false, [0], .any⟩] ++
  [⟨"LOG_DROPPED", 0x1210, 1, 0, 0x5, 1, .u32, .ro, false, [0], .any⟩,
   ⟨"LOG_ERASE_MAX", 0x1210, 1, 0, 0x6, 1, .u32, .ro, false, [0], .any⟩,
   ⟨"LOG_AREA", 0x1210, 1, 0, 0x7, 1, .u8, .ro, false, [0], (.set [0, 1])⟩,
   ⟨"DEVICE_TYPE", 0x1000, 1, 0, 0x1, 1, (.str 12), .const, false, [3474022652186280513], .any⟩,
   ⟨"SERIAL", 0x1001, 1, 0, 0x1, 1, (.str 12), .ro, false, [0], .any⟩,
   ⟨"ASSEMBLY_LOT", 0x1001, 1, 0, 0x2, 1, (.str 8), .ro, false, [0], .any⟩,
   ⟨"DATE_CODE", 0x1001, 1, 0, 0x3, 1, (.str 4), .ro, false, [0], .any⟩,
   ⟨"GRADE", 0x1001, 1, 0, 0x4, 1, .u8, .ro, false, [0], (.set [1, 2])⟩,
   ⟨"ID_KEY", 0x1001, 1, 0, 0x5, 1, (.oct 49), .ro, false, [0], .any⟩,
   ⟨"ID_CERT", 0x1001, 1, 0, 0x6, 1, .domain, .ro, false, [0], .any⟩,
   ⟨"ATTEST", 0x1001, 1, 0, 0x7, 1, (.oct 112), .ro, false, [0], .any⟩,
   ⟨"ATTEST_NONCE", 0x1001, 1, 0, 0x8, 1, (.oct 16), .ro, false, [0], .any⟩,
   ⟨"DIE_LOT", 0x1010, 5, 1, 0x1, 1, (.str 8), .ro, false, [0], .any⟩,
   ⟨"DIE_WAFER", 0x1010, 5, 1, 0x2, 1, .u8, .ro, false, [0], .any⟩,
   ⟨"DIE_X", 0x1010, 5, 1, 0x3, 1, .i32, .ro, false, [0], .any⟩,
   ⟨"DIE_Y", 0x1010, 5, 1, 0x4, 1, .i32, .ro, false, [0], .any⟩,
   ⟨"DIE_STEPPING", 0x1010, 5, 1, 0x5, 1, (.str 2), .ro, false, [0], .any⟩,
   ⟨"HBM_DEVICE_ID", 0x1020, 4, 1, 0x1, 1, (.oct 16), .ro, false, [0], .any⟩,
   ⟨"HBM_VENDOR", 0x1020, 4, 1, 0x2, 1, .u8, .ro, false, [0], .any⟩,
   ⟨"HBM_RAW_GIB", 0x1020, 4, 1, 0x3, 1, .u16, .ro, false, [48], .any⟩] ++
  [⟨"FW_RUNNING", 0x2002, 1, 0, 0x1, 1, .u32, .ro, false, [0], .any⟩,
   ⟨"FW_SLOT_A", 0x2002, 1, 0, 0x2, 1, .u32, .ro, false, [0], .any⟩,
   ⟨"FW_SLOT_B", 0x2002, 1, 0, 0x3, 1, .u32, .ro, false, [0], .any⟩,
   ⟨"FW_COMMITTED", 0x2002, 1, 0, 0x4, 1, .u8, .ro, false, [0], (.set [0, 1])⟩,
   ⟨"FUSE_STEPS_USED", 0x2002, 1, 0, 0x5, 1, .u8, .ro, false, [0], (.range 0 96 [])⟩,
   ⟨"FW_STATUS", 0x2002, 1, 0, 0x6, 1, .u32, .ro, false, [0], .any⟩,
   ⟨"COL_HOLDER", 0x2001, 1, 0, 0x1, 1, .u8, .ro, false, [255], (.set [0, 1, 255])⟩,
   ⟨"COL_A_STATE", 0x2001, 1, 0, 0x2, 1, .u8, .ro, false, [1], (.range 0 4 [])⟩,
   ⟨"COL_B_STATE", 0x2001, 1, 0, 0x3, 1, .u8, .ro, false, [1], (.range 0 4 [])⟩,
   ⟨"COL_FAILOVERS", 0x2001, 1, 0, 0x4, 1, .u32, .ro, false, [0], .any⟩,
   ⟨"FW_IMAGE", 0x2003, 1, 0, 0x1, 1, .domain, .wo, false, [0], .any⟩,
   ⟨"FW_START", 0x2003, 1, 0, 0x2, 1, .bool, .wo, false, [0], (.set [1])⟩,
   ⟨"FW_CONFIRM_S", 0x2003, 1, 0, 0x3, 1, .u16, .rw, false, [60], (.range 10 3600 [])⟩,
   ⟨"FW_ABORT", 0x2003, 1, 0, 0x4, 1, .bool, .wo, false, [0], (.set [1])⟩,
   ⟨"FW_FORCE_SINGLE", 0x2003, 1, 0, 0x5, 1, .bool, .rw, false, [0], (.set [0, 1])⟩,
   ⟨"SNS_CAL_PERIOD", 0x2011, 1, 0, 0x1, 1, .u32, .rw, false, [3600], (.range 60 86400 [])⟩,
   ⟨"CLAMP_TOTAL", 0x1200, 1, 0, 0x1, 1, .u32, .ro, false, [0], .any⟩,
   ⟨"CLAMP_LAST", 0x1200, 1, 0, 0x2, 1, (.oct 40), .ro, false, [0], .any⟩,
   ⟨"CLAMP_RING", 0x1200, 1, 0, 0x3, 1, .domain, .ro, false, [0], .any⟩,
   ⟨"CLAMP_CLEAR", 0x1200, 1, 0, 0x4, 1, .bool, .wo, false, [0], (.set [1])⟩] ++
  [⟨"RUN_CMD", 0x3100, 16, 1, 0x1, 1, .u8, .wo, false, [0], (.set [1, 2, 3])⟩,
   ⟨"RUN_STATE", 0x3100, 16, 1, 0x2, 1, .u8, .ro, false, [0], (.range 0 4 [])⟩,
   ⟨"RUN_ECYCLE", 0x3100, 16, 1, 0x3, 1, .u64, .ro, false, [0], .any⟩,
   ⟨"STOP_ECYCLE", 0x3100, 16, 1, 0x4, 1, .u64, .rw, false, [18446744073709551615], .any⟩,
   ⟨"STEP_COUNT", 0x3100, 16, 1, 0x5, 1, .u32, .rw, false, [1], (.range 1 4294967295 [])⟩,
   ⟨"PAUSE_REASON", 0x3100, 16, 1, 0x6, 1, .u8, .ro, false, [0], (.range 0 6 [])⟩,
   ⟨"BREAK_ECYCLE", 0x3100, 16, 1, 0x7, 1, .u64, .ro, false, [0], .any⟩,
   ⟨"POWER_CAP", 0x2020, 1, 0, 0x1, 1, .u16, .rw, false, [700], (.range 150 700 [])⟩,
   ⟨"POWER_NOW", 0x2020, 1, 0, 0x2, 1, .u16, .ro, false, [0], .any⟩,
   ⟨"POWER_CAPPED", 0x2020, 1, 0, 0x3, 1, .bool, .ro, false, [0], .any⟩,
   ⟨"ETH_MODE", 0x1100, 1, 0, 0x1, 1, .u8, .rw, false, [0], (.set [0, 1])⟩,
   ⟨"ETH_ACTIVE", 0x1100, 1, 0, 0x2, 1, .u8, .ro, false, [0], (.set [0, 1])⟩,
   ⟨"ETH_FAILOVERS", 0x1100, 1, 0, 0x3, 1, .u32, .ro, false, [0], .any⟩,
   ⟨"MAC", 0x1101, 2, 1, 0x1, 1, (.oct 6), .ro, false, [0], .any⟩,
   ⟨"LINK", 0x1101, 2, 1, 0x2, 1, .u8, .ro, false, [0], (.range 0 2 [])⟩,
   ⟨"PHY_MODE", 0x1101, 2, 1, 0x3, 1, .u8, .rw, false, [0], (.set [0, 1])⟩,
   ⟨"IPV4_ADDR", 0x1101, 2, 1, 0x4, 1, .u32, .rw, false, [0], .any⟩,
   ⟨"IPV4_PREFIX", 0x1101, 2, 1, 0x5, 1, .u8, .rw, false, [24], (.range 0 32 [])⟩,
   ⟨"IPV4_GW", 0x1101, 2, 1, 0x6, 1, .u32, .rw, false, [0], .any⟩,
   ⟨"DHCP", 0x1101, 2, 1, 0x7, 1, .bool, .rw, false, [1], (.set [0, 1])⟩] ++
  [⟨"IPV6_ADDR", 0x1101, 2, 1, 0x8, 1, (.oct 16), .rw, false, [0], .any⟩,
   ⟨"IPV6_PREFIX", 0x1101, 2, 1, 0x9, 1, .u8, .rw, false, [64], (.range 0 128 [])⟩,
   ⟨"VLAN_ID", 0x1101, 2, 1, 0xA, 1, .u16, .rw, false, [0], (.range 0 4094 [])⟩,
   ⟨"ASYMMETRY", 0x1101, 2, 1, 0xB, 1, .i32, .rw, false, [0], (.range (-1000000) 1000000 [])⟩,
   ⟨"RX_DISCARDED", 0x1101, 2, 1, 0xC, 1, .u32, .ro, false, [0], .any⟩,
   ⟨"PAP_PORT", 0x1120, 1, 0, 0x1, 1, .u16, .rw, false, [48620], (.range 1024 65535 [])⟩,
   ⟨"PAP_OWNER_KEY_HASH", 0x1120, 1, 0, 0x2, 1, (.oct 48), .rw, false, [0], .any⟩,
   ⟨"PAP_SESSION_TIMEOUT", 0x1120, 1, 0, 0x3, 1, .u32, .rw, false, [30], (.range 5 3600 [])⟩,
   ⟨"PAP_ABORT_INTERVAL", 0x1120, 1, 0, 0x4, 1, .u16, .rw, false, [10], (.range 1 10000 [])⟩,
   ⟨"PAP_SESSIONS", 0x1120, 1, 0, 0x5, 1, .u8, .ro, false, [0], (.range 0 16 [])⟩,
   ⟨"PAP_DISCARDED", 0x1120, 1, 0, 0x6, 1, .u32, .ro, false, [0], .any⟩,
   ⟨"PAP_ABORTS_SUPPRESSED", 0x1120, 1, 0, 0x7, 1, .u32, .ro, false, [0], .any⟩,
   ⟨"PAP_ANON", 0x1120, 1, 0, 0x8, 1, .bool, .rw, false, [1], (.set [0, 1])⟩,
   ⟨"A_PTP_DOMAIN", 0x1130, 1, 0, 0x1, 1, .u8, .rw, false, [0], (.range 0 239 [])⟩,
   ⟨"B_PTP_DOMAIN", 0x1130, 1, 0, 0x2, 1, .u8, .rw, false, [255], (.range 0 239 [255])⟩,
   ⟨"TIME_SWITCH", 0x1130, 1, 0, 0x3, 1, .bool, .wo, false, [0], (.set [1])⟩,
   ⟨"DOMAIN_SPLIT_LIMIT", 0x1130, 1, 0, 0x4, 1, .u32, .rw, false, [1000], (.range 50 1000000000 [])⟩,
   ⟨"SPLIT_NOW", 0x1130, 1, 0, 0x5, 1, .i64, .ro, false, [0], .any⟩,
   ⟨"SPLIT_STATE", 0x1130, 1, 0, 0x6, 1, .bool, .ro, false, [0], .any⟩,
   ⟨"SPLIT_EVENTS", 0x1130, 1, 0, 0x7, 1, .u32, .ro, false, [0], .any⟩] ++
  [⟨"A_PORT", 0x1130, 1, 0, 0x8, 1, .u8, .rw, false, [0], (.set [0, 1])⟩,
   ⟨"B_PORT", 0x1130, 1, 0, 0x9, 1, .u8, .rw, false, [1], (.set [0, 1])⟩,
   ⟨"A_STATE", 0x1130, 1, 0, 0xA, 1, .u8, .ro, false, [0], (.range 0 3 [])⟩,
   ⟨"B_STATE", 0x1130, 1, 0, 0xB, 1, .u8, .ro, false, [0], (.range 0 2 [])⟩,
   ⟨"A_OFFSET", 0x1130, 1, 0, 0xC, 1, .i64, .ro, false, [0], .any⟩,
   ⟨"B_OFFSET", 0x1130, 1, 0, 0xD, 1, .i64, .ro, false, [0], .any⟩,
   ⟨"A_MASTER", 0x1130, 1, 0, 0xE, 1, (.oct 10), .ro, false, [0], .any⟩,
   ⟨"B_MASTER", 0x1130, 1, 0, 0xF, 1, (.oct 10), .ro, false, [0], .any⟩,
   ⟨"UTC_OFFSET", 0x1130, 1, 0, 0x10, 1, .i32, .ro, false, [0], .any⟩,
   ⟨"PTP_DISCARDED", 0x1130, 1, 0, 0x11, 1, .u32, .ro, false, [0], .any⟩,
   ⟨"TXQ_LOST", 0x1130, 1, 0, 0x12, 1, .u32, .ro, false, [0], .any⟩,
   ⟨"TIME_MANUAL", 0x1130, 1, 0, 0x13, 1, .time80, .wo, false, [0], .any⟩,
   ⟨"ALARM_TIME", 0x1140, 8, 1, 0x1, 1, .time80, .rw, false, [0], .any⟩,
   ⟨"ALARM_PERIOD", 0x1140, 8, 1, 0x2, 1, .u64, .rw, false, [0], (.range 1000 1000000000000000 [0])⟩,
   ⟨"ALARM_ACTION", 0x1140, 8, 1, 0x3, 1, .u8, .rw, false, [0], (.range 0 4 [])⟩,
   ⟨"ALARM_TARGET", 0x1140, 8, 1, 0x4, 1, .u8, .rw, false, [0], (.range 0 15 [])⟩,
   ⟨"ALARM_DOMAIN", 0x1140, 8, 1, 0x5, 1, .u8, .rw, false, [0], (.set [0, 1])⟩,
   ⟨"ALARM_ARM", 0x1140, 8, 1, 0x6, 1, .bool, .wo, false, [0], (.set [0, 1])⟩,
   ⟨"ALARM_STATE", 0x1140, 8, 1, 0x7, 1, .u8, .ro, false, [0], (.range 0 2 [])⟩,
   ⟨"ALARM_RESULT", 0x1140, 8, 1, 0x8, 1, .u32, .ro, false, [0], .any⟩] ++
  [⟨"ALARM_FIRES", 0x1140, 8, 1, 0x9, 1, .u32, .ro, false, [0], .any⟩,
   ⟨"CREDIT_REFILL", 0x2020, 1, 0, 0x4, 1, .u16, .rw, false, [1000], (.range 64 8000 [])⟩,
   ⟨"THERM_SLOW", 0x2020, 1, 0, 0x5, 1, .u8, .rw, false, [100], (.range 70 110 [])⟩,
   ⟨"VIN_WARN_MV", 0x2020, 1, 0, 0x6, 1, .u16, .rw, false, [5600], (.range 5600 36000 [])⟩,
   ⟨"GATE_IDLE", 0x2020, 1, 0, 0x7, 1, .bool, .rw, false, [1], (.set [0, 1])⟩,
   ⟨"GATE_DELAY_S", 0x2020, 1, 0, 0x8, 1, .u16, .rw, false, [10], (.range 1 3600 [])⟩,
   ⟨"START_STAGE", 0x2030, 1, 0, 0x1, 1, .u8, .ro, false, [0], (.range 0 3 [])⟩,
   ⟨"STAGE_MS", 0x2030, 1, 0, 0x2, 1, (.oct 12), .ro, false, [0], .any⟩,
   ⟨"START_FAULTS", 0x2030, 1, 0, 0x3, 1, .u32, .ro, false, [0], .any⟩,
   ⟨"RESET_CAUSE", 0x2030, 1, 0, 0x4, 1, .u8, .ro, false, [0], (.range 0 5 [])⟩,
   ⟨"SHUTDOWN", 0x2030, 1, 0, 0x5, 1, .bool, .wo, false, [0], (.set [1])⟩,
   ⟨"THERMAL_TRIPS", 0x2030, 1, 0, 0x6, 1, .u32, .ro, false, [0], .any⟩,
   ⟨"SLOT_STRAP", 0x1002, 1, 0, 0x1, 1, .u8, .ro, false, [0], (.range 0 15 [])⟩]

end Sys2Proof.Machine
end

