-- ==== Sys2Proof/Machine/RegTable.lean ====
section
/-! DEFINITION. The register map: the NoC address of every register the chapters of spec/ describe (R27, R30, R35,
and the offset each register paragraph gives), its fields with bit positions, Access code (R5) and Reset value (R7).
Names are the spec's own. BAR2 (object-dictionary mirror) and the BAR4 queue blocks have no NoC address in the spec;
they are numbered from 2^48 up, outside the 48-bit NoC address space (assumption 4). -/

namespace Sys2Proof.Machine

/-- The Access codes of R5. -/
inductive Access where
  | ro | rw | wo | w1c | w1s | rc
deriving DecidableEq, Repr

/-- A field of a register, `[hi:lo]`. -/
structure Fld where
  hi : Nat
  lo : Nat
deriving DecidableEq, Repr

/-- One row of a register table: the bits, the Access code and the Reset value. -/
structure FieldDesc where
  fld   : Fld
  acc   : Access
  reset : Nat
deriving Repr

/-- One register, or an array of registers: the offset of its first element within its window, and (count, stride) for
each index, the largest stride first. -/
structure RegDesc where
  name   : String
  off    : Nat
  dims   : List (Nat × Nat)
  fields : List FieldDesc
deriving Repr

/-- The base of a cluster window (R29). -/
def clusterBase (c : ClusterId) : Nat :=
  0x010100000000 + 0x1000000000 * c.die.val + 0x8000000 * c.col.val + 0x400000 * c.row.val

/-- The base of a cluster's registers (R30). -/
def clusterRegBase (c : ClusterId) : Nat := clusterBase c + 0x3F0000

/-- The base of BAR0 in the NoC address space (R27). -/
def bar0 : Nat := 0x020000000000

/-- Model-private base of the BAR2 mirror blocks (R442). -/
def mirrorBase : Nat := 0x1000000000000

/-- Model-private base of the BAR4 queue blocks (R483). -/
def dmaqBase : Nat := 0x1000100000000


/-! Addresses, chapter 02. -/

def Reg.BP_CL_CTRL (c : ClusterId) : Nat := clusterRegBase c + 0x0
def Reg.BP_CL_STATUS (c : ClusterId) : Nat := clusterRegBase c + 0x4
def Reg.BP_SWEEP_LEN (c : ClusterId) : Nat := clusterRegBase c + 0x8
def Reg.BP_SPARE_MAP (c : ClusterId) : Nat := clusterRegBase c + 0xC
def Reg.BP_SPLIT_CNT (c : ClusterId) : Nat := clusterRegBase c + 0x10
def Reg.BP_DUPW_CNT (c : ClusterId) : Nat := clusterRegBase c + 0x14
def Reg.BP_ILLEGAL (c : ClusterId) : Nat := clusterRegBase c + 0x18
def Reg.BP_PTRBASE (c : ClusterId) (k : Nat) : Nat := clusterRegBase c + 0x100 + 4 * k
def Reg.BP_WORD_LAT (i : Nat) : Nat := 0x20002000000 + 0x100000 * i
def Reg.BP_DIE_SPLIT_SUM (i : Nat) : Nat := 0x20002000004 + 0x100000 * i

/-! Addresses, chapter 03. -/

def Reg.BP_STALL_CLR (c : ClusterId) : Nat := clusterRegBase c + 0x1C
def Reg.BP_PROGRESS (c : ClusterId) : Nat := clusterRegBase c + 0x20
def Reg.BP_STALL_CNT (c : ClusterId) (k : Nat) : Nat := clusterRegBase c + 0x40 + 4 * k
def Reg.BP_RATE_METER (i : Nat) : Nat := 0x20002000010 + 0x100000 * i
def Reg.BP_ECYCLE_LO (i : Nat) (j : Nat) : Nat := 0x20002000100 + 0x100000 * i + 0x8 * j
def Reg.BP_ECYCLE_HI (i : Nat) (j : Nat) : Nat := 0x20002000104 + 0x100000 * i + 0x8 * j
def Reg.SNS_DLYMON (i : Nat) (j : Nat) : Nat := 0x20000101000 + 0x80 * i + 0x4 * j
def Reg.SNS_DLYMON_YOKE (i : Nat) : Nat := 0x20000101200 + 0x4 * i

/-! Addresses, chapter 04. -/

def Reg.WRP_CL_CTRL (c : ClusterId) : Nat := clusterRegBase c + 0x400
def Reg.WRP_TAG_FAULT (c : ClusterId) : Nat := clusterRegBase c + 0x404
def Reg.WRP_TAG_DETAIL (c : ClusterId) : Nat := clusterRegBase c + 0x408
def Reg.WRP_TAG_RCVD (c : ClusterId) : Nat := clusterRegBase c + 0x40C
def Reg.WRP_BP_CNT (c : ClusterId) : Nat := clusterRegBase c + 0x410
def Reg.WRP_QUEUE_PEAK (c : ClusterId) : Nat := clusterRegBase c + 0x414
def Reg.WRP_LAT (i : Nat) : Nat := 0x20002400000 + 0x100000 * i
def Reg.WRP_FAULT_SUM (i : Nat) : Nat := 0x20002400004 + 0x100000 * i
def Reg.WRP_BP_SUM (i : Nat) : Nat := 0x20002400008 + 0x100000 * i
def Reg.BRG_STATUS (i : Nat) (j : Nat) : Nat := 0x20002800000 + 0x100000 * i + 0x10000 * j
def Reg.BRG_CODE_ERR_CNT (i : Nat) (j : Nat) : Nat := 0x20002800004 + 0x100000 * i + 0x10000 * j
def Reg.BRG_TRACKS (i : Nat) (j : Nat) : Nat := 0x20002800008 + 0x100000 * i + 0x10000 * j
def Reg.BRG_SPARE_OUT (i : Nat) (j : Nat) (k : Nat) : Nat := 0x20002800100 + 0x100000 * i + 0x10000 * j + 0x4 * k
def Reg.BRG_SPARE_IN (i : Nat) (j : Nat) (k : Nat) : Nat := 0x20002800200 + 0x100000 * i + 0x10000 * j + 0x4 * k

/-! Addresses, chapter 05. -/

def Reg.DMEM_LAT (i : Nat) : Nat := 0x20002C00000 + 0x100000 * i
def Reg.DMEM_STATUS (i : Nat) : Nat := 0x20002C00004 + 0x100000 * i
def Reg.DMEM_CTRL (i : Nat) : Nat := 0x20002C00008 + 0x100000 * i
def Reg.DMEM_PART_IDLE (i : Nat) : Nat := 0x20002C0000C + 0x100000 * i
def Reg.DMEM_DESC_IDX (i : Nat) : Nat := 0x20002C00010 + 0x100000 * i
def Reg.DMEM_DESC_W (i : Nat) (j : Nat) : Nat := 0x20002C00014 + 0x100000 * i + 0x4 * j
def Reg.DMEM_OOR_CNT (i : Nat) : Nat := 0x20002C00030 + 0x100000 * i
def Reg.DMEM_RO_WR_CNT (i : Nat) : Nat := 0x20002C00034 + 0x100000 * i
def Reg.DMEM_FAULT (i : Nat) : Nat := 0x20002C00040 + 0x100000 * i
def Reg.DMEM_FAULT_SRC (i : Nat) : Nat := 0x20002C00044 + 0x100000 * i
def Reg.DMEM_HBM_PEAK (i : Nat) : Nat := 0x20002C00050 + 0x100000 * i
def Reg.DMEM_FILL_BANKS (i : Nat) : Nat := 0x20002C00064 + 0x100000 * i
def Reg.DMEM_FILL_DATA (i : Nat) : Nat := 0x20002C00068 + 0x100000 * i
def Reg.DMEM_FILL_CTRL (i : Nat) : Nat := 0x20002C00060 + 0x100000 * i

/-! Addresses, chapter 07. -/

def Reg.SEAM_CTRL (i : Nat) : Nat := 0x20001400000 + 0x40000 * i
def Reg.SEAM_STATUS (i : Nat) : Nat := 0x20001400004 + 0x40000 * i
def Reg.SEAM_LANE (i : Nat) (j : Nat) : Nat := 0x20001400010 + 0x40000 * i + 0x4 * j
def Reg.SEAM_CNT (i : Nat) (j : Nat) : Nat := 0x20001400030 + 0x40000 * i + 0x4 * j
def Reg.SEAM_PEER_DONE_LO (i : Nat) : Nat := 0x20001400044 + 0x40000 * i
def Reg.SEAM_PEER_DONE_HI (i : Nat) : Nat := 0x20001400048 + 0x40000 * i

/-! Addresses, chapter 08. -/

def Reg.CUFF_STATUS : Nat := 0x20001800000
def Reg.CUFF_CTRL : Nat := 0x20001800004
def Reg.CUFF_DRVX_CNT : Nat := 0x20001800008
def Reg.CUFF_DRVX_CAP : Nat := 0x2000180000C
def Reg.CUFF_BANK (i : Nat) : Nat := 0x20001800100 + 0x4 * i
def Reg.CUFF_FP_STATUS (i : Nat) : Nat := 0x20001800200 + 0x20 * i
def Reg.CUFF_FP_OUT_FILL (i : Nat) : Nat := 0x20001800204 + 0x20 * i
def Reg.CUFF_FP_DROP_CNT (i : Nat) : Nat := 0x20001800208 + 0x20 * i
def Reg.CUFF_FP_UNDER_CNT (i : Nat) : Nat := 0x2000180020C + 0x20 * i
def Reg.CUFF_FP_SUPERSEDED_CNT (i : Nat) : Nat := 0x20001800210 + 0x20 * i
def Reg.CUFF_FP_BOUND (i : Nat) : Nat := 0x20001800214 + 0x20 * i
def Reg.CUFF_FP_MOVED (i : Nat) : Nat := 0x20001800218 + 0x20 * i

/-! Addresses, chapter 09. -/

def Reg.CFG_STATUS : Nat := 0x20000B00000
def Reg.CFG_REGION : Nat := 0x20000B00004
def Reg.CFG_DONE_CTRL : Nat := 0x20000B00008
def Reg.CFG_READBACK_CNT : Nat := 0x20000B0000C
def Reg.CFG_DONE_FALL_CNT : Nat := 0x20000B00010

/-! Addresses, chapter 10. -/

def Reg.HBM_STATUS (i : Nat) : Nat := 0x20001000000 + 0x100000 * i
def Reg.HBM_CE_CNT (i : Nat) : Nat := 0x20001000004 + 0x100000 * i
def Reg.HBM_UE_CNT (i : Nat) : Nat := 0x20001000008 + 0x100000 * i
def Reg.HBM_TAG_RETRY_CNT (i : Nat) : Nat := 0x2000100000C + 0x100000 * i
def Reg.HBM_TAG_CAP (i : Nat) : Nat := 0x20001000010 + 0x100000 * i
def Reg.XTS_IDS : Nat := 0x20000E00000
def Reg.XTS_SLOT (i : Nat) : Nat := 0x20000E00100 + 0x4 * i
def Reg.PART_STATE (i : Nat) : Nat := 0x20000700000 + 0x4 * i

/-! Addresses, chapter 11. -/

def Reg.NOC_CTRL : Nat := 0x20000A00000
def Reg.NOC_STATUS : Nat := 0x20000A00004
def Reg.NOC_TIMEOUT : Nat := 0x20000A00008
def Reg.NOC_RT_SWAP : Nat := 0x20000A0000C
def Reg.NOC_ASLEEP_CNT : Nat := 0x20000A00020
def Reg.NOC_UNMAPPED_CNT : Nat := 0x20000A00024
def Reg.NOC_LOOP_CNT : Nat := 0x20000A00028
def Reg.NOC_LATE_CNT : Nat := 0x20000A0002C
def Reg.NOC_FCHK_CNT : Nat := 0x20000A00030
def Reg.NOC_DROP_CNT : Nat := 0x20000A00034
def Reg.NOC_ERR_CAP : Nat := 0x20000A00040
def Reg.NOC_DOM (i : Nat) : Nat := 0x20000A01000 + 0x4 * i

/-! Addresses, chapter 12. -/

def Reg.HEM_CTRL : Nat := 0x20000C00000
def Reg.HEM_STATUS : Nat := 0x20000C00004
def Reg.HEM_PORT : Nat := 0x20000C00008
def Reg.HEM_START_SEL : Nat := 0x20000C0000C
def Reg.HEM_STOP_SEL : Nat := 0x20000C00010
def Reg.HEM_ECYC_START_LO : Nat := 0x20000C00014
def Reg.HEM_ECYC_START_HI : Nat := 0x20000C00018
def Reg.HEM_STOP_DELAY : Nat := 0x20000C0001C
def Reg.HEM_MARK_MATCH : Nat := 0x20000C00020
def Reg.HEM_PACE : Nat := 0x20000C00024
def Reg.HEM_LOST_CNT : Nat := 0x20000C00028
def Reg.HEM_BUF_WPTR : Nat := 0x20000C0002C
def Reg.HEM_WATCH_CFG (i : Nat) : Nat := 0x20000C00100 + 0x10 * i
def Reg.HEM_WATCH_MASK (i : Nat) : Nat := 0x20000C00104 + 0x10 * i
def Reg.HEM_WATCH_RANGE (i : Nat) : Nat := 0x20000C00108 + 0x10 * i
def Reg.HEM_WATCH_PHYS (i : Nat) : Nat := 0x20000C0010C + 0x10 * i

/-! Addresses, chapter 13. -/

def Reg.ACQ_STATUS : Nat := 0x20000D00000
def Reg.ACQ_TRIG_IN (i : Nat) : Nat := 0x20000D00010 + 0x4 * i
def Reg.ACQ_TRIG_OUT (i : Nat) : Nat := 0x20000D00020 + 0x4 * i
def Reg.ACQ_BUS_CNT : Nat := 0x20000D00030
def Reg.ACQ_U_CTRL (i : Nat) : Nat := 0x20000D01000 + 0x100 * i
def Reg.ACQ_U_STATUS (i : Nat) : Nat := 0x20000D01004 + 0x100 * i
def Reg.ACQ_U_CFG (i : Nat) : Nat := 0x20000D01008 + 0x100 * i

/-! Addresses, chapter 14. -/

def Reg.LNG_STATUS : Nat := 0x20000600000
def Reg.LNG_ROLLBACK_CNT : Nat := 0x20000600004
def Reg.LNG_SCRUB_CFG (i : Nat) : Nat := 0x20000600100 + 0x10 * i
def Reg.LNG_SCRUB_RANGE (i : Nat) : Nat := 0x20000600104 + 0x10 * i
def Reg.LNG_SCRUB_DIAG (i : Nat) : Nat := 0x20000600108 + 0x10 * i

/-! Addresses, chapter 15. -/

def Reg.COL_LEASE : Nat := 0x20000000000
def Reg.COL_SELF : Nat := 0x20000000004
def Reg.COL_STATE (i : Nat) : Nat := 0x20000000010 + 0x4 * i
def Reg.COL_REFUSED_CNT : Nat := 0x20000000020
def Reg.SNS_TEMP (i : Nat) (j : Nat) : Nat := 0x20000100000 + 0x40 * i + 0x4 * j
def Reg.SNS_HBM_TEMP (i : Nat) : Nat := 0x20000100140 + 0x4 * i
def Reg.SNS_RAIL_V (i : Nat) : Nat := 0x20000100200 + 0x8 * i
def Reg.SNS_RAIL_I (i : Nat) : Nat := 0x20000100204 + 0x8 * i
def Reg.SNS_VIN : Nat := 0x20000100280
def Reg.SNS_IIN : Nat := 0x20000100284
def Reg.SNS_CAL : Nat := 0x20000100300
def Reg.COL_FUSE : Nat := 0x20000000030
def Reg.COL_BOOT : Nat := 0x20000000040
def Reg.COL_RECOVERY : Nat := 0x20000000080
def Reg.COL_RECOVERY_STATUS : Nat := 0x20000000084

/-! Addresses, chapter 16. -/

def Reg.COL_OD_CMD (i : Nat) : Nat := 0x1000000000000 + 0x1000 * i
def Reg.COL_OD_OFFSET (i : Nat) : Nat := 0x1000000000004 + 0x1000 * i
def Reg.COL_OD_LEN (i : Nat) : Nat := 0x1000000000008 + 0x1000 * i
def Reg.COL_OD_STATUS (i : Nat) : Nat := 0x100000000000C + 0x1000 * i
def Reg.COL_OD_CODE (i : Nat) : Nat := 0x1000000000010 + 0x1000 * i

/-! Addresses, chapter 17. -/

def Reg.TIME_CTRL : Nat := 0x20000400000
def Reg.TIME_TXQ_STATUS : Nat := 0x20000400050
def Reg.TIME_TXQ_W0 : Nat := 0x20000400060
def Reg.TIME_ALARM_CTRL (i : Nat) : Nat := 0x20000400100 + 0x20 * i

/-! Addresses, chapter 18. -/

def Reg.MBX_H2M_CTRL (i : Nat) : Nat := 0x20000900040 + 0x1000 * i
def Reg.MBX_M2H_CTRL (i : Nat) : Nat := 0x200009000C0 + 0x1000 * i
def Reg.MBX_H2M_LOCK (i : Nat) : Nat := 0x20000900044 + 0x1000 * i
def Reg.MBX_M2H_LOCK (i : Nat) : Nat := 0x200009000C4 + 0x1000 * i
def Reg.MBX_STATUS (i : Nat) : Nat := 0x20000900100 + 0x1000 * i
def Reg.PCI_LINK : Nat := 0x20000800000
def Reg.PCI_EVENT : Nat := 0x20000800004
def Reg.PCI_HOSTERR : Nat := 0x20000800008

/-! Addresses, chapter 19. -/

def Reg.PWR_STATUS : Nat := 0x20000300000
def Reg.PWR_VIN_WARN : Nat := 0x20000300004
def Reg.PWR_VCORE (i : Nat) : Nat := 0x20000300010 + 0x4 * i
def Reg.PWR_CREDIT (i : Nat) : Nat := 0x20000300030 + 0x4 * i
def Reg.PWR_CREDIT_MW (i : Nat) : Nat := 0x20000300040 + 0x4 * i
def Reg.PWR_HEADROOM : Nat := 0x20000300050

/-! Addresses, chapter 11. -/

def Reg.NOC_ERR_CODE : Nat := 0x20000A00044
def Reg.NOC_RT_SH (i : Nat) (j : Nat) : Nat := 0x20000A20000 + 0x400 * i + 0x4 * j
def Reg.NOC_RT_ACT (i : Nat) (j : Nat) : Nat := 0x20000A40000 + 0x400 * i + 0x4 * j

/-! Addresses, chapter 13. -/

def Reg.ACQ_U_SEG (i : Nat) : Nat := 0x20000D0100C + 0x100 * i
def Reg.ACQ_U_SAMPLES (i : Nat) : Nat := 0x20000D01010 + 0x100 * i
def Reg.ACQ_U_PRE (i : Nat) : Nat := 0x20000D01014 + 0x100 * i
def Reg.ACQ_U_BUF (i : Nat) : Nat := 0x20000D01018 + 0x100 * i
def Reg.ACQ_U_AUTO (i : Nat) : Nat := 0x20000D0101C + 0x100 * i
def Reg.ACQ_U_INTERVAL (i : Nat) : Nat := 0x20000D01020 + 0x100 * i
def Reg.ACQ_U_ECYC_AT_LO (i : Nat) : Nat := 0x20000D01024 + 0x100 * i
def Reg.ACQ_U_ECYC_AT_HI (i : Nat) : Nat := 0x20000D01028 + 0x100 * i
def Reg.ACQ_U_MARK_MATCH (i : Nat) : Nat := 0x20000D0102C + 0x100 * i
def Reg.ACQ_U_MISSED (i : Nat) : Nat := 0x20000D01030 + 0x100 * i
def Reg.ACQ_U_SEGS_DONE (i : Nat) : Nat := 0x20000D01034 + 0x100 * i
def Reg.ACQ_U_STREAMQ (i : Nat) : Nat := 0x20000D01038 + 0x100 * i
def Reg.ACQ_U_CNT_LO (i : Nat) (j : Nat) : Nat := 0x20000D01040 + 0x100 * i + 0x8 * j
def Reg.ACQ_U_CNT_HI (i : Nat) (j : Nat) : Nat := 0x20000D01044 + 0x100 * i + 0x8 * j
def Reg.ACQ_U_LIMIT_LO (i : Nat) (j : Nat) : Nat := 0x20000D01060 + 0x100 * i + 0x8 * j
def Reg.ACQ_U_LIMIT_HI (i : Nat) (j : Nat) : Nat := 0x20000D01064 + 0x100 * i + 0x8 * j
def Reg.ACQ_U_TIMER (i : Nat) (j : Nat) : Nat := 0x20000D01080 + 0x100 * i + 0x8 * j
def Reg.ACQ_U_TLIMIT (i : Nat) (j : Nat) : Nat := 0x20000D01084 + 0x100 * i + 0x8 * j

/-! Addresses, chapter 17. -/

def Reg.TIME_SET_NS : Nat := 0x20000400004
def Reg.TIME_SET_SLO : Nat := 0x20000400008
def Reg.TIME_SET_SHI : Nat := 0x2000040000C
def Reg.TIME_A_NS : Nat := 0x20000400010
def Reg.TIME_A_SLO : Nat := 0x20000400014
def Reg.TIME_A_SHI : Nat := 0x20000400018
def Reg.TIME_B_NS : Nat := 0x20000400020
def Reg.TIME_B_SLO : Nat := 0x20000400024
def Reg.TIME_B_SHI : Nat := 0x20000400028
def Reg.TIME_A_INC : Nat := 0x20000400030
def Reg.TIME_B_INC : Nat := 0x20000400034
def Reg.TIME_A_ADJ : Nat := 0x20000400038
def Reg.TIME_B_ADJ : Nat := 0x2000040003C
def Reg.TIME_SPLIT : Nat := 0x20000400040
def Reg.TIME_TXQ_W1 : Nat := 0x20000400064
def Reg.TIME_TXQ_W2 : Nat := 0x20000400068
def Reg.TIME_TXQ_W3 : Nat := 0x2000040006C
def Reg.TIME_TXQ_W4 : Nat := 0x20000400070
def Reg.TIME_TXQ_W5 : Nat := 0x20000400074
def Reg.TIME_TXQ_W6 : Nat := 0x20000400078
def Reg.TIME_ALARM_NS (i : Nat) : Nat := 0x20000400104 + 0x20 * i
def Reg.TIME_ALARM_SLO (i : Nat) : Nat := 0x20000400108 + 0x20 * i
def Reg.TIME_ALARM_SHI (i : Nat) : Nat := 0x2000040010C + 0x20 * i
def Reg.TIME_ALARM_PER_LO (i : Nat) : Nat := 0x20000400110 + 0x20 * i
def Reg.TIME_ALARM_PER_HI (i : Nat) : Nat := 0x20000400114 + 0x20 * i

/-! Addresses, chapter 18. -/

def Reg.DMAQ_BASE_LO (i : Nat) (j : Nat) : Nat := 0x1000100000000 + 0x10000 * i + 0x400 * j
def Reg.DMAQ_BASE_HI (i : Nat) (j : Nat) : Nat := 0x1000100000004 + 0x10000 * i + 0x400 * j
def Reg.DMAQ_CFG (i : Nat) (j : Nat) : Nat := 0x1000100000008 + 0x10000 * i + 0x400 * j
def Reg.DMAQ_TAIL (i : Nat) (j : Nat) : Nat := 0x100010000000C + 0x10000 * i + 0x400 * j
def Reg.DMAQ_HEAD (i : Nat) (j : Nat) : Nat := 0x1000100000010 + 0x10000 * i + 0x400 * j
def Reg.DMAQ_STATUS (i : Nat) (j : Nat) : Nat := 0x1000100000014 + 0x10000 * i + 0x400 * j
def Reg.DMAQ_CODE (i : Nat) (j : Nat) : Nat := 0x1000100000018 + 0x10000 * i + 0x400 * j
def Reg.MBX_H2M_DATA (i : Nat) (j : Nat) : Nat := 0x20000900000 + 0x1000 * i + 0x4 * j
def Reg.MBX_M2H_DATA (i : Nat) (j : Nat) : Nat := 0x20000900080 + 0x1000 * i + 0x4 * j
def Reg.MBX_DB_TO_HOST (i : Nat) : Nat := 0x20000900104 + 0x1000 * i
def Reg.MBX_DB_TO_HOST_MASK (i : Nat) : Nat := 0x20000900108 + 0x1000 * i
def Reg.MBX_DB_TO_MODULE (i : Nat) : Nat := 0x2000090010C + 0x1000 * i
def Reg.MBX_DB_TO_MODULE_MASK (i : Nat) : Nat := 0x20000900110 + 0x1000 * i
def Reg.MBX_IGNORED_CNT (i : Nat) : Nat := 0x20000900114 + 0x1000 * i
def Reg.MBX_VEC (i : Nat) : Nat := 0x20000900118 + 0x1000 * i
def Reg.MBX_DROPPED_CNT (i : Nat) : Nat := 0x2000090011C + 0x1000 * i
def Reg.PCI_HOSTERR_CODE : Nat := 0x2000080000C
def Reg.PCI_PEER_LO (i : Nat) : Nat := 0x20000800100 + 0x8 * i
def Reg.PCI_PEER_HI (i : Nat) : Nat := 0x20000800104 + 0x8 * i

/-! Addresses, chapter 11. -/

def Reg.NOC_ST_REQ (i : Nat) : Nat := 0x20000A10000 + 0x40 * i
def Reg.NOC_ST_ERR (i : Nat) : Nat := 0x20000A10004 + 0x40 * i
def Reg.NOC_ST_TMO (i : Nat) : Nat := 0x20000A10008 + 0x40 * i
def Reg.NOC_ST_LAT_MAX (i : Nat) : Nat := 0x20000A1000C + 0x40 * i
def Reg.NOC_ST_RD_LO (i : Nat) : Nat := 0x20000A10010 + 0x40 * i
def Reg.NOC_ST_RD_HI (i : Nat) : Nat := 0x20000A10014 + 0x40 * i
def Reg.NOC_ST_WR_LO (i : Nat) : Nat := 0x20000A10018 + 0x40 * i
def Reg.NOC_ST_WR_HI (i : Nat) : Nat := 0x20000A1001C + 0x40 * i
def Reg.NOC_ST_LAT_LO (i : Nat) : Nat := 0x20000A10020 + 0x40 * i
def Reg.NOC_ST_LAT_HI (i : Nat) : Nat := 0x20000A10024 + 0x40 * i
def Reg.NOC_ST_OUT (i : Nat) : Nat := 0x20000A10028 + 0x40 * i

/-! Fields, chapter 02. -/

def F.BP_CL_CTRL_CLRCNT : Fld := ⟨0, 0⟩
def F.BP_CL_STATUS_RUN : Fld := ⟨31, 31⟩
def F.BP_CL_STATUS_BRK : Fld := ⟨30, 30⟩
def F.BP_CL_STATUS_ILL : Fld := ⟨29, 29⟩
def F.BP_CL_STATUS_WERR : Fld := ⟨28, 28⟩
def F.BP_CL_STATUS_DUPW : Fld := ⟨27, 27⟩
def F.BP_SWEEP_LEN_LEN : Fld := ⟨13, 0⟩
def F.BP_SPARE_MAP_ACTIVE : Fld := ⟨31, 31⟩
def F.BP_SPARE_MAP_REPLACED : Fld := ⟨4, 0⟩
def F.BP_SPLIT_CNT_COUNT : Fld := ⟨31, 0⟩
def F.BP_DUPW_CNT_COUNT : Fld := ⟨31, 0⟩
def F.BP_ILLEGAL_VALID : Fld := ⟨31, 31⟩
def F.BP_ILLEGAL_STITCH : Fld := ⟨30, 18⟩
def F.BP_ILLEGAL_BP : Fld := ⟨17, 13⟩
def F.BP_PTRBASE_SWBASE : Fld := ⟨31, 16⟩
def F.BP_PTRBASE_DWBASE : Fld := ⟨13, 0⟩
def F.BP_WORD_LAT_MUL : Fld := ⟨23, 20⟩
def F.BP_WORD_LAT_SHIFT : Fld := ⟨19, 16⟩
def F.BP_WORD_LAT_ALU : Fld := ⟨15, 12⟩
def F.BP_WORD_LAT_LDSW : Fld := ⟨11, 8⟩
def F.BP_WORD_LAT_DMEM : Fld := ⟨7, 4⟩
def F.BP_WORD_LAT_WIN : Fld := ⟨3, 0⟩
def F.BP_DIE_SPLIT_SUM_COUNT : Fld := ⟨31, 0⟩

/-! Fields, chapter 03. -/

def F.BP_STALL_CLR_CLR : Fld := ⟨0, 0⟩
def F.BP_PROGRESS_STALLED : Fld := ⟨31, 31⟩
def F.BP_PROGRESS_CAUSE : Fld := ⟨30, 28⟩
def F.BP_PROGRESS_EPAR : Fld := ⟨13, 13⟩
def F.BP_PROGRESS_STITCH : Fld := ⟨12, 0⟩
def F.BP_STALL_CNT_COUNT : Fld := ⟨31, 0⟩
def F.BP_RATE_METER_VALID : Fld := ⟨31, 31⟩
def F.BP_RATE_METER_RATE : Fld := ⟨15, 0⟩
def F.BP_ECYCLE_LO_COUNT : Fld := ⟨31, 0⟩
def F.BP_ECYCLE_HI_COUNT : Fld := ⟨31, 0⟩
def F.SNS_DLYMON_VALID : Fld := ⟨31, 31⟩
def F.SNS_DLYMON_CAL : Fld := ⟨30, 30⟩
def F.SNS_DLYMON_TSTITCH : Fld := ⟨15, 0⟩
def F.SNS_DLYMON_YOKE_VALID : Fld := ⟨31, 31⟩
def F.SNS_DLYMON_YOKE_CAL : Fld := ⟨30, 30⟩
def F.SNS_DLYMON_YOKE_TSTITCH : Fld := ⟨15, 0⟩

/-! Fields, chapter 04. -/

def F.WRP_CL_CTRL_CLR : Fld := ⟨0, 0⟩
def F.WRP_TAG_FAULT_SLOT : Fld := ⟨31, 0⟩
def F.WRP_TAG_DETAIL_VALID : Fld := ⟨31, 31⟩
def F.WRP_TAG_DETAIL_SLOT : Fld := ⟨30, 26⟩
def F.WRP_TAG_DETAIL_EXPECTED : Fld := ⟨13, 0⟩
def F.WRP_TAG_RCVD_RECEIVED : Fld := ⟨13, 0⟩
def F.WRP_BP_CNT_COUNT : Fld := ⟨31, 0⟩
def F.WRP_QUEUE_PEAK_SLOT : Fld := ⟨12, 8⟩
def F.WRP_QUEUE_PEAK_PEAK : Fld := ⟨4, 0⟩
def F.WRP_LAT_YOKE_BRG : Fld := ⟨31, 24⟩
def F.WRP_LAT_WEAVE_BRG : Fld := ⟨23, 16⟩
def F.WRP_LAT_EXPRESS : Fld := ⟨15, 8⟩
def F.WRP_LAT_LOCAL : Fld := ⟨7, 0⟩
def F.WRP_FAULT_SUM_ANY : Fld := ⟨31, 31⟩
def F.WRP_FAULT_SUM_COUNT : Fld := ⟨10, 0⟩
def F.WRP_BP_SUM_COUNT : Fld := ⟨31, 0⟩
def F.BRG_STATUS_UP : Fld := ⟨31, 31⟩
def F.BRG_STATUS_SPARES_OUT_GONE : Fld := ⟨30, 30⟩
def F.BRG_STATUS_SPARES_IN_GONE : Fld := ⟨29, 29⟩
def F.BRG_STATUS_USED_OUT : Fld := ⟨14, 10⟩
def F.BRG_STATUS_USED_IN : Fld := ⟨9, 5⟩
def F.BRG_CODE_ERR_CNT_COUNT : Fld := ⟨31, 0⟩
def F.BRG_TRACKS_SPARES : Fld := ⟨20, 16⟩
def F.BRG_TRACKS_TRACKS : Fld := ⟨9, 0⟩
def F.BRG_SPARE_OUT_ACTIVE : Fld := ⟨31, 31⟩
def F.BRG_SPARE_OUT_TRACK : Fld := ⟨9, 0⟩
def F.BRG_SPARE_IN_ACTIVE : Fld := ⟨31, 31⟩
def F.BRG_SPARE_IN_TRACK : Fld := ⟨9, 0⟩

/-! Fields, chapter 05. -/

def F.DMEM_LAT_WR_RD : Fld := ⟨7, 4⟩
def F.DMEM_LAT_POCKET_RD : Fld := ⟨3, 0⟩
def F.DMEM_STATUS_IDLE : Fld := ⟨31, 31⟩
def F.DMEM_STATUS_FILL_BUSY : Fld := ⟨30, 30⟩
def F.DMEM_STATUS_WERR : Fld := ⟨29, 29⟩
def F.DMEM_STATUS_HBM_OUT : Fld := ⟨10, 0⟩
def F.DMEM_CTRL_CLRCNT : Fld := ⟨0, 0⟩
def F.DMEM_PART_IDLE_IDLE : Fld := ⟨15, 0⟩
def F.DMEM_DESC_IDX_INDEX : Fld := ⟨15, 0⟩
def F.DMEM_DESC_W_DATA : Fld := ⟨31, 0⟩
def F.DMEM_OOR_CNT_COUNT : Fld := ⟨31, 0⟩
def F.DMEM_RO_WR_CNT_COUNT : Fld := ⟨31, 0⟩
def F.DMEM_FAULT_VALID : Fld := ⟨31, 31⟩
def F.DMEM_FAULT_KIND : Fld := ⟨30, 28⟩
def F.DMEM_FAULT_DESC : Fld := ⟨15, 0⟩
def F.DMEM_FAULT_SRC_COLUMN : Fld := ⟨29, 24⟩
def F.DMEM_FAULT_SRC_ROW : Fld := ⟨23, 19⟩
def F.DMEM_FAULT_SRC_BP : Fld := ⟨18, 14⟩
def F.DMEM_FAULT_SRC_STITCH : Fld := ⟨12, 0⟩
def F.DMEM_HBM_PEAK_PEAK : Fld := ⟨10, 0⟩
def F.DMEM_FILL_BANKS_COUNT_M1 : Fld := ⟨26, 16⟩
def F.DMEM_FILL_BANKS_FIRST : Fld := ⟨10, 0⟩
def F.DMEM_FILL_DATA_DATA : Fld := ⟨31, 0⟩
def F.DMEM_FILL_CTRL_GO : Fld := ⟨31, 31⟩
def F.DMEM_FILL_CTRL_DONE : Fld := ⟨30, 30⟩

/-! Fields, chapter 07. -/

def F.SEAM_CTRL_EN : Fld := ⟨31, 31⟩
def F.SEAM_CTRL_RETRAIN : Fld := ⟨30, 30⟩
def F.SEAM_CTRL_CLRCNT : Fld := ⟨29, 29⟩
def F.SEAM_STATUS_UP : Fld := ⟨31, 31⟩
def F.SEAM_STATUS_DEGRADED : Fld := ⟨30, 30⟩
def F.SEAM_STATUS_LOST : Fld := ⟨29, 29⟩
def F.SEAM_STATUS_MAP_OK : Fld := ⟨28, 28⟩
def F.SEAM_STATUS_MAP_MISMATCH : Fld := ⟨27, 27⟩
def F.SEAM_STATUS_PEER_HALT : Fld := ⟨26, 26⟩
def F.SEAM_STATUS_PEER_MODULE : Fld := ⟨25, 20⟩
def F.SEAM_STATUS_PEER_LINK : Fld := ⟨19, 16⟩
def F.SEAM_STATUS_WORKING : Fld := ⟨10, 8⟩
def F.SEAM_STATUS_STANDBY : Fld := ⟨7, 5⟩
def F.SEAM_STATUS_LANE_UP : Fld := ⟨4, 0⟩
def F.SEAM_LANE_UP : Fld := ⟨31, 31⟩
def F.SEAM_LANE_STANDBY : Fld := ⟨30, 30⟩
def F.SEAM_LANE_TRAINING : Fld := ⟨29, 29⟩
def F.SEAM_LANE_FAILED : Fld := ⟨28, 28⟩
def F.SEAM_LANE_UNCORR : Fld := ⟨27, 16⟩
def F.SEAM_LANE_CORR : Fld := ⟨15, 0⟩
def F.SEAM_CNT_COUNT : Fld := ⟨31, 0⟩
def F.SEAM_PEER_DONE_LO_COUNT : Fld := ⟨31, 0⟩
def F.SEAM_PEER_DONE_HI_COUNT : Fld := ⟨31, 0⟩

/-! Fields, chapter 08. -/

def F.CUFF_STATUS_COMMITTED : Fld := ⟨31, 31⟩
def F.CUFF_STATUS_DRVX : Fld := ⟨30, 30⟩
def F.CUFF_STATUS_VIO_FAULT : Fld := ⟨29, 29⟩
def F.CUFF_STATUS_FENCE_LIMIT : Fld := ⟨28, 28⟩
def F.CUFF_STATUS_FENCES : Fld := ⟨20, 16⟩
def F.CUFF_STATUS_RECONF : Fld := ⟨15, 0⟩
def F.CUFF_CTRL_CLRCNT : Fld := ⟨0, 0⟩
def F.CUFF_DRVX_CNT_COUNT : Fld := ⟨31, 0⟩
def F.CUFF_DRVX_CAP_VALID : Fld := ⟨31, 31⟩
def F.CUFF_DRVX_CAP_ROW : Fld := ⟨30, 26⟩
def F.CUFF_DRVX_CAP_SPAN : Fld := ⟨25, 24⟩
def F.CUFF_DRVX_CAP_LINE : Fld := ⟨23, 20⟩
def F.CUFF_DRVX_CAP_CONNECTED : Fld := ⟨19, 16⟩
def F.CUFF_DRVX_CAP_ENABLED : Fld := ⟨11, 0⟩
def F.CUFF_BANK_VIO_OK : Fld := ⟨31, 31⟩
def F.CUFF_BANK_VIO_SEL : Fld := ⟨30, 29⟩
def F.CUFF_BANK_VIO_MEAS : Fld := ⟨28, 27⟩
def F.CUFF_BANK_HELD : Fld := ⟨26, 26⟩
def F.CUFF_BANK_PREPULL : Fld := ⟨25, 25⟩
def F.CUFF_FP_STATUS_MODE : Fld := ⟨31, 30⟩
def F.CUFF_FP_STATUS_OVF : Fld := ⟨29, 29⟩
def F.CUFF_FP_STATUS_UNDERRUN : Fld := ⟨28, 28⟩
def F.CUFF_FP_STATUS_PAUSING : Fld := ⟨27, 27⟩
def F.CUFF_FP_STATUS_FULL : Fld := ⟨26, 26⟩
def F.CUFF_FP_STATUS_REPLAY : Fld := ⟨25, 25⟩
def F.CUFF_FP_STATUS_IN_FILL : Fld := ⟨12, 0⟩
def F.CUFF_FP_OUT_FILL_OUT_FILL : Fld := ⟨12, 0⟩
def F.CUFF_FP_DROP_CNT_COUNT : Fld := ⟨31, 0⟩
def F.CUFF_FP_UNDER_CNT_COUNT : Fld := ⟨31, 0⟩
def F.CUFF_FP_SUPERSEDED_CNT_COUNT : Fld := ⟨31, 0⟩
def F.CUFF_FP_BOUND_ECYCLE : Fld := ⟨31, 0⟩
def F.CUFF_FP_MOVED_ECYCLE : Fld := ⟨31, 0⟩

/-! Fields, chapter 09. -/

def F.CFG_STATUS_INIT_N_IN : Fld := ⟨31, 31⟩
def F.CFG_STATUS_DONE_IN : Fld := ⟨30, 30⟩
def F.CFG_STATUS_DONE_PULL : Fld := ⟨29, 29⟩
def F.CFG_STATUS_INIT_N_PULL : Fld := ⟨28, 28⟩
def F.CFG_STATUS_BUSY : Fld := ⟨15, 0⟩
def F.CFG_REGION_FIRST : Fld := ⟨31, 16⟩
def F.CFG_REGION_HOLD : Fld := ⟨15, 0⟩
def F.CFG_DONE_CTRL_RELEASE : Fld := ⟨0, 0⟩
def F.CFG_READBACK_CNT_COUNT : Fld := ⟨31, 0⟩
def F.CFG_DONE_FALL_CNT_COUNT : Fld := ⟨31, 0⟩

/-! Fields, chapter 10. -/

def F.HBM_STATUS_UP : Fld := ⟨31, 31⟩
def F.HBM_STATUS_REKEY : Fld := ⟨30, 30⟩
def F.HBM_STATUS_RETIRED : Fld := ⟨29, 29⟩
def F.HBM_STATUS_RETIRED_PC : Fld := ⟨28, 23⟩
def F.HBM_STATUS_COPYING : Fld := ⟨22, 22⟩
def F.HBM_STATUS_OUT : Fld := ⟨10, 0⟩
def F.HBM_CE_CNT_COUNT : Fld := ⟨31, 0⟩
def F.HBM_UE_CNT_COUNT : Fld := ⟨31, 0⟩
def F.HBM_TAG_RETRY_CNT_COUNT : Fld := ⟨31, 0⟩
def F.HBM_TAG_CAP_VALID : Fld := ⟨31, 31⟩
def F.HBM_TAG_CAP_HALTED : Fld := ⟨30, 30⟩
def F.HBM_TAG_CAP_LINE : Fld := ⟨29, 0⟩
def F.XTS_IDS_EXHAUSTED : Fld := ⟨31, 31⟩
def F.XTS_IDS_LIVE : Fld := ⟨22, 16⟩
def F.XTS_IDS_ISSUED : Fld := ⟨11, 0⟩
def F.XTS_SLOT_LIVE : Fld := ⟨31, 31⟩
def F.XTS_SLOT_CLASS : Fld := ⟨30, 28⟩
def F.XTS_SLOT_PARTITION : Fld := ⟨27, 24⟩
def F.XTS_SLOT_PREVIOUS : Fld := ⟨23, 23⟩
def F.XTS_SLOT_KEY_ID : Fld := ⟨11, 0⟩
def F.PART_STATE_STATE : Fld := ⟨31, 29⟩
def F.PART_STATE_ROLLING : Fld := ⟨28, 28⟩
def F.PART_STATE_SESSION : Fld := ⟨27, 27⟩

/-! Fields, chapter 11. -/

def F.NOC_CTRL_CLRERR : Fld := ⟨1, 1⟩
def F.NOC_CTRL_CLRSTAT : Fld := ⟨0, 0⟩
def F.NOC_STATUS_WERR : Fld := ⟨31, 31⟩
def F.NOC_STATUS_SWAPPING : Fld := ⟨30, 30⟩
def F.NOC_TIMEOUT_US : Fld := ⟨19, 0⟩
def F.NOC_RT_SWAP_GO : Fld := ⟨31, 31⟩
def F.NOC_RT_SWAP_ROUTER : Fld := ⟨6, 0⟩
def F.NOC_ASLEEP_CNT_COUNT : Fld := ⟨31, 0⟩
def F.NOC_UNMAPPED_CNT_COUNT : Fld := ⟨31, 0⟩
def F.NOC_LOOP_CNT_COUNT : Fld := ⟨31, 0⟩
def F.NOC_LATE_CNT_COUNT : Fld := ⟨31, 0⟩
def F.NOC_FCHK_CNT_COUNT : Fld := ⟨31, 0⟩
def F.NOC_DROP_CNT_COUNT : Fld := ⟨31, 0⟩
def F.NOC_ERR_CAP_VALID : Fld := ⟨31, 31⟩
def F.NOC_ERR_CAP_SYNTH : Fld := ⟨30, 30⟩
def F.NOC_ERR_CAP_INITIATOR : Fld := ⟨29, 22⟩
def F.NOC_ERR_CAP_DEST : Fld := ⟨21, 14⟩
def F.NOC_ERR_CAP_OPC : Fld := ⟨13, 8⟩
def F.NOC_DOM_SLEEP : Fld := ⟨31, 31⟩
def F.NOC_DOM_STATE : Fld := ⟨30, 28⟩
def F.NOC_DOM_REFUSED : Fld := ⟨27, 27⟩
def F.NOC_DOM_EMPTY : Fld := ⟨26, 26⟩
def F.NOC_DOM_PENDING : Fld := ⟨10, 0⟩

/-! Fields, chapter 12. -/

def F.HEM_CTRL_EN : Fld := ⟨31, 31⟩
def F.HEM_CTRL_ARM : Fld := ⟨30, 30⟩
def F.HEM_CTRL_REARM : Fld := ⟨29, 29⟩
def F.HEM_CTRL_SWEV : Fld := ⟨28, 28⟩
def F.HEM_CTRL_DEST : Fld := ⟨27, 26⟩
def F.HEM_CTRL_RATE_EN : Fld := ⟨25, 25⟩
def F.HEM_CTRL_MARK_EN : Fld := ⟨24, 24⟩
def F.HEM_STATUS_STATE : Fld := ⟨31, 30⟩
def F.HEM_STATUS_OVF : Fld := ⟨29, 29⟩
def F.HEM_STATUS_WERR : Fld := ⟨28, 28⟩
def F.HEM_STATUS_PORT_UP : Fld := ⟨27, 27⟩
def F.HEM_STATUS_BUF_FULL : Fld := ⟨26, 26⟩
def F.HEM_STATUS_PORT_DENIED : Fld := ⟨25, 25⟩
def F.HEM_STATUS_WINDOWS : Fld := ⟨15, 0⟩
def F.HEM_PORT_MODE : Fld := ⟨31, 31⟩
def F.HEM_PORT_RATE : Fld := ⟨30, 29⟩
def F.HEM_PORT_LANES : Fld := ⟨28, 27⟩
def F.HEM_START_SEL_MASK : Fld := ⟨23, 0⟩
def F.HEM_STOP_SEL_MASK : Fld := ⟨23, 0⟩
def F.HEM_ECYC_START_LO_VALUE : Fld := ⟨31, 0⟩
def F.HEM_ECYC_START_HI_VALUE : Fld := ⟨31, 0⟩
def F.HEM_STOP_DELAY_VALUE : Fld := ⟨31, 0⟩
def F.HEM_MARK_MATCH_VALUE : Fld := ⟨31, 16⟩
def F.HEM_MARK_MATCH_MASK : Fld := ⟨15, 0⟩
def F.HEM_PACE_SYNC_PERIOD : Fld := ⟨31, 16⟩
def F.HEM_PACE_DECIM : Fld := ⟨15, 8⟩
def F.HEM_PACE_STALL_MIN : Fld := ⟨7, 0⟩
def F.HEM_LOST_CNT_VALUE : Fld := ⟨31, 0⟩
def F.HEM_BUF_WPTR_VALUE : Fld := ⟨31, 0⟩
def F.HEM_WATCH_CFG_EN : Fld := ⟨31, 31⟩
def F.HEM_WATCH_CFG_STALL : Fld := ⟨30, 30⟩
def F.HEM_WATCH_CFG_SPLIT : Fld := ⟨29, 29⟩
def F.HEM_WATCH_CFG_RESULT : Fld := ⟨28, 28⟩
def F.HEM_WATCH_CFG_VCLUSTER : Fld := ⟨11, 0⟩
def F.HEM_WATCH_MASK_MASK : Fld := ⟨31, 0⟩
def F.HEM_WATCH_RANGE_LAST : Fld := ⟨28, 16⟩
def F.HEM_WATCH_RANGE_FIRST : Fld := ⟨12, 0⟩
def F.HEM_WATCH_PHYS_BINDING : Fld := ⟨15, 0⟩

/-! Fields, chapter 13. -/

def F.ACQ_STATUS_ACTIVE : Fld := ⟨31, 16⟩
def F.ACQ_TRIG_IN_EN : Fld := ⟨31, 31⟩
def F.ACQ_TRIG_IN_POL : Fld := ⟨30, 30⟩
def F.ACQ_TRIG_IN_BUS : Fld := ⟨29, 29⟩
def F.ACQ_TRIG_IN_PART : Fld := ⟨27, 24⟩
def F.ACQ_TRIG_IN_GLITCH : Fld := ⟨23, 8⟩
def F.ACQ_TRIG_IN_FILT : Fld := ⟨7, 0⟩
def F.ACQ_TRIG_OUT_SRC : Fld := ⟨31, 29⟩
def F.ACQ_TRIG_OUT_UNIT : Fld := ⟨28, 25⟩
def F.ACQ_TRIG_OUT_WIDTH : Fld := ⟨15, 0⟩
def F.ACQ_BUS_CNT_FRAMES : Fld := ⟨31, 16⟩
def F.ACQ_BUS_CNT_BAD : Fld := ⟨15, 0⟩
def F.ACQ_U_CTRL_ARM : Fld := ⟨31, 31⟩
def F.ACQ_U_CTRL_STOP : Fld := ⟨30, 30⟩
def F.ACQ_U_CTRL_FORCE : Fld := ⟨29, 29⟩
def F.ACQ_U_STATUS_STATE : Fld := ⟨31, 29⟩
def F.ACQ_U_STATUS_WERR : Fld := ⟨28, 28⟩
def F.ACQ_U_STATUS_OVF : Fld := ⟨27, 27⟩
def F.ACQ_U_STATUS_QHELD : Fld := ⟨26, 26⟩
def F.ACQ_U_STATUS_SEQ_STATE : Fld := ⟨3, 0⟩
def F.ACQ_U_CFG_MODE : Fld := ⟨31, 30⟩
def F.ACQ_U_CFG_HOLD : Fld := ⟨29, 29⟩
def F.ACQ_U_CFG_WRAP : Fld := ⟨28, 28⟩
def F.ACQ_U_CFG_QUEUE_ONE : Fld := ⟨27, 27⟩
def F.ACQ_U_CFG_STAMP : Fld := ⟨26, 26⟩
def F.ACQ_U_CFG_GROUP_EN : Fld := ⟨25, 25⟩
def F.ACQ_U_CFG_MASTER : Fld := ⟨24, 24⟩
def F.ACQ_U_CFG_GROUP : Fld := ⟨23, 20⟩
def F.ACQ_U_CFG_BUSPAIR : Fld := ⟨19, 18⟩
def F.ACQ_U_CFG_DROP : Fld := ⟨17, 17⟩
def F.ACQ_U_CFG_INT_TIME : Fld := ⟨16, 16⟩
def F.ACQ_U_CFG_CAP_WORDS_M1 : Fld := ⟨4, 0⟩

/-! Fields, chapter 14. -/

def F.LNG_STATUS_HOLD : Fld := ⟨31, 16⟩
def F.LNG_STATUS_DEFAULTS : Fld := ⟨15, 15⟩
def F.LNG_STATUS_BEYOND : Fld := ⟨14, 14⟩
def F.LNG_STATUS_STAGE : Fld := ⟨3, 0⟩
def F.LNG_ROLLBACK_CNT_COUNT : Fld := ⟨31, 0⟩
def F.LNG_SCRUB_CFG_PERIOD : Fld := ⟨31, 15⟩
def F.LNG_SCRUB_CFG_MODE : Fld := ⟨14, 14⟩
def F.LNG_SCRUB_CFG_DEFAULT : Fld := ⟨13, 13⟩
def F.LNG_SCRUB_CFG_WERR : Fld := ⟨12, 12⟩
def F.LNG_SCRUB_RANGE_FIRST : Fld := ⟨31, 16⟩
def F.LNG_SCRUB_RANGE_LAST : Fld := ⟨15, 0⟩
def F.LNG_SCRUB_DIAG_REPAIRS : Fld := ⟨31, 24⟩
def F.LNG_SCRUB_DIAG_NOMAJ : Fld := ⟨23, 23⟩
def F.LNG_SCRUB_DIAG_DIFFER : Fld := ⟨22, 20⟩
def F.LNG_SCRUB_DIAG_ERRORS : Fld := ⟨15, 0⟩

/-! Fields, chapter 15. -/

def F.COL_LEASE_HOLDER : Fld := ⟨31, 30⟩
def F.COL_LEASE_NONE : Fld := ⟨29, 29⟩
def F.COL_LEASE_YIELD : Fld := ⟨28, 28⟩
def F.COL_LEASE_REMAIN_US : Fld := ⟨16, 0⟩
def F.COL_SELF_RENEW : Fld := ⟨31, 31⟩
def F.COL_SELF_REQUEST : Fld := ⟨30, 30⟩
def F.COL_SELF_READY : Fld := ⟨29, 29⟩
def F.COL_STATE_STATE : Fld := ⟨31, 29⟩
def F.COL_STATE_FW_VALID : Fld := ⟨28, 28⟩
def F.COL_STATE_SLOT : Fld := ⟨27, 27⟩
def F.COL_STATE_LOCKSTEP_FAILS : Fld := ⟨26, 24⟩
def F.COL_STATE_SVN : Fld := ⟨7, 0⟩
def F.COL_REFUSED_CNT_COUNT : Fld := ⟨31, 0⟩
def F.SNS_TEMP_VALID : Fld := ⟨31, 31⟩
def F.SNS_TEMP_CAL : Fld := ⟨30, 30⟩
def F.SNS_TEMP_VALUE : Fld := ⟨15, 0⟩
def F.SNS_HBM_TEMP_VALID : Fld := ⟨31, 31⟩
def F.SNS_HBM_TEMP_CAL : Fld := ⟨30, 30⟩
def F.SNS_HBM_TEMP_VALUE : Fld := ⟨15, 0⟩
def F.SNS_RAIL_V_VALID : Fld := ⟨31, 31⟩
def F.SNS_RAIL_V_CAL : Fld := ⟨30, 30⟩
def F.SNS_RAIL_V_VALUE : Fld := ⟨15, 0⟩
def F.SNS_RAIL_I_VALID : Fld := ⟨31, 31⟩
def F.SNS_RAIL_I_CAL : Fld := ⟨30, 30⟩
def F.SNS_RAIL_I_VALUE : Fld := ⟨15, 0⟩
def F.SNS_VIN_VALID : Fld := ⟨31, 31⟩
def F.SNS_VIN_CAL : Fld := ⟨30, 30⟩
def F.SNS_VIN_VALUE : Fld := ⟨15, 0⟩
def F.SNS_IIN_VALID : Fld := ⟨31, 31⟩
def F.SNS_IIN_CAL : Fld := ⟨30, 30⟩
def F.SNS_IIN_VALUE : Fld := ⟨15, 0⟩
def F.SNS_CAL_GO : Fld := ⟨31, 31⟩
def F.SNS_CAL_WERR : Fld := ⟨30, 30⟩
def F.SNS_CAL_KIND : Fld := ⟨9, 8⟩
def F.SNS_CAL_DIE : Fld := ⟨7, 5⟩
def F.SNS_CAL_SENSOR : Fld := ⟨4, 0⟩
def F.COL_FUSE_BLOW : Fld := ⟨31, 31⟩
def F.COL_FUSE_WERR : Fld := ⟨30, 30⟩
def F.COL_FUSE_USED : Fld := ⟨6, 0⟩
def F.COL_BOOT_RESET_OTHER : Fld := ⟨31, 31⟩
def F.COL_BOOT_ONCE_SLOT : Fld := ⟨30, 30⟩
def F.COL_BOOT_ONCE_EN : Fld := ⟨29, 29⟩
def F.COL_RECOVERY_LEN16 : Fld := ⟨31, 16⟩
def F.COL_RECOVERY_INDEX : Fld := ⟨15, 0⟩
def F.COL_RECOVERY_STATUS_ERR : Fld := ⟨31, 31⟩
def F.COL_RECOVERY_STATUS_BUSY : Fld := ⟨30, 30⟩
def F.COL_RECOVERY_STATUS_DONE : Fld := ⟨29, 29⟩
def F.COL_RECOVERY_STATUS_FAIL : Fld := ⟨28, 28⟩
def F.COL_RECOVERY_STATUS_CHUNKS : Fld := ⟨15, 0⟩

/-! Fields, chapter 16. -/

def F.COL_OD_CMD_GO : Fld := ⟨31, 31⟩
def F.COL_OD_CMD_OP : Fld := ⟨29, 28⟩
def F.COL_OD_CMD_INDEX : Fld := ⟨23, 8⟩
def F.COL_OD_CMD_SUB : Fld := ⟨7, 0⟩
def F.COL_OD_OFFSET_OFFSET : Fld := ⟨31, 0⟩
def F.COL_OD_LEN_LEN : Fld := ⟨16, 0⟩
def F.COL_OD_STATUS_BUSY : Fld := ⟨31, 31⟩
def F.COL_OD_STATUS_DONE : Fld := ⟨30, 30⟩
def F.COL_OD_STATUS_WERR : Fld := ⟨29, 29⟩
def F.COL_OD_STATUS_RESULT_LEN : Fld := ⟨16, 0⟩
def F.COL_OD_CODE_CODE : Fld := ⟨31, 0⟩

/-! Fields, chapter 17. -/

def F.TIME_CTRL_SET_A : Fld := ⟨31, 31⟩
def F.TIME_CTRL_SET_B : Fld := ⟨30, 30⟩
def F.TIME_CTRL_WERR : Fld := ⟨29, 29⟩
def F.TIME_TXQ_STATUS_OVF : Fld := ⟨31, 31⟩
def F.TIME_TXQ_STATUS_COUNT : Fld := ⟨20, 16⟩
def F.TIME_TXQ_STATUS_LOST : Fld := ⟨15, 0⟩
def F.TIME_TXQ_W0_VALID : Fld := ⟨31, 31⟩
def F.TIME_TXQ_W0_PORT : Fld := ⟨30, 30⟩
def F.TIME_TXQ_W0_MSGTYPE : Fld := ⟨27, 24⟩
def F.TIME_TXQ_W0_DOMAIN : Fld := ⟨23, 16⟩
def F.TIME_TXQ_W0_SEQUENCE_ID : Fld := ⟨15, 0⟩
def F.TIME_ALARM_CTRL_ARMED : Fld := ⟨31, 31⟩
def F.TIME_ALARM_CTRL_FIRED : Fld := ⟨30, 30⟩
def F.TIME_ALARM_CTRL_LATE : Fld := ⟨29, 29⟩
def F.TIME_ALARM_CTRL_DOMAIN : Fld := ⟨28, 28⟩
def F.TIME_ALARM_CTRL_ACTION : Fld := ⟨27, 25⟩
def F.TIME_ALARM_CTRL_TARGET : Fld := ⟨24, 21⟩

/-! Fields, chapter 18. -/

def F.MBX_H2M_CTRL_POST : Fld := ⟨31, 31⟩
def F.MBX_H2M_CTRL_ACK : Fld := ⟨30, 30⟩
def F.MBX_H2M_CTRL_FULL : Fld := ⟨29, 29⟩
def F.MBX_H2M_CTRL_COUNT_M1 : Fld := ⟨3, 0⟩
def F.MBX_M2H_CTRL_POST : Fld := ⟨31, 31⟩
def F.MBX_M2H_CTRL_ACK : Fld := ⟨30, 30⟩
def F.MBX_M2H_CTRL_FULL : Fld := ⟨29, 29⟩
def F.MBX_M2H_CTRL_COUNT_M1 : Fld := ⟨3, 0⟩
def F.MBX_H2M_LOCK_HELD : Fld := ⟨31, 31⟩
def F.MBX_H2M_LOCK_RELEASE : Fld := ⟨30, 30⟩
def F.MBX_H2M_LOCK_TOKEN : Fld := ⟨15, 0⟩
def F.MBX_M2H_LOCK_HELD : Fld := ⟨31, 31⟩
def F.MBX_M2H_LOCK_RELEASE : Fld := ⟨30, 30⟩
def F.MBX_M2H_LOCK_TOKEN : Fld := ⟨15, 0⟩
def F.MBX_STATUS_CROSSED : Fld := ⟨31, 31⟩
def F.MBX_STATUS_IGNORED : Fld := ⟨30, 30⟩
def F.MBX_STATUS_SESSION : Fld := ⟨29, 29⟩
def F.MBX_STATUS_AGE_MS : Fld := ⟨15, 0⟩
def F.PCI_LINK_UP : Fld := ⟨31, 31⟩
def F.PCI_LINK_FLIT : Fld := ⟨30, 30⟩
def F.PCI_LINK_SPEED : Fld := ⟨23, 20⟩
def F.PCI_LINK_WIDTH : Fld := ⟨15, 0⟩
def F.PCI_EVENT_HALT : Fld := ⟨31, 31⟩
def F.PCI_EVENT_ALERT : Fld := ⟨30, 30⟩
def F.PCI_EVENT_LEASE : Fld := ⟨29, 29⟩
def F.PCI_EVENT_HEALTH : Fld := ⟨28, 28⟩
def F.PCI_HOSTERR_VALID : Fld := ⟨31, 31⟩
def F.PCI_HOSTERR_WRITE : Fld := ⟨30, 30⟩
def F.PCI_HOSTERR_BAR : Fld := ⟨29, 28⟩
def F.PCI_HOSTERR_OFFSET : Fld := ⟨25, 0⟩

/-! Fields, chapter 19. -/

def F.PWR_STATUS_STAGE : Fld := ⟨31, 30⟩
def F.PWR_STATUS_VIN_OK : Fld := ⟨29, 29⟩
def F.PWR_STATUS_WARN : Fld := ⟨28, 28⟩
def F.PWR_STATUS_REFCLK_OK : Fld := ⟨27, 27⟩
def F.PWR_STATUS_TRIP : Fld := ⟨26, 26⟩
def F.PWR_STATUS_WERR : Fld := ⟨25, 25⟩
def F.PWR_STATUS_BRAKE : Fld := ⟨19, 16⟩
def F.PWR_VIN_WARN_MV : Fld := ⟨15, 0⟩
def F.PWR_VCORE_TARGET : Fld := ⟨25, 16⟩
def F.PWR_VCORE_NOW : Fld := ⟨9, 0⟩
def F.PWR_CREDIT_BRAKE : Fld := ⟨31, 31⟩
def F.PWR_CREDIT_THERMAL : Fld := ⟨30, 30⟩
def F.PWR_CREDIT_RAIL : Fld := ⟨29, 29⟩
def F.PWR_CREDIT_INPUT : Fld := ⟨28, 28⟩
def F.PWR_CREDIT_VINWARN : Fld := ⟨27, 27⟩
def F.PWR_CREDIT_REFILL : Fld := ⟨15, 0⟩
def F.PWR_CREDIT_MW_MW : Fld := ⟨31, 0⟩
def F.PWR_HEADROOM_VALID : Fld := ⟨31, 31⟩
def F.PWR_HEADROOM_W : Fld := ⟨15, 0⟩

/-! Fields, chapter 11. -/

def F.NOC_ERR_CODE_CODE : Fld := ⟨31, 0⟩
def F.NOC_RT_SH_VALID : Fld := ⟨7, 7⟩
def F.NOC_RT_SH_ASLEEP : Fld := ⟨6, 6⟩
def F.NOC_RT_SH_PORT : Fld := ⟨4, 0⟩
def F.NOC_RT_ACT_VALID : Fld := ⟨7, 7⟩
def F.NOC_RT_ACT_ASLEEP : Fld := ⟨6, 6⟩
def F.NOC_RT_ACT_PORT : Fld := ⟨4, 0⟩

/-! Fields, chapter 13. -/

def F.ACQ_U_SEG_SEGMENTS_M1 : Fld := ⟨31, 16⟩
def F.ACQ_U_SAMPLES_SEG_SAMPLES : Fld := ⟨31, 0⟩
def F.ACQ_U_PRE_PRE : Fld := ⟨31, 0⟩
def F.ACQ_U_BUF_OFFSET_MIB : Fld := ⟨31, 16⟩
def F.ACQ_U_BUF_SIZE_MIB : Fld := ⟨15, 0⟩
def F.ACQ_U_AUTO_A : Fld := ⟨31, 0⟩
def F.ACQ_U_INTERVAL_N : Fld := ⟨31, 0⟩
def F.ACQ_U_ECYC_AT_LO_E : Fld := ⟨31, 0⟩
def F.ACQ_U_ECYC_AT_HI_E : Fld := ⟨31, 0⟩
def F.ACQ_U_MARK_MATCH_VALUE : Fld := ⟨31, 16⟩
def F.ACQ_U_MARK_MATCH_MASK : Fld := ⟨15, 0⟩
def F.ACQ_U_MISSED_COUNT : Fld := ⟨31, 0⟩
def F.ACQ_U_SEGS_DONE_COUNT : Fld := ⟨31, 0⟩
def F.ACQ_U_STREAMQ_QUEUE : Fld := ⟨9, 0⟩
def F.ACQ_U_CNT_LO_CNT : Fld := ⟨31, 0⟩
def F.ACQ_U_CNT_HI_CNT : Fld := ⟨15, 0⟩
def F.ACQ_U_LIMIT_LO_LIMIT : Fld := ⟨31, 0⟩
def F.ACQ_U_LIMIT_HI_LIMIT : Fld := ⟨15, 0⟩
def F.ACQ_U_TIMER_MODE : Fld := ⟨31, 31⟩
def F.ACQ_U_TIMER_RUN : Fld := ⟨30, 30⟩
def F.ACQ_U_TLIMIT_TLIMIT : Fld := ⟨31, 0⟩

/-! Fields, chapter 17. -/

def F.TIME_SET_NS_NS : Fld := ⟨31, 0⟩
def F.TIME_SET_SLO_SEC : Fld := ⟨31, 0⟩
def F.TIME_SET_SHI_SEC : Fld := ⟨15, 0⟩
def F.TIME_A_NS_NS : Fld := ⟨31, 0⟩
def F.TIME_A_SLO_SEC : Fld := ⟨31, 0⟩
def F.TIME_A_SHI_SEC : Fld := ⟨15, 0⟩
def F.TIME_B_NS_NS : Fld := ⟨31, 0⟩
def F.TIME_B_SLO_SEC : Fld := ⟨31, 0⟩
def F.TIME_B_SHI_SEC : Fld := ⟨15, 0⟩
def F.TIME_A_INC_INC : Fld := ⟨31, 0⟩
def F.TIME_B_INC_INC : Fld := ⟨31, 0⟩
def F.TIME_A_ADJ_ADJ : Fld := ⟨31, 0⟩
def F.TIME_B_ADJ_ADJ : Fld := ⟨31, 0⟩
def F.TIME_SPLIT_DIFF : Fld := ⟨31, 0⟩
def F.TIME_TXQ_W1_STAMP : Fld := ⟨31, 0⟩
def F.TIME_TXQ_W2_STAMP : Fld := ⟨31, 0⟩
def F.TIME_TXQ_W3_STAMP : Fld := ⟨15, 0⟩
def F.TIME_TXQ_W4_STAMP : Fld := ⟨31, 0⟩
def F.TIME_TXQ_W5_STAMP : Fld := ⟨31, 0⟩
def F.TIME_TXQ_W6_STAMP : Fld := ⟨15, 0⟩
def F.TIME_ALARM_NS_NS : Fld := ⟨31, 0⟩
def F.TIME_ALARM_SLO_SEC : Fld := ⟨31, 0⟩
def F.TIME_ALARM_SHI_SEC : Fld := ⟨15, 0⟩
def F.TIME_ALARM_PER_LO_PERIOD : Fld := ⟨31, 0⟩
def F.TIME_ALARM_PER_HI_PERIOD : Fld := ⟨31, 0⟩

/-! Fields, chapter 18. -/

def F.DMAQ_BASE_LO_ADDR : Fld := ⟨31, 5⟩
def F.DMAQ_BASE_HI_ADDR : Fld := ⟨7, 0⟩
def F.DMAQ_CFG_EN : Fld := ⟨31, 31⟩
def F.DMAQ_CFG_DIR : Fld := ⟨30, 30⟩
def F.DMAQ_CFG_CLIENT : Fld := ⟨29, 27⟩
def F.DMAQ_CFG_RING_LOG2 : Fld := ⟨26, 22⟩
def F.DMAQ_CFG_VEC : Fld := ⟨7, 0⟩
def F.DMAQ_TAIL_TAIL : Fld := ⟨16, 0⟩
def F.DMAQ_HEAD_HEAD : Fld := ⟨16, 0⟩
def F.DMAQ_STATUS_STATE : Fld := ⟨31, 30⟩
def F.DMAQ_STATUS_WERR : Fld := ⟨29, 29⟩
def F.DMAQ_STATUS_UNBOUND : Fld := ⟨28, 28⟩
def F.DMAQ_CODE_CODE : Fld := ⟨31, 0⟩
def F.MBX_H2M_DATA_DATA : Fld := ⟨31, 0⟩
def F.MBX_M2H_DATA_DATA : Fld := ⟨31, 0⟩
def F.MBX_DB_TO_HOST_BITS : Fld := ⟨31, 0⟩
def F.MBX_DB_TO_HOST_MASK_MASK : Fld := ⟨31, 0⟩
def F.MBX_DB_TO_MODULE_BITS : Fld := ⟨31, 0⟩
def F.MBX_DB_TO_MODULE_MASK_MASK : Fld := ⟨31, 0⟩
def F.MBX_IGNORED_CNT_COUNT : Fld := ⟨31, 0⟩
def F.MBX_VEC_VEC : Fld := ⟨7, 0⟩
def F.MBX_DROPPED_CNT_COUNT : Fld := ⟨31, 0⟩
def F.PCI_HOSTERR_CODE_CODE : Fld := ⟨31, 0⟩
def F.PCI_PEER_LO_EN : Fld := ⟨31, 31⟩
def F.PCI_PEER_LO_WERR : Fld := ⟨30, 30⟩
def F.PCI_PEER_LO_BASE : Fld := ⟨21, 0⟩
def F.PCI_PEER_HI_RID : Fld := ⟨15, 0⟩

/-! Fields, chapter 11. -/

def F.NOC_ST_REQ_COUNT : Fld := ⟨31, 0⟩
def F.NOC_ST_ERR_COUNT : Fld := ⟨31, 0⟩
def F.NOC_ST_TMO_COUNT : Fld := ⟨31, 0⟩
def F.NOC_ST_LAT_MAX_COUNT : Fld := ⟨31, 0⟩
def F.NOC_ST_RD_LO_COUNT : Fld := ⟨31, 0⟩
def F.NOC_ST_RD_HI_COUNT : Fld := ⟨31, 0⟩
def F.NOC_ST_WR_LO_COUNT : Fld := ⟨31, 0⟩
def F.NOC_ST_WR_HI_COUNT : Fld := ⟨31, 0⟩
def F.NOC_ST_LAT_LO_COUNT : Fld := ⟨31, 0⟩
def F.NOC_ST_LAT_HI_COUNT : Fld := ⟨31, 0⟩
def F.NOC_ST_OUT_PEAK : Fld := ⟨26, 16⟩
def F.NOC_ST_OUT_OUT : Fld := ⟨10, 0⟩

/-- The register table of one window of R30 or R35. -/
def clusterRegs : List RegDesc :=
  [⟨"BP_CL_CTRL", 0x0, [], [⟨F.BP_CL_CTRL_CLRCNT, .wo, 0x0⟩]⟩,
   ⟨"BP_CL_STATUS", 0x4, [], [⟨F.BP_CL_STATUS_RUN, .ro, 0x0⟩, ⟨F.BP_CL_STATUS_BRK, .w1c, 0x0⟩, ⟨F.BP_CL_STATUS_ILL, .w1c, 0x0⟩, ⟨F.BP_CL_STATUS_WERR, .w1c, 0x0⟩, ⟨F.BP_CL_STATUS_DUPW, .w1c, 0x0⟩]⟩,
   ⟨"BP_SWEEP_LEN", 0x8, [], [⟨F.BP_SWEEP_LEN_LEN, .rw, 0x0⟩]⟩,
   ⟨"BP_SPARE_MAP", 0xC, [], [⟨F.BP_SPARE_MAP_ACTIVE, .rw, 0x0⟩, ⟨F.BP_SPARE_MAP_REPLACED, .rw, 0x0⟩]⟩,
   ⟨"BP_SPLIT_CNT", 0x10, [], [⟨F.BP_SPLIT_CNT_COUNT, .ro, 0x0⟩]⟩,
   ⟨"BP_DUPW_CNT", 0x14, [], [⟨F.BP_DUPW_CNT_COUNT, .ro, 0x0⟩]⟩,
   ⟨"BP_ILLEGAL", 0x18, [], [⟨F.BP_ILLEGAL_VALID, .w1c, 0x0⟩, ⟨F.BP_ILLEGAL_STITCH, .ro, 0x0⟩, ⟨F.BP_ILLEGAL_BP, .ro, 0x0⟩]⟩,
   ⟨"BP_STALL_CLR", 0x1C, [], [⟨F.BP_STALL_CLR_CLR, .wo, 0x0⟩]⟩,
   ⟨"BP_PROGRESS", 0x20, [], [⟨F.BP_PROGRESS_STALLED, .ro, 0x0⟩, ⟨F.BP_PROGRESS_CAUSE, .ro, 0x0⟩, ⟨F.BP_PROGRESS_EPAR, .ro, 0x0⟩, ⟨F.BP_PROGRESS_STITCH, .ro, 0x0⟩]⟩,
   ⟨"BP_STALL_CNT", 0x40, [(8, 0x4)], [⟨F.BP_STALL_CNT_COUNT, .ro, 0x0⟩]⟩,
   ⟨"BP_PTRBASE", 0x100, [(32, 0x4)], [⟨F.BP_PTRBASE_SWBASE, .rw, 0x0⟩, ⟨F.BP_PTRBASE_DWBASE, .rw, 0x0⟩]⟩,
   ⟨"WRP_CL_CTRL", 0x400, [], [⟨F.WRP_CL_CTRL_CLR, .wo, 0x0⟩]⟩] ++
  [⟨"WRP_TAG_FAULT", 0x404, [], [⟨F.WRP_TAG_FAULT_SLOT, .w1c, 0x0⟩]⟩,
   ⟨"WRP_TAG_DETAIL", 0x408, [], [⟨F.WRP_TAG_DETAIL_VALID, .w1c, 0x0⟩, ⟨F.WRP_TAG_DETAIL_SLOT, .ro, 0x0⟩, ⟨F.WRP_TAG_DETAIL_EXPECTED, .ro, 0x0⟩]⟩,
   ⟨"WRP_TAG_RCVD", 0x40C, [], [⟨F.WRP_TAG_RCVD_RECEIVED, .ro, 0x0⟩]⟩,
   ⟨"WRP_BP_CNT", 0x410, [], [⟨F.WRP_BP_CNT_COUNT, .ro, 0x0⟩]⟩,
   ⟨"WRP_QUEUE_PEAK", 0x414, [], [⟨F.WRP_QUEUE_PEAK_SLOT, .ro, 0x0⟩, ⟨F.WRP_QUEUE_PEAK_PEAK, .ro, 0x0⟩]⟩]

/-- The register table of one window of R30 or R35. -/
def window20Regs : List RegDesc :=
  [⟨"BP_WORD_LAT", 0x0, [], [⟨F.BP_WORD_LAT_MUL, .ro, 0x4⟩, ⟨F.BP_WORD_LAT_SHIFT, .ro, 0x2⟩, ⟨F.BP_WORD_LAT_ALU, .ro, 0x1⟩, ⟨F.BP_WORD_LAT_LDSW, .ro, 0x1⟩, ⟨F.BP_WORD_LAT_DMEM, .ro, 0x1⟩, ⟨F.BP_WORD_LAT_WIN, .ro, 0x1⟩]⟩,
   ⟨"BP_DIE_SPLIT_SUM", 0x4, [], [⟨F.BP_DIE_SPLIT_SUM_COUNT, .ro, 0x0⟩]⟩,
   ⟨"BP_RATE_METER", 0x10, [], [⟨F.BP_RATE_METER_VALID, .ro, 0x0⟩, ⟨F.BP_RATE_METER_RATE, .ro, 0x0⟩]⟩,
   ⟨"BP_ECYCLE_LO", 0x100, [(16, 0x8)], [⟨F.BP_ECYCLE_LO_COUNT, .ro, 0x0⟩]⟩,
   ⟨"BP_ECYCLE_HI", 0x104, [(16, 0x8)], [⟨F.BP_ECYCLE_HI_COUNT, .ro, 0x0⟩]⟩]

/-- The register table of one window of R30 or R35. -/
def window01Regs : List RegDesc :=
  [⟨"SNS_TEMP", 0x0, [(5, 0x40), (16, 0x4)], [⟨F.SNS_TEMP_VALID, .ro, 0x0⟩, ⟨F.SNS_TEMP_CAL, .ro, 0x0⟩, ⟨F.SNS_TEMP_VALUE, .ro, 0x0⟩]⟩,
   ⟨"SNS_HBM_TEMP", 0x140, [(4, 0x4)], [⟨F.SNS_HBM_TEMP_VALID, .ro, 0x0⟩, ⟨F.SNS_HBM_TEMP_CAL, .ro, 0x0⟩, ⟨F.SNS_HBM_TEMP_VALUE, .ro, 0x0⟩]⟩,
   ⟨"SNS_RAIL_V", 0x200, [(5, 0x8)], [⟨F.SNS_RAIL_V_VALID, .ro, 0x0⟩, ⟨F.SNS_RAIL_V_CAL, .ro, 0x0⟩, ⟨F.SNS_RAIL_V_VALUE, .ro, 0x0⟩]⟩,
   ⟨"SNS_RAIL_I", 0x204, [(5, 0x8)], [⟨F.SNS_RAIL_I_VALID, .ro, 0x0⟩, ⟨F.SNS_RAIL_I_CAL, .ro, 0x0⟩, ⟨F.SNS_RAIL_I_VALUE, .ro, 0x0⟩]⟩,
   ⟨"SNS_VIN", 0x280, [], [⟨F.SNS_VIN_VALID, .ro, 0x0⟩, ⟨F.SNS_VIN_CAL, .ro, 0x0⟩, ⟨F.SNS_VIN_VALUE, .ro, 0x0⟩]⟩,
   ⟨"SNS_IIN", 0x284, [], [⟨F.SNS_IIN_VALID, .ro, 0x0⟩, ⟨F.SNS_IIN_CAL, .ro, 0x0⟩, ⟨F.SNS_IIN_VALUE, .ro, 0x0⟩]⟩,
   ⟨"SNS_CAL", 0x300, [], [⟨F.SNS_CAL_GO, .w1s, 0x0⟩, ⟨F.SNS_CAL_WERR, .w1c, 0x0⟩, ⟨F.SNS_CAL_KIND, .rw, 0x0⟩, ⟨F.SNS_CAL_DIE, .rw, 0x0⟩, ⟨F.SNS_CAL_SENSOR, .rw, 0x0⟩]⟩,
   ⟨"SNS_DLYMON", 0x1000, [(4, 0x80), (32, 0x4)], [⟨F.SNS_DLYMON_VALID, .ro, 0x0⟩, ⟨F.SNS_DLYMON_CAL, .ro, 0x0⟩, ⟨F.SNS_DLYMON_TSTITCH, .ro, 0x0⟩]⟩,
   ⟨"SNS_DLYMON_YOKE", 0x1200, [(2, 0x4)], [⟨F.SNS_DLYMON_YOKE_VALID, .ro, 0x0⟩, ⟨F.SNS_DLYMON_YOKE_CAL, .ro, 0x0⟩, ⟨F.SNS_DLYMON_YOKE_TSTITCH, .ro, 0x0⟩]⟩]

/-- The register table of one window of R30 or R35. -/
def window24Regs : List RegDesc :=
  [⟨"WRP_LAT", 0x0, [], [⟨F.WRP_LAT_YOKE_BRG, .ro, 0x0C⟩, ⟨F.WRP_LAT_WEAVE_BRG, .ro, 0x0A⟩, ⟨F.WRP_LAT_EXPRESS, .ro, 0x02⟩, ⟨F.WRP_LAT_LOCAL, .ro, 0x01⟩]⟩,
   ⟨"WRP_FAULT_SUM", 0x4, [], [⟨F.WRP_FAULT_SUM_ANY, .ro, 0x0⟩, ⟨F.WRP_FAULT_SUM_COUNT, .ro, 0x0⟩]⟩,
   ⟨"WRP_BP_SUM", 0x8, [], [⟨F.WRP_BP_SUM_COUNT, .ro, 0x0⟩]⟩]

/-- The register table of one window of R30 or R35. -/
def window28Regs : List RegDesc :=
  [⟨"BRG_STATUS", 0x0, [(3, 0x10000)], [⟨F.BRG_STATUS_UP, .ro, 0x0⟩, ⟨F.BRG_STATUS_SPARES_OUT_GONE, .ro, 0x0⟩, ⟨F.BRG_STATUS_SPARES_IN_GONE, .ro, 0x0⟩, ⟨F.BRG_STATUS_USED_OUT, .ro, 0x0⟩, ⟨F.BRG_STATUS_USED_IN, .ro, 0x0⟩]⟩,
   ⟨"BRG_CODE_ERR_CNT", 0x4, [(3, 0x10000)], [⟨F.BRG_CODE_ERR_CNT_COUNT, .rc, 0x0⟩]⟩,
   ⟨"BRG_TRACKS", 0x8, [(3, 0x10000)], [⟨F.BRG_TRACKS_SPARES, .ro, 0x08⟩, ⟨F.BRG_TRACKS_TRACKS, .ro, 0x100⟩]⟩,
   ⟨"BRG_SPARE_OUT", 0x100, [(3, 0x10000), (24, 0x4)], [⟨F.BRG_SPARE_OUT_ACTIVE, .rw, 0x0⟩, ⟨F.BRG_SPARE_OUT_TRACK, .rw, 0x0⟩]⟩,
   ⟨"BRG_SPARE_IN", 0x200, [(3, 0x10000), (24, 0x4)], [⟨F.BRG_SPARE_IN_ACTIVE, .rw, 0x0⟩, ⟨F.BRG_SPARE_IN_TRACK, .rw, 0x0⟩]⟩]

/-- The register table of one window of R30 or R35. -/
def window2CRegs : List RegDesc :=
  [⟨"DMEM_LAT", 0x0, [], [⟨F.DMEM_LAT_WR_RD, .ro, 0x1⟩, ⟨F.DMEM_LAT_POCKET_RD, .ro, 0x3⟩]⟩,
   ⟨"DMEM_STATUS", 0x4, [], [⟨F.DMEM_STATUS_IDLE, .ro, 0x1⟩, ⟨F.DMEM_STATUS_FILL_BUSY, .ro, 0x0⟩, ⟨F.DMEM_STATUS_WERR, .w1c, 0x0⟩, ⟨F.DMEM_STATUS_HBM_OUT, .ro, 0x0⟩]⟩,
   ⟨"DMEM_CTRL", 0x8, [], [⟨F.DMEM_CTRL_CLRCNT, .wo, 0x0⟩]⟩,
   ⟨"DMEM_PART_IDLE", 0xC, [], [⟨F.DMEM_PART_IDLE_IDLE, .ro, 0xFFFF⟩]⟩,
   ⟨"DMEM_DESC_IDX", 0x10, [], [⟨F.DMEM_DESC_IDX_INDEX, .rw, 0x0⟩]⟩,
   ⟨"DMEM_DESC_W", 0x14, [(4, 0x4)], [⟨F.DMEM_DESC_W_DATA, .rw, 0x0⟩]⟩,
   ⟨"DMEM_OOR_CNT", 0x30, [], [⟨F.DMEM_OOR_CNT_COUNT, .ro, 0x0⟩]⟩,
   ⟨"DMEM_RO_WR_CNT", 0x34, [], [⟨F.DMEM_RO_WR_CNT_COUNT, .ro, 0x0⟩]⟩,
   ⟨"DMEM_FAULT", 0x40, [], [⟨F.DMEM_FAULT_VALID, .w1c, 0x0⟩, ⟨F.DMEM_FAULT_KIND, .ro, 0x0⟩, ⟨F.DMEM_FAULT_DESC, .ro, 0x0⟩]⟩,
   ⟨"DMEM_FAULT_SRC", 0x44, [], [⟨F.DMEM_FAULT_SRC_COLUMN, .ro, 0x0⟩, ⟨F.DMEM_FAULT_SRC_ROW, .ro, 0x0⟩, ⟨F.DMEM_FAULT_SRC_BP, .ro, 0x0⟩, ⟨F.DMEM_FAULT_SRC_STITCH, .ro, 0x0⟩]⟩,
   ⟨"DMEM_HBM_PEAK", 0x50, [], [⟨F.DMEM_HBM_PEAK_PEAK, .ro, 0x0⟩]⟩,
   ⟨"DMEM_FILL_CTRL", 0x60, [], [⟨F.DMEM_FILL_CTRL_GO, .w1s, 0x0⟩, ⟨F.DMEM_FILL_CTRL_DONE, .w1c, 0x0⟩]⟩] ++
  [⟨"DMEM_FILL_BANKS", 0x64, [], [⟨F.DMEM_FILL_BANKS_COUNT_M1, .rw, 0x0⟩, ⟨F.DMEM_FILL_BANKS_FIRST, .rw, 0x0⟩]⟩,
   ⟨"DMEM_FILL_DATA", 0x68, [], [⟨F.DMEM_FILL_DATA_DATA, .rw, 0x0⟩]⟩]

/-- The register table of one window of R30 or R35. -/
def window14Regs : List RegDesc :=
  [⟨"SEAM_CTRL", 0x0, [(4, 0x40000)], [⟨F.SEAM_CTRL_EN, .rw, 0x1⟩, ⟨F.SEAM_CTRL_RETRAIN, .w1s, 0x0⟩, ⟨F.SEAM_CTRL_CLRCNT, .wo, 0x0⟩]⟩,
   ⟨"SEAM_STATUS", 0x4, [(4, 0x40000)], [⟨F.SEAM_STATUS_UP, .ro, 0x0⟩, ⟨F.SEAM_STATUS_DEGRADED, .ro, 0x0⟩, ⟨F.SEAM_STATUS_LOST, .ro, 0x0⟩, ⟨F.SEAM_STATUS_MAP_OK, .ro, 0x0⟩, ⟨F.SEAM_STATUS_MAP_MISMATCH, .w1c, 0x0⟩, ⟨F.SEAM_STATUS_PEER_HALT, .w1c, 0x0⟩, ⟨F.SEAM_STATUS_PEER_MODULE, .ro, 0x0⟩, ⟨F.SEAM_STATUS_PEER_LINK, .ro, 0x0⟩, ⟨F.SEAM_STATUS_WORKING, .ro, 0x0⟩, ⟨F.SEAM_STATUS_STANDBY, .ro, 0x7⟩, ⟨F.SEAM_STATUS_LANE_UP, .ro, 0x0⟩]⟩,
   ⟨"SEAM_LANE", 0x10, [(4, 0x40000), (5, 0x4)], [⟨F.SEAM_LANE_UP, .ro, 0x0⟩, ⟨F.SEAM_LANE_STANDBY, .ro, 0x0⟩, ⟨F.SEAM_LANE_TRAINING, .ro, 0x0⟩, ⟨F.SEAM_LANE_FAILED, .ro, 0x0⟩, ⟨F.SEAM_LANE_UNCORR, .ro, 0x0⟩, ⟨F.SEAM_LANE_CORR, .ro, 0x0⟩]⟩,
   ⟨"SEAM_CNT", 0x30, [(4, 0x40000), (5, 0x4)], [⟨F.SEAM_CNT_COUNT, .rc, 0x0⟩]⟩,
   ⟨"SEAM_PEER_DONE_LO", 0x44, [(4, 0x40000)], [⟨F.SEAM_PEER_DONE_LO_COUNT, .ro, 0x0⟩]⟩,
   ⟨"SEAM_PEER_DONE_HI", 0x48, [(4, 0x40000)], [⟨F.SEAM_PEER_DONE_HI_COUNT, .ro, 0x0⟩]⟩]

/-- The register table of one window of R30 or R35. -/
def window18Regs : List RegDesc :=
  [⟨"CUFF_STATUS", 0x0, [], [⟨F.CUFF_STATUS_COMMITTED, .ro, 0x0⟩, ⟨F.CUFF_STATUS_DRVX, .w1c, 0x0⟩, ⟨F.CUFF_STATUS_VIO_FAULT, .w1c, 0x0⟩, ⟨F.CUFF_STATUS_FENCE_LIMIT, .w1c, 0x0⟩, ⟨F.CUFF_STATUS_FENCES, .ro, 0x0⟩, ⟨F.CUFF_STATUS_RECONF, .ro, 0x0⟩]⟩,
   ⟨"CUFF_CTRL", 0x4, [], [⟨F.CUFF_CTRL_CLRCNT, .wo, 0x0⟩]⟩,
   ⟨"CUFF_DRVX_CNT", 0x8, [], [⟨F.CUFF_DRVX_CNT_COUNT, .rc, 0x0⟩]⟩,
   ⟨"CUFF_DRVX_CAP", 0xC, [], [⟨F.CUFF_DRVX_CAP_VALID, .w1c, 0x0⟩, ⟨F.CUFF_DRVX_CAP_ROW, .ro, 0x0⟩, ⟨F.CUFF_DRVX_CAP_SPAN, .ro, 0x0⟩, ⟨F.CUFF_DRVX_CAP_LINE, .ro, 0x0⟩, ⟨F.CUFF_DRVX_CAP_CONNECTED, .ro, 0x0⟩, ⟨F.CUFF_DRVX_CAP_ENABLED, .ro, 0x0⟩]⟩,
   ⟨"CUFF_BANK", 0x100, [(16, 0x4)], [⟨F.CUFF_BANK_VIO_OK, .ro, 0x0⟩, ⟨F.CUFF_BANK_VIO_SEL, .ro, 0x0⟩, ⟨F.CUFF_BANK_VIO_MEAS, .ro, 0x0⟩, ⟨F.CUFF_BANK_HELD, .ro, 0x0⟩, ⟨F.CUFF_BANK_PREPULL, .rw, 0x0⟩]⟩,
   ⟨"CUFF_FP_STATUS", 0x200, [(32, 0x20)], [⟨F.CUFF_FP_STATUS_MODE, .ro, 0x0⟩, ⟨F.CUFF_FP_STATUS_OVF, .w1c, 0x0⟩, ⟨F.CUFF_FP_STATUS_UNDERRUN, .w1c, 0x0⟩, ⟨F.CUFF_FP_STATUS_PAUSING, .ro, 0x0⟩, ⟨F.CUFF_FP_STATUS_FULL, .ro, 0x0⟩, ⟨F.CUFF_FP_STATUS_REPLAY, .ro, 0x0⟩, ⟨F.CUFF_FP_STATUS_IN_FILL, .ro, 0x0⟩]⟩,
   ⟨"CUFF_FP_OUT_FILL", 0x204, [(32, 0x20)], [⟨F.CUFF_FP_OUT_FILL_OUT_FILL, .ro, 0x0⟩]⟩,
   ⟨"CUFF_FP_DROP_CNT", 0x208, [(32, 0x20)], [⟨F.CUFF_FP_DROP_CNT_COUNT, .ro, 0x0⟩]⟩,
   ⟨"CUFF_FP_UNDER_CNT", 0x20C, [(32, 0x20)], [⟨F.CUFF_FP_UNDER_CNT_COUNT, .ro, 0x0⟩]⟩,
   ⟨"CUFF_FP_SUPERSEDED_CNT", 0x210, [(32, 0x20)], [⟨F.CUFF_FP_SUPERSEDED_CNT_COUNT, .ro, 0x0⟩]⟩,
   ⟨"CUFF_FP_BOUND", 0x214, [(32, 0x20)], [⟨F.CUFF_FP_BOUND_ECYCLE, .ro, 0xFFFFFFFF⟩]⟩,
   ⟨"CUFF_FP_MOVED", 0x218, [(32, 0x20)], [⟨F.CUFF_FP_MOVED_ECYCLE, .ro, 0xFFFFFFFF⟩]⟩]

/-- The register table of one window of R30 or R35. -/
def window0BRegs : List RegDesc :=
  [⟨"CFG_STATUS", 0x0, [], [⟨F.CFG_STATUS_INIT_N_IN, .ro, 0x0⟩, ⟨F.CFG_STATUS_DONE_IN, .ro, 0x0⟩, ⟨F.CFG_STATUS_DONE_PULL, .ro, 0x1⟩, ⟨F.CFG_STATUS_INIT_N_PULL, .ro, 0x1⟩, ⟨F.CFG_STATUS_BUSY, .ro, 0x0⟩]⟩,
   ⟨"CFG_REGION", 0x4, [], [⟨F.CFG_REGION_FIRST, .ro, 0x0⟩, ⟨F.CFG_REGION_HOLD, .ro, 0x0⟩]⟩,
   ⟨"CFG_DONE_CTRL", 0x8, [], [⟨F.CFG_DONE_CTRL_RELEASE, .rw, 0x0⟩]⟩,
   ⟨"CFG_READBACK_CNT", 0xC, [], [⟨F.CFG_READBACK_CNT_COUNT, .rc, 0x0⟩]⟩,
   ⟨"CFG_DONE_FALL_CNT", 0x10, [], [⟨F.CFG_DONE_FALL_CNT_COUNT, .rc, 0x0⟩]⟩]

/-- The register table of one window of R30 or R35. -/
def window10Regs : List RegDesc :=
  [⟨"HBM_STATUS", 0x0, [], [⟨F.HBM_STATUS_UP, .ro, 0x0⟩, ⟨F.HBM_STATUS_REKEY, .ro, 0x0⟩, ⟨F.HBM_STATUS_RETIRED, .ro, 0x0⟩, ⟨F.HBM_STATUS_RETIRED_PC, .ro, 0x0⟩, ⟨F.HBM_STATUS_COPYING, .ro, 0x0⟩, ⟨F.HBM_STATUS_OUT, .ro, 0x0⟩]⟩,
   ⟨"HBM_CE_CNT", 0x4, [], [⟨F.HBM_CE_CNT_COUNT, .rc, 0x0⟩]⟩,
   ⟨"HBM_UE_CNT", 0x8, [], [⟨F.HBM_UE_CNT_COUNT, .rc, 0x0⟩]⟩,
   ⟨"HBM_TAG_RETRY_CNT", 0xC, [], [⟨F.HBM_TAG_RETRY_CNT_COUNT, .rc, 0x0⟩]⟩,
   ⟨"HBM_TAG_CAP", 0x10, [], [⟨F.HBM_TAG_CAP_VALID, .w1c, 0x0⟩, ⟨F.HBM_TAG_CAP_HALTED, .ro, 0x0⟩, ⟨F.HBM_TAG_CAP_LINE, .ro, 0x0⟩]⟩]

/-- The register table of one window of R30 or R35. -/
def window0ERegs : List RegDesc :=
  [⟨"XTS_IDS", 0x0, [], [⟨F.XTS_IDS_EXHAUSTED, .ro, 0x0⟩, ⟨F.XTS_IDS_LIVE, .ro, 0x0⟩, ⟨F.XTS_IDS_ISSUED, .ro, 0x0⟩]⟩,
   ⟨"XTS_SLOT", 0x100, [(64, 0x4)], [⟨F.XTS_SLOT_LIVE, .ro, 0x0⟩, ⟨F.XTS_SLOT_CLASS, .ro, 0x0⟩, ⟨F.XTS_SLOT_PARTITION, .ro, 0x0⟩, ⟨F.XTS_SLOT_PREVIOUS, .ro, 0x0⟩, ⟨F.XTS_SLOT_KEY_ID, .ro, 0x0⟩]⟩]

/-- The register table of one window of R30 or R35. -/
def window07Regs : List RegDesc :=
  [⟨"PART_STATE", 0x0, [(16, 0x4)], [⟨F.PART_STATE_STATE, .ro, 0x0⟩, ⟨F.PART_STATE_ROLLING, .ro, 0x0⟩, ⟨F.PART_STATE_SESSION, .ro, 0x0⟩]⟩]

/-- The register table of one window of R30 or R35. -/
def window0ARegs : List RegDesc :=
  [⟨"NOC_CTRL", 0x0, [], [⟨F.NOC_CTRL_CLRERR, .wo, 0x0⟩, ⟨F.NOC_CTRL_CLRSTAT, .wo, 0x0⟩]⟩,
   ⟨"NOC_STATUS", 0x4, [], [⟨F.NOC_STATUS_WERR, .w1c, 0x0⟩, ⟨F.NOC_STATUS_SWAPPING, .ro, 0x0⟩]⟩,
   ⟨"NOC_TIMEOUT", 0x8, [], [⟨F.NOC_TIMEOUT_US, .rw, 0x003E8⟩]⟩,
   ⟨"NOC_RT_SWAP", 0xC, [], [⟨F.NOC_RT_SWAP_GO, .w1s, 0x0⟩, ⟨F.NOC_RT_SWAP_ROUTER, .rw, 0x0⟩]⟩,
   ⟨"NOC_ASLEEP_CNT", 0x20, [], [⟨F.NOC_ASLEEP_CNT_COUNT, .rc, 0x0⟩]⟩,
   ⟨"NOC_UNMAPPED_CNT", 0x24, [], [⟨F.NOC_UNMAPPED_CNT_COUNT, .rc, 0x0⟩]⟩,
   ⟨"NOC_LOOP_CNT", 0x28, [], [⟨F.NOC_LOOP_CNT_COUNT, .rc, 0x0⟩]⟩,
   ⟨"NOC_LATE_CNT", 0x2C, [], [⟨F.NOC_LATE_CNT_COUNT, .rc, 0x0⟩]⟩,
   ⟨"NOC_FCHK_CNT", 0x30, [], [⟨F.NOC_FCHK_CNT_COUNT, .rc, 0x0⟩]⟩,
   ⟨"NOC_DROP_CNT", 0x34, [], [⟨F.NOC_DROP_CNT_COUNT, .rc, 0x0⟩]⟩,
   ⟨"NOC_ERR_CAP", 0x40, [], [⟨F.NOC_ERR_CAP_VALID, .w1c, 0x0⟩, ⟨F.NOC_ERR_CAP_SYNTH, .ro, 0x0⟩, ⟨F.NOC_ERR_CAP_INITIATOR, .ro, 0x0⟩, ⟨F.NOC_ERR_CAP_DEST, .ro, 0x0⟩, ⟨F.NOC_ERR_CAP_OPC, .ro, 0x0⟩]⟩,
   ⟨"NOC_ERR_CODE", 0x44, [], [⟨F.NOC_ERR_CODE_CODE, .ro, 0x0⟩]⟩] ++
  [⟨"NOC_DOM", 0x1000, [(193, 0x4)], [⟨F.NOC_DOM_SLEEP, .rw, 0x0⟩, ⟨F.NOC_DOM_STATE, .ro, 0x0⟩, ⟨F.NOC_DOM_REFUSED, .w1c, 0x0⟩, ⟨F.NOC_DOM_EMPTY, .ro, 0x1⟩, ⟨F.NOC_DOM_PENDING, .ro, 0x0⟩]⟩,
   ⟨"NOC_ST_REQ", 0x10000, [(256, 0x40)], [⟨F.NOC_ST_REQ_COUNT, .ro, 0x0⟩]⟩,
   ⟨"NOC_ST_ERR", 0x10004, [(256, 0x40)], [⟨F.NOC_ST_ERR_COUNT, .ro, 0x0⟩]⟩,
   ⟨"NOC_ST_TMO", 0x10008, [(256, 0x40)], [⟨F.NOC_ST_TMO_COUNT, .ro, 0x0⟩]⟩,
   ⟨"NOC_ST_LAT_MAX", 0x1000C, [(256, 0x40)], [⟨F.NOC_ST_LAT_MAX_COUNT, .ro, 0x0⟩]⟩,
   ⟨"NOC_ST_RD_LO", 0x10010, [(256, 0x40)], [⟨F.NOC_ST_RD_LO_COUNT, .ro, 0x0⟩]⟩,
   ⟨"NOC_ST_RD_HI", 0x10014, [(256, 0x40)], [⟨F.NOC_ST_RD_HI_COUNT, .ro, 0x0⟩]⟩,
   ⟨"NOC_ST_WR_LO", 0x10018, [(256, 0x40)], [⟨F.NOC_ST_WR_LO_COUNT, .ro, 0x0⟩]⟩,
   ⟨"NOC_ST_WR_HI", 0x1001C, [(256, 0x40)], [⟨F.NOC_ST_WR_HI_COUNT, .ro, 0x0⟩]⟩,
   ⟨"NOC_ST_LAT_LO", 0x10020, [(256, 0x40)], [⟨F.NOC_ST_LAT_LO_COUNT, .ro, 0x0⟩]⟩,
   ⟨"NOC_ST_LAT_HI", 0x10024, [(256, 0x40)], [⟨F.NOC_ST_LAT_HI_COUNT, .ro, 0x0⟩]⟩,
   ⟨"NOC_ST_OUT", 0x10028, [(256, 0x40)], [⟨F.NOC_ST_OUT_PEAK, .ro, 0x0⟩, ⟨F.NOC_ST_OUT_OUT, .ro, 0x0⟩]⟩] ++
  [⟨"NOC_RT_SH", 0x20000, [(65, 0x400), (256, 0x4)], [⟨F.NOC_RT_SH_VALID, .rw, 0x0⟩, ⟨F.NOC_RT_SH_ASLEEP, .rw, 0x0⟩, ⟨F.NOC_RT_SH_PORT, .rw, 0x0⟩]⟩,
   ⟨"NOC_RT_ACT", 0x40000, [(65, 0x400), (256, 0x4)], [⟨F.NOC_RT_ACT_VALID, .ro, 0x0⟩, ⟨F.NOC_RT_ACT_ASLEEP, .ro, 0x0⟩, ⟨F.NOC_RT_ACT_PORT, .ro, 0x0⟩]⟩]

/-- The register table of one window of R30 or R35. -/
def window0CRegs : List RegDesc :=
  [⟨"HEM_CTRL", 0x0, [], [⟨F.HEM_CTRL_EN, .rw, 0x0⟩, ⟨F.HEM_CTRL_ARM, .w1s, 0x0⟩, ⟨F.HEM_CTRL_REARM, .rw, 0x0⟩, ⟨F.HEM_CTRL_SWEV, .w1s, 0x0⟩, ⟨F.HEM_CTRL_DEST, .rw, 0x0⟩, ⟨F.HEM_CTRL_RATE_EN, .rw, 0x0⟩, ⟨F.HEM_CTRL_MARK_EN, .rw, 0x0⟩]⟩,
   ⟨"HEM_STATUS", 0x4, [], [⟨F.HEM_STATUS_STATE, .ro, 0x0⟩, ⟨F.HEM_STATUS_OVF, .w1c, 0x0⟩, ⟨F.HEM_STATUS_WERR, .w1c, 0x0⟩, ⟨F.HEM_STATUS_PORT_UP, .ro, 0x0⟩, ⟨F.HEM_STATUS_BUF_FULL, .ro, 0x0⟩, ⟨F.HEM_STATUS_PORT_DENIED, .ro, 0x0⟩, ⟨F.HEM_STATUS_WINDOWS, .ro, 0x0⟩]⟩,
   ⟨"HEM_PORT", 0x8, [], [⟨F.HEM_PORT_MODE, .rw, 0x0⟩, ⟨F.HEM_PORT_RATE, .rw, 0x0⟩, ⟨F.HEM_PORT_LANES, .rw, 0x0⟩]⟩,
   ⟨"HEM_START_SEL", 0xC, [], [⟨F.HEM_START_SEL_MASK, .rw, 0x0⟩]⟩,
   ⟨"HEM_STOP_SEL", 0x10, [], [⟨F.HEM_STOP_SEL_MASK, .rw, 0x0⟩]⟩,
   ⟨"HEM_ECYC_START_LO", 0x14, [], [⟨F.HEM_ECYC_START_LO_VALUE, .rw, 0x0⟩]⟩,
   ⟨"HEM_ECYC_START_HI", 0x18, [], [⟨F.HEM_ECYC_START_HI_VALUE, .rw, 0x0⟩]⟩,
   ⟨"HEM_STOP_DELAY", 0x1C, [], [⟨F.HEM_STOP_DELAY_VALUE, .rw, 0x0⟩]⟩,
   ⟨"HEM_MARK_MATCH", 0x20, [], [⟨F.HEM_MARK_MATCH_VALUE, .rw, 0x0⟩, ⟨F.HEM_MARK_MATCH_MASK, .rw, 0x0⟩]⟩,
   ⟨"HEM_PACE", 0x24, [], [⟨F.HEM_PACE_SYNC_PERIOD, .rw, 0x0⟩, ⟨F.HEM_PACE_DECIM, .rw, 0x0⟩, ⟨F.HEM_PACE_STALL_MIN, .rw, 0x0⟩]⟩,
   ⟨"HEM_LOST_CNT", 0x28, [], [⟨F.HEM_LOST_CNT_VALUE, .rc, 0x0⟩]⟩,
   ⟨"HEM_BUF_WPTR", 0x2C, [], [⟨F.HEM_BUF_WPTR_VALUE, .ro, 0x0⟩]⟩] ++
  [⟨"HEM_WATCH_CFG", 0x100, [(16, 0x10)], [⟨F.HEM_WATCH_CFG_EN, .rw, 0x0⟩, ⟨F.HEM_WATCH_CFG_STALL, .rw, 0x0⟩, ⟨F.HEM_WATCH_CFG_SPLIT, .rw, 0x0⟩, ⟨F.HEM_WATCH_CFG_RESULT, .rw, 0x0⟩, ⟨F.HEM_WATCH_CFG_VCLUSTER, .rw, 0x0⟩]⟩,
   ⟨"HEM_WATCH_MASK", 0x104, [(16, 0x10)], [⟨F.HEM_WATCH_MASK_MASK, .rw, 0x0⟩]⟩,
   ⟨"HEM_WATCH_RANGE", 0x108, [(16, 0x10)], [⟨F.HEM_WATCH_RANGE_LAST, .rw, 0x0⟩, ⟨F.HEM_WATCH_RANGE_FIRST, .rw, 0x0⟩]⟩,
   ⟨"HEM_WATCH_PHYS", 0x10C, [(16, 0x10)], [⟨F.HEM_WATCH_PHYS_BINDING, .ro, 0x0⟩]⟩]

/-- The register table of one window of R30 or R35. -/
def window0DRegs : List RegDesc :=
  [⟨"ACQ_STATUS", 0x0, [], [⟨F.ACQ_STATUS_ACTIVE, .ro, 0x0⟩]⟩,
   ⟨"ACQ_TRIG_IN", 0x10, [(4, 0x4)], [⟨F.ACQ_TRIG_IN_EN, .rw, 0x0⟩, ⟨F.ACQ_TRIG_IN_POL, .rw, 0x0⟩, ⟨F.ACQ_TRIG_IN_BUS, .rw, 0x0⟩, ⟨F.ACQ_TRIG_IN_PART, .rw, 0x0⟩, ⟨F.ACQ_TRIG_IN_GLITCH, .rc, 0x0⟩, ⟨F.ACQ_TRIG_IN_FILT, .rw, 0x04⟩]⟩,
   ⟨"ACQ_TRIG_OUT", 0x20, [(4, 0x4)], [⟨F.ACQ_TRIG_OUT_SRC, .rw, 0x0⟩, ⟨F.ACQ_TRIG_OUT_UNIT, .rw, 0x0⟩, ⟨F.ACQ_TRIG_OUT_WIDTH, .rw, 0x0010⟩]⟩,
   ⟨"ACQ_BUS_CNT", 0x30, [], [⟨F.ACQ_BUS_CNT_FRAMES, .rc, 0x0⟩, ⟨F.ACQ_BUS_CNT_BAD, .rc, 0x0⟩]⟩,
   ⟨"ACQ_U_CTRL", 0x1000, [(16, 0x100)], [⟨F.ACQ_U_CTRL_ARM, .w1s, 0x0⟩, ⟨F.ACQ_U_CTRL_STOP, .w1s, 0x0⟩, ⟨F.ACQ_U_CTRL_FORCE, .w1s, 0x0⟩]⟩,
   ⟨"ACQ_U_STATUS", 0x1004, [(16, 0x100)], [⟨F.ACQ_U_STATUS_STATE, .ro, 0x0⟩, ⟨F.ACQ_U_STATUS_WERR, .w1c, 0x0⟩, ⟨F.ACQ_U_STATUS_OVF, .w1c, 0x0⟩, ⟨F.ACQ_U_STATUS_QHELD, .ro, 0x0⟩, ⟨F.ACQ_U_STATUS_SEQ_STATE, .ro, 0x0⟩]⟩,
   ⟨"ACQ_U_CFG", 0x1008, [(16, 0x100)], [⟨F.ACQ_U_CFG_MODE, .rw, 0x0⟩, ⟨F.ACQ_U_CFG_HOLD, .rw, 0x1⟩, ⟨F.ACQ_U_CFG_WRAP, .rw, 0x0⟩, ⟨F.ACQ_U_CFG_QUEUE_ONE, .rw, 0x0⟩, ⟨F.ACQ_U_CFG_STAMP, .rw, 0x0⟩, ⟨F.ACQ_U_CFG_GROUP_EN, .rw, 0x0⟩, ⟨F.ACQ_U_CFG_MASTER, .rw, 0x0⟩, ⟨F.ACQ_U_CFG_GROUP, .rw, 0x0⟩, ⟨F.ACQ_U_CFG_BUSPAIR, .rw, 0x0⟩, ⟨F.ACQ_U_CFG_DROP, .rw, 0x0⟩, ⟨F.ACQ_U_CFG_INT_TIME, .rw, 0x0⟩, ⟨F.ACQ_U_CFG_CAP_WORDS_M1, .rw, 0x0⟩]⟩,
   ⟨"ACQ_U_SEG", 0x100C, [(16, 0x100)], [⟨F.ACQ_U_SEG_SEGMENTS_M1, .rw, 0x0⟩]⟩,
   ⟨"ACQ_U_SAMPLES", 0x1010, [(16, 0x100)], [⟨F.ACQ_U_SAMPLES_SEG_SAMPLES, .rw, 0x0⟩]⟩,
   ⟨"ACQ_U_PRE", 0x1014, [(16, 0x100)], [⟨F.ACQ_U_PRE_PRE, .rw, 0x0⟩]⟩,
   ⟨"ACQ_U_BUF", 0x1018, [(16, 0x100)], [⟨F.ACQ_U_BUF_OFFSET_MIB, .rw, 0x0⟩, ⟨F.ACQ_U_BUF_SIZE_MIB, .rw, 0x0⟩]⟩,
   ⟨"ACQ_U_AUTO", 0x101C, [(16, 0x100)], [⟨F.ACQ_U_AUTO_A, .rw, 0x0⟩]⟩] ++
  [⟨"ACQ_U_INTERVAL", 0x1020, [(16, 0x100)], [⟨F.ACQ_U_INTERVAL_N, .rw, 0x0⟩]⟩,
   ⟨"ACQ_U_ECYC_AT_LO", 0x1024, [(16, 0x100)], [⟨F.ACQ_U_ECYC_AT_LO_E, .rw, 0x0⟩]⟩,
   ⟨"ACQ_U_ECYC_AT_HI", 0x1028, [(16, 0x100)], [⟨F.ACQ_U_ECYC_AT_HI_E, .rw, 0x0⟩]⟩,
   ⟨"ACQ_U_MARK_MATCH", 0x102C, [(16, 0x100)], [⟨F.ACQ_U_MARK_MATCH_VALUE, .rw, 0x0⟩, ⟨F.ACQ_U_MARK_MATCH_MASK, .rw, 0x0⟩]⟩,
   ⟨"ACQ_U_MISSED", 0x1030, [(16, 0x100)], [⟨F.ACQ_U_MISSED_COUNT, .rc, 0x0⟩]⟩,
   ⟨"ACQ_U_SEGS_DONE", 0x1034, [(16, 0x100)], [⟨F.ACQ_U_SEGS_DONE_COUNT, .ro, 0x0⟩]⟩,
   ⟨"ACQ_U_STREAMQ", 0x1038, [(16, 0x100)], [⟨F.ACQ_U_STREAMQ_QUEUE, .rw, 0x0⟩]⟩,
   ⟨"ACQ_U_CNT_LO", 0x1040, [(16, 0x100), (4, 0x8)], [⟨F.ACQ_U_CNT_LO_CNT, .ro, 0x0⟩]⟩,
   ⟨"ACQ_U_CNT_HI", 0x1044, [(16, 0x100), (4, 0x8)], [⟨F.ACQ_U_CNT_HI_CNT, .ro, 0x0⟩]⟩,
   ⟨"ACQ_U_LIMIT_LO", 0x1060, [(16, 0x100), (4, 0x8)], [⟨F.ACQ_U_LIMIT_LO_LIMIT, .rw, 0x0⟩]⟩,
   ⟨"ACQ_U_LIMIT_HI", 0x1064, [(16, 0x100), (4, 0x8)], [⟨F.ACQ_U_LIMIT_HI_LIMIT, .rw, 0x0⟩]⟩,
   ⟨"ACQ_U_TIMER", 0x1080, [(16, 0x100), (2, 0x8)], [⟨F.ACQ_U_TIMER_MODE, .rw, 0x0⟩, ⟨F.ACQ_U_TIMER_RUN, .ro, 0x0⟩]⟩] ++
  [⟨"ACQ_U_TLIMIT", 0x1084, [(16, 0x100), (2, 0x8)], [⟨F.ACQ_U_TLIMIT_TLIMIT, .rw, 0x0⟩]⟩]

/-- The register table of one window of R30 or R35. -/
def window06Regs : List RegDesc :=
  [⟨"LNG_STATUS", 0x0, [], [⟨F.LNG_STATUS_HOLD, .ro, 0x0⟩, ⟨F.LNG_STATUS_DEFAULTS, .ro, 0x0⟩, ⟨F.LNG_STATUS_BEYOND, .w1c, 0x0⟩, ⟨F.LNG_STATUS_STAGE, .ro, 0x0⟩]⟩,
   ⟨"LNG_ROLLBACK_CNT", 0x4, [], [⟨F.LNG_ROLLBACK_CNT_COUNT, .rc, 0x0⟩]⟩,
   ⟨"LNG_SCRUB_CFG", 0x100, [(6, 0x10)], [⟨F.LNG_SCRUB_CFG_PERIOD, .rw, 0x0⟩, ⟨F.LNG_SCRUB_CFG_MODE, .rw, 0x0⟩, ⟨F.LNG_SCRUB_CFG_DEFAULT, .ro, 0x0⟩, ⟨F.LNG_SCRUB_CFG_WERR, .w1c, 0x0⟩]⟩,
   ⟨"LNG_SCRUB_RANGE", 0x104, [(6, 0x10)], [⟨F.LNG_SCRUB_RANGE_FIRST, .rw, 0x0000⟩, ⟨F.LNG_SCRUB_RANGE_LAST, .rw, 0xFFFF⟩]⟩,
   ⟨"LNG_SCRUB_DIAG", 0x108, [(6, 0x10)], [⟨F.LNG_SCRUB_DIAG_REPAIRS, .rc, 0x0⟩, ⟨F.LNG_SCRUB_DIAG_NOMAJ, .w1c, 0x0⟩, ⟨F.LNG_SCRUB_DIAG_DIFFER, .ro, 0x0⟩, ⟨F.LNG_SCRUB_DIAG_ERRORS, .rc, 0x0⟩]⟩]

/-- The register table of one window of R30 or R35. -/
def window00Regs : List RegDesc :=
  [⟨"COL_LEASE", 0x0, [], [⟨F.COL_LEASE_HOLDER, .ro, 0x3⟩, ⟨F.COL_LEASE_NONE, .ro, 0x0⟩, ⟨F.COL_LEASE_YIELD, .w1s, 0x0⟩, ⟨F.COL_LEASE_REMAIN_US, .ro, 0x0⟩]⟩,
   ⟨"COL_SELF", 0x4, [], [⟨F.COL_SELF_RENEW, .wo, 0x0⟩, ⟨F.COL_SELF_REQUEST, .rw, 0x0⟩, ⟨F.COL_SELF_READY, .rw, 0x0⟩]⟩,
   ⟨"COL_STATE", 0x10, [(2, 0x4)], [⟨F.COL_STATE_STATE, .ro, 0x1⟩, ⟨F.COL_STATE_FW_VALID, .ro, 0x0⟩, ⟨F.COL_STATE_SLOT, .ro, 0x0⟩, ⟨F.COL_STATE_LOCKSTEP_FAILS, .ro, 0x0⟩, ⟨F.COL_STATE_SVN, .ro, 0x0⟩]⟩,
   ⟨"COL_REFUSED_CNT", 0x20, [], [⟨F.COL_REFUSED_CNT_COUNT, .rc, 0x0⟩]⟩,
   ⟨"COL_FUSE", 0x30, [], [⟨F.COL_FUSE_BLOW, .w1s, 0x0⟩, ⟨F.COL_FUSE_WERR, .w1c, 0x0⟩, ⟨F.COL_FUSE_USED, .ro, 0x00⟩]⟩,
   ⟨"COL_BOOT", 0x40, [], [⟨F.COL_BOOT_RESET_OTHER, .w1s, 0x0⟩, ⟨F.COL_BOOT_ONCE_SLOT, .rw, 0x0⟩, ⟨F.COL_BOOT_ONCE_EN, .rw, 0x0⟩]⟩,
   ⟨"COL_RECOVERY", 0x80, [], [⟨F.COL_RECOVERY_LEN16, .wo, 0x0⟩, ⟨F.COL_RECOVERY_INDEX, .wo, 0x0⟩]⟩,
   ⟨"COL_RECOVERY_STATUS", 0x84, [], [⟨F.COL_RECOVERY_STATUS_ERR, .w1c, 0x0⟩, ⟨F.COL_RECOVERY_STATUS_BUSY, .ro, 0x0⟩, ⟨F.COL_RECOVERY_STATUS_DONE, .ro, 0x0⟩, ⟨F.COL_RECOVERY_STATUS_FAIL, .w1c, 0x0⟩, ⟨F.COL_RECOVERY_STATUS_CHUNKS, .ro, 0x0⟩]⟩]

/-- The register table of one window of R30 or R35. -/
def mirrorRegs : List RegDesc :=
  [⟨"COL_OD_CMD", 0x0, [(16, 0x1000)], [⟨F.COL_OD_CMD_GO, .w1s, 0x0⟩, ⟨F.COL_OD_CMD_OP, .rw, 0x0⟩, ⟨F.COL_OD_CMD_INDEX, .rw, 0x0⟩, ⟨F.COL_OD_CMD_SUB, .rw, 0x0⟩]⟩,
   ⟨"COL_OD_OFFSET", 0x4, [(16, 0x1000)], [⟨F.COL_OD_OFFSET_OFFSET, .rw, 0x0⟩]⟩,
   ⟨"COL_OD_LEN", 0x8, [(16, 0x1000)], [⟨F.COL_OD_LEN_LEN, .rw, 0x0⟩]⟩,
   ⟨"COL_OD_STATUS", 0xC, [(16, 0x1000)], [⟨F.COL_OD_STATUS_BUSY, .ro, 0x0⟩, ⟨F.COL_OD_STATUS_DONE, .w1c, 0x0⟩, ⟨F.COL_OD_STATUS_WERR, .w1c, 0x0⟩, ⟨F.COL_OD_STATUS_RESULT_LEN, .ro, 0x0⟩]⟩,
   ⟨"COL_OD_CODE", 0x10, [(16, 0x1000)], [⟨F.COL_OD_CODE_CODE, .ro, 0x0⟩]⟩]

/-- The register table of one window of R30 or R35. -/
def window04Regs : List RegDesc :=
  [⟨"TIME_CTRL", 0x0, [], [⟨F.TIME_CTRL_SET_A, .w1s, 0x0⟩, ⟨F.TIME_CTRL_SET_B, .w1s, 0x0⟩, ⟨F.TIME_CTRL_WERR, .w1c, 0x0⟩]⟩,
   ⟨"TIME_SET_NS", 0x4, [], [⟨F.TIME_SET_NS_NS, .rw, 0x0⟩]⟩,
   ⟨"TIME_SET_SLO", 0x8, [], [⟨F.TIME_SET_SLO_SEC, .rw, 0x0⟩]⟩,
   ⟨"TIME_SET_SHI", 0xC, [], [⟨F.TIME_SET_SHI_SEC, .rw, 0x0⟩]⟩,
   ⟨"TIME_A_NS", 0x10, [], [⟨F.TIME_A_NS_NS, .ro, 0x0⟩]⟩,
   ⟨"TIME_A_SLO", 0x14, [], [⟨F.TIME_A_SLO_SEC, .ro, 0x0⟩]⟩,
   ⟨"TIME_A_SHI", 0x18, [], [⟨F.TIME_A_SHI_SEC, .ro, 0x0⟩]⟩,
   ⟨"TIME_B_NS", 0x20, [], [⟨F.TIME_B_NS_NS, .ro, 0x0⟩]⟩,
   ⟨"TIME_B_SLO", 0x24, [], [⟨F.TIME_B_SLO_SEC, .ro, 0x0⟩]⟩,
   ⟨"TIME_B_SHI", 0x28, [], [⟨F.TIME_B_SHI_SEC, .ro, 0x0⟩]⟩,
   ⟨"TIME_A_INC", 0x30, [], [⟨F.TIME_A_INC_INC, .rw, 0x66666666⟩]⟩,
   ⟨"TIME_B_INC", 0x34, [], [⟨F.TIME_B_INC_INC, .rw, 0x66666666⟩]⟩] ++
  [⟨"TIME_A_ADJ", 0x38, [], [⟨F.TIME_A_ADJ_ADJ, .rw, 0x0⟩]⟩,
   ⟨"TIME_B_ADJ", 0x3C, [], [⟨F.TIME_B_ADJ_ADJ, .rw, 0x0⟩]⟩,
   ⟨"TIME_SPLIT", 0x40, [], [⟨F.TIME_SPLIT_DIFF, .ro, 0x0⟩]⟩,
   ⟨"TIME_TXQ_STATUS", 0x50, [], [⟨F.TIME_TXQ_STATUS_OVF, .w1c, 0x0⟩, ⟨F.TIME_TXQ_STATUS_COUNT, .ro, 0x0⟩, ⟨F.TIME_TXQ_STATUS_LOST, .rc, 0x0⟩]⟩,
   ⟨"TIME_TXQ_W0", 0x60, [], [⟨F.TIME_TXQ_W0_VALID, .ro, 0x0⟩, ⟨F.TIME_TXQ_W0_PORT, .ro, 0x0⟩, ⟨F.TIME_TXQ_W0_MSGTYPE, .ro, 0x0⟩, ⟨F.TIME_TXQ_W0_DOMAIN, .ro, 0x0⟩, ⟨F.TIME_TXQ_W0_SEQUENCE_ID, .ro, 0x0⟩]⟩,
   ⟨"TIME_TXQ_W1", 0x64, [], [⟨F.TIME_TXQ_W1_STAMP, .ro, 0x0⟩]⟩,
   ⟨"TIME_TXQ_W2", 0x68, [], [⟨F.TIME_TXQ_W2_STAMP, .ro, 0x0⟩]⟩,
   ⟨"TIME_TXQ_W3", 0x6C, [], [⟨F.TIME_TXQ_W3_STAMP, .ro, 0x0⟩]⟩,
   ⟨"TIME_TXQ_W4", 0x70, [], [⟨F.TIME_TXQ_W4_STAMP, .ro, 0x0⟩]⟩,
   ⟨"TIME_TXQ_W5", 0x74, [], [⟨F.TIME_TXQ_W5_STAMP, .ro, 0x0⟩]⟩,
   ⟨"TIME_TXQ_W6", 0x78, [], [⟨F.TIME_TXQ_W6_STAMP, .ro, 0x0⟩]⟩,
   ⟨"TIME_ALARM_CTRL", 0x100, [(8, 0x20)], [⟨F.TIME_ALARM_CTRL_ARMED, .rw, 0x0⟩, ⟨F.TIME_ALARM_CTRL_FIRED, .w1c, 0x0⟩, ⟨F.TIME_ALARM_CTRL_LATE, .w1c, 0x0⟩, ⟨F.TIME_ALARM_CTRL_DOMAIN, .rw, 0x0⟩, ⟨F.TIME_ALARM_CTRL_ACTION, .rw, 0x0⟩, ⟨F.TIME_ALARM_CTRL_TARGET, .rw, 0x0⟩]⟩] ++
  [⟨"TIME_ALARM_NS", 0x104, [(8, 0x20)], [⟨F.TIME_ALARM_NS_NS, .rw, 0x0⟩]⟩,
   ⟨"TIME_ALARM_SLO", 0x108, [(8, 0x20)], [⟨F.TIME_ALARM_SLO_SEC, .rw, 0x0⟩]⟩,
   ⟨"TIME_ALARM_SHI", 0x10C, [(8, 0x20)], [⟨F.TIME_ALARM_SHI_SEC, .rw, 0x0⟩]⟩,
   ⟨"TIME_ALARM_PER_LO", 0x110, [(8, 0x20)], [⟨F.TIME_ALARM_PER_LO_PERIOD, .rw, 0x0⟩]⟩,
   ⟨"TIME_ALARM_PER_HI", 0x114, [(8, 0x20)], [⟨F.TIME_ALARM_PER_HI_PERIOD, .rw, 0x0⟩]⟩]

/-- The register table of one window of R30 or R35. -/
def window09Regs : List RegDesc :=
  [⟨"MBX_H2M_DATA", 0x0, [(64, 0x1000), (16, 0x4)], [⟨F.MBX_H2M_DATA_DATA, .rw, 0x0⟩]⟩,
   ⟨"MBX_H2M_CTRL", 0x40, [(64, 0x1000)], [⟨F.MBX_H2M_CTRL_POST, .w1s, 0x0⟩, ⟨F.MBX_H2M_CTRL_ACK, .w1s, 0x0⟩, ⟨F.MBX_H2M_CTRL_FULL, .ro, 0x0⟩, ⟨F.MBX_H2M_CTRL_COUNT_M1, .rw, 0x0⟩]⟩,
   ⟨"MBX_H2M_LOCK", 0x44, [(64, 0x1000)], [⟨F.MBX_H2M_LOCK_HELD, .ro, 0x0⟩, ⟨F.MBX_H2M_LOCK_RELEASE, .w1s, 0x0⟩, ⟨F.MBX_H2M_LOCK_TOKEN, .rw, 0x0⟩]⟩,
   ⟨"MBX_M2H_DATA", 0x80, [(64, 0x1000), (16, 0x4)], [⟨F.MBX_M2H_DATA_DATA, .rw, 0x0⟩]⟩,
   ⟨"MBX_M2H_CTRL", 0xC0, [(64, 0x1000)], [⟨F.MBX_M2H_CTRL_POST, .w1s, 0x0⟩, ⟨F.MBX_M2H_CTRL_ACK, .w1s, 0x0⟩, ⟨F.MBX_M2H_CTRL_FULL, .ro, 0x0⟩, ⟨F.MBX_M2H_CTRL_COUNT_M1, .rw, 0x0⟩]⟩,
   ⟨"MBX_M2H_LOCK", 0xC4, [(64, 0x1000)], [⟨F.MBX_M2H_LOCK_HELD, .ro, 0x0⟩, ⟨F.MBX_M2H_LOCK_RELEASE, .w1s, 0x0⟩, ⟨F.MBX_M2H_LOCK_TOKEN, .rw, 0x0⟩]⟩,
   ⟨"MBX_STATUS", 0x100, [(64, 0x1000)], [⟨F.MBX_STATUS_CROSSED, .ro, 0x0⟩, ⟨F.MBX_STATUS_IGNORED, .w1c, 0x0⟩, ⟨F.MBX_STATUS_SESSION, .ro, 0x0⟩, ⟨F.MBX_STATUS_AGE_MS, .ro, 0x0⟩]⟩,
   ⟨"MBX_DB_TO_HOST", 0x104, [(64, 0x1000)], [⟨F.MBX_DB_TO_HOST_BITS, .w1c, 0x0⟩]⟩,
   ⟨"MBX_DB_TO_HOST_MASK", 0x108, [(64, 0x1000)], [⟨F.MBX_DB_TO_HOST_MASK_MASK, .rw, 0x0⟩]⟩,
   ⟨"MBX_DB_TO_MODULE", 0x10C, [(64, 0x1000)], [⟨F.MBX_DB_TO_MODULE_BITS, .w1c, 0x0⟩]⟩,
   ⟨"MBX_DB_TO_MODULE_MASK", 0x110, [(64, 0x1000)], [⟨F.MBX_DB_TO_MODULE_MASK_MASK, .rw, 0x0⟩]⟩,
   ⟨"MBX_IGNORED_CNT", 0x114, [(64, 0x1000)], [⟨F.MBX_IGNORED_CNT_COUNT, .rc, 0x0⟩]⟩] ++
  [⟨"MBX_VEC", 0x118, [(64, 0x1000)], [⟨F.MBX_VEC_VEC, .rw, 0x0⟩]⟩,
   ⟨"MBX_DROPPED_CNT", 0x11C, [(64, 0x1000)], [⟨F.MBX_DROPPED_CNT_COUNT, .rc, 0x0⟩]⟩]

/-- The register table of one window of R30 or R35. -/
def window08Regs : List RegDesc :=
  [⟨"PCI_LINK", 0x0, [], [⟨F.PCI_LINK_UP, .ro, 0x0⟩, ⟨F.PCI_LINK_FLIT, .ro, 0x0⟩, ⟨F.PCI_LINK_SPEED, .ro, 0x0⟩, ⟨F.PCI_LINK_WIDTH, .ro, 0x0⟩]⟩,
   ⟨"PCI_EVENT", 0x4, [], [⟨F.PCI_EVENT_HALT, .w1c, 0x0⟩, ⟨F.PCI_EVENT_ALERT, .w1c, 0x0⟩, ⟨F.PCI_EVENT_LEASE, .w1c, 0x0⟩, ⟨F.PCI_EVENT_HEALTH, .w1c, 0x0⟩]⟩,
   ⟨"PCI_HOSTERR", 0x8, [], [⟨F.PCI_HOSTERR_VALID, .w1c, 0x0⟩, ⟨F.PCI_HOSTERR_WRITE, .ro, 0x0⟩, ⟨F.PCI_HOSTERR_BAR, .ro, 0x0⟩, ⟨F.PCI_HOSTERR_OFFSET, .ro, 0x0⟩]⟩,
   ⟨"PCI_HOSTERR_CODE", 0xC, [], [⟨F.PCI_HOSTERR_CODE_CODE, .ro, 0x0⟩]⟩,
   ⟨"PCI_PEER_LO", 0x100, [(8, 0x8)], [⟨F.PCI_PEER_LO_EN, .rw, 0x0⟩, ⟨F.PCI_PEER_LO_WERR, .w1c, 0x0⟩, ⟨F.PCI_PEER_LO_BASE, .rw, 0x0⟩]⟩,
   ⟨"PCI_PEER_HI", 0x104, [(8, 0x8)], [⟨F.PCI_PEER_HI_RID, .rw, 0x0⟩]⟩]

/-- The register table of one window of R30 or R35. -/
def window03Regs : List RegDesc :=
  [⟨"PWR_STATUS", 0x0, [], [⟨F.PWR_STATUS_STAGE, .ro, 0x0⟩, ⟨F.PWR_STATUS_VIN_OK, .ro, 0x1⟩, ⟨F.PWR_STATUS_WARN, .ro, 0x0⟩, ⟨F.PWR_STATUS_REFCLK_OK, .ro, 0x0⟩, ⟨F.PWR_STATUS_TRIP, .ro, 0x0⟩, ⟨F.PWR_STATUS_WERR, .w1c, 0x0⟩, ⟨F.PWR_STATUS_BRAKE, .ro, 0x0⟩]⟩,
   ⟨"PWR_VIN_WARN", 0x4, [], [⟨F.PWR_VIN_WARN_MV, .rw, 0x15E0⟩]⟩,
   ⟨"PWR_VCORE", 0x10, [(5, 0x4)], [⟨F.PWR_VCORE_TARGET, .rw, 0x2EE⟩, ⟨F.PWR_VCORE_NOW, .ro, 0x2EE⟩]⟩,
   ⟨"PWR_CREDIT", 0x30, [(4, 0x4)], [⟨F.PWR_CREDIT_BRAKE, .ro, 0x0⟩, ⟨F.PWR_CREDIT_THERMAL, .ro, 0x0⟩, ⟨F.PWR_CREDIT_RAIL, .ro, 0x0⟩, ⟨F.PWR_CREDIT_INPUT, .ro, 0x0⟩, ⟨F.PWR_CREDIT_VINWARN, .ro, 0x0⟩, ⟨F.PWR_CREDIT_REFILL, .rw, 0x03E8⟩]⟩,
   ⟨"PWR_CREDIT_MW", 0x40, [(4, 0x4)], [⟨F.PWR_CREDIT_MW_MW, .ro, 0x0⟩]⟩,
   ⟨"PWR_HEADROOM", 0x50, [], [⟨F.PWR_HEADROOM_VALID, .rw, 0x0⟩, ⟨F.PWR_HEADROOM_W, .rw, 0x0⟩]⟩]

/-- The register table of one window of R30 or R35. -/
def dmaqRegs : List RegDesc :=
  [⟨"DMAQ_BASE_LO", 0x0, [(16, 0x10000), (64, 0x400)], [⟨F.DMAQ_BASE_LO_ADDR, .rw, 0x0⟩]⟩,
   ⟨"DMAQ_BASE_HI", 0x4, [(16, 0x10000), (64, 0x400)], [⟨F.DMAQ_BASE_HI_ADDR, .rw, 0x0⟩]⟩,
   ⟨"DMAQ_CFG", 0x8, [(16, 0x10000), (64, 0x400)], [⟨F.DMAQ_CFG_EN, .rw, 0x0⟩, ⟨F.DMAQ_CFG_DIR, .rw, 0x0⟩, ⟨F.DMAQ_CFG_CLIENT, .rw, 0x0⟩, ⟨F.DMAQ_CFG_RING_LOG2, .rw, 0x0⟩, ⟨F.DMAQ_CFG_VEC, .rw, 0x0⟩]⟩,
   ⟨"DMAQ_TAIL", 0xC, [(16, 0x10000), (64, 0x400)], [⟨F.DMAQ_TAIL_TAIL, .rw, 0x0⟩]⟩,
   ⟨"DMAQ_HEAD", 0x10, [(16, 0x10000), (64, 0x400)], [⟨F.DMAQ_HEAD_HEAD, .ro, 0x0⟩]⟩,
   ⟨"DMAQ_STATUS", 0x14, [(16, 0x10000), (64, 0x400)], [⟨F.DMAQ_STATUS_STATE, .ro, 0x0⟩, ⟨F.DMAQ_STATUS_WERR, .w1c, 0x0⟩, ⟨F.DMAQ_STATUS_UNBOUND, .ro, 0x0⟩]⟩,
   ⟨"DMAQ_CODE", 0x18, [(16, 0x10000), (64, 0x400)], [⟨F.DMAQ_CODE_CODE, .ro, 0x0⟩]⟩]

/-- The register table of BAR0 window `n` (R35); a reserved window has none. -/
def windowRegs (n : Nat) : List RegDesc :=
  if n = 0x0 then window00Regs
  else if n = 0x1 then window01Regs
  else if n = 0x3 then window03Regs
  else if n = 0x4 then window04Regs
  else if n = 0x6 then window06Regs
  else if n = 0x7 then window07Regs
  else if n = 0x8 then window08Regs
  else if n = 0x9 then window09Regs
  else if n = 0xA then window0ARegs
  else if n = 0xB then window0BRegs
  else if n = 0xC then window0CRegs
  else if n = 0xD then window0DRegs
  else if n = 0xE then window0ERegs
  else if 0x10 ≤ n ∧ n ≤ 0x13 then window10Regs
  else if 0x14 ≤ n ∧ n ≤ 0x17 then window14Regs
  else if n = 0x18 then window18Regs
  else if 0x20 ≤ n ∧ n ≤ 0x23 then window20Regs
  else if 0x24 ≤ n ∧ n ≤ 0x27 then window24Regs
  else if 0x28 ≤ n ∧ n ≤ 0x2B then window28Regs
  else if 0x2C ≤ n ∧ n ≤ 0x2F then window2CRegs
  else []

end Sys2Proof.Machine
end

