-- ==== Sys2Proof/Machine/Sparse.lean ====
section
/-! DEFINITION. Sparse maps over a default: reading, writing and the canonical form. `d` gives what an unlisted key reads
as. Writing the value an unlisted key reads as removes the entry, so equal maps are equal lists. -/

namespace Sys2Proof.Machine

/-- The value at key `k`: the listed one, or `d k`. -/
def sget {α : Type} (d : Nat → α) (m : SMap α) (k : Nat) : α :=
  match m with
  | [] => d k
  | (j, v) :: rest => if j = k then v else sget d rest k

/-- An entry put before the first larger key. -/
def sinsert {α : Type} (m : SMap α) (k : Nat) (v : α) : SMap α :=
  match m with
  | [] => [(k, v)]
  | (j, w) :: rest => if k < j then (k, v) :: (j, w) :: rest else (j, w) :: sinsert rest k v

/-- The map with `k` set to `v`, in canonical form when `m` is. -/
def sset {α : Type} [DecidableEq α] (d : Nat → α) (m : SMap α) (k : Nat) (v : α) : SMap α :=
  let rest := m.filter fun e => decide (e.1 ≠ k)
  if v = d k then rest else sinsert rest k v

/-- Every key of the map is at least `lo`, keys rise strictly, and no entry holds the default. -/
def swfFrom {α : Type} [DecidableEq α] (d : Nat → α) (lo : Nat) (m : SMap α) : Bool :=
  match m with
  | [] => true
  | (j, v) :: rest => decide (lo ≤ j) && decide (v ≠ d j) && swfFrom d (j + 1) rest

/-- The canonical form of a sparse map. -/
def swf {α : Type} [DecidableEq α] (d : Nat → α) (m : SMap α) : Bool := swfFrom d 0 m

/-- The map with every key in `[lo, hi)` removed, that is, reading its default. -/
def sclear {α : Type} (m : SMap α) (lo hi : Nat) : SMap α :=
  m.filter fun kv => decide (kv.1 < lo) || decide (hi ≤ kv.1)

/-- The listed entries with keys in `[lo, hi)`. -/
def sslice {α : Type} (m : SMap α) (lo hi : Nat) : SMap α :=
  m.filter fun kv => decide (lo ≤ kv.1) && decide (kv.1 < hi)

/-- `n` consecutive bytes from `a`, as a little-endian number (R9). -/
def sreadLE (d : Nat → Byte) (m : SMap Byte) (a n : Nat) : Nat :=
  match n with
  | 0 => 0
  | n + 1 => (sget d m a).toNat + 256 * sreadLE d m (a + 1) n

/-- `v` stored little-endian in `n` consecutive bytes from `a` (R9). -/
def swriteLE (d : Nat → Byte) (m : SMap Byte) (a n v : Nat) : SMap Byte :=
  match n with
  | 0 => m
  | n + 1 => swriteLE d (sset d m a (BitVec.ofNat 8 v)) (a + 1) n (v / 256)

/-- A list of bytes stored from `a` on. -/
def swriteBytes (d : Nat → Byte) (m : SMap Byte) (a : Nat) (bs : List Byte) : SMap Byte :=
  match bs with
  | [] => m
  | b :: rest => swriteBytes d (sset d m a b) (a + 1) rest

/-- `n` consecutive bytes from `a`. -/
def sreadBytes (d : Nat → Byte) (m : SMap Byte) (a n : Nat) : List Byte :=
  match n with
  | 0 => []
  | n + 1 => sget d m a :: sreadBytes d m (a + 1) n

end Sys2Proof.Machine
end

