-- ==== Sys2Proof/Machine/State.lean ====
section
/-! DEFINITION. The state of the block: plain data, everything the chapters of spec/ give the machine, and the queue of
commands waiting. Registers live in `State.regs` under their NoC addresses and object-dictionary entries in `State.od`,
each as a sparse map over its reset value, so an unlisted register holds its Reset column (R7). -/

namespace Sys2Proof.Machine

/-- Why the block stops with a fault. -/
inductive Fault where
  /-- A command names a unit that the module does not have (a bridge of a die that owns fewer). Raised by the meanings of
  commands with such an operand. Safe: the hardware has no such unit to act. -/
  | noSuchUnit
deriving DecidableEq, Repr

/-- Why the block refuses a command. -/
inductive Refusal where
  /-- The command has no meaning in the model yet. Raised by the dispatch. Safe: nothing is claimed. -/
  | notModelled (mnemonic : String)
deriving DecidableEq, Repr

/-! ## The cluster (02, 03, 04, 05) -/

/-- A write of one state bit in the ecycle in progress (R54, R55): the value, and the stitch and BP that wrote it. -/
structure StateWrite where
  value  : Bool
  stitch : Nat
  bp     : Nat
deriving DecidableEq, Repr

/-- The four flags of R59. -/
structure Flags where
  z : Bool := false
  n : Bool := false
  c : Bool := false
  v : Bool := false
deriving DecidableEq, Repr

/-- The unit that produces a pending word-file write (R63). -/
inductive WbPort where
  | word | ldsw | pocket | hbm
deriving DecidableEq, Repr

/-- A result issued and not yet complete (R60 to R64): where it goes, and its value once known. -/
structure PendingWrite where
  key   : IssueKey
  port  : WbPort
  /-- The destination entry; none under NWB and for CMP. -/
  entry : Option Nat
  value : Word
  wr    : Bool
  zn    : Option (Bool × Bool)
  cv    : Option (Bool × Bool)
  /-- The fixed distance in stitches at which the result completes (R60, R63, R142); an HBM return has none. -/
  lat   : Nat := 1
  /-- The response of an HBM read has arrived, and its write waits for W1 (R63). -/
  ready : Bool := false
deriving DecidableEq, Repr

/-- A fault met at a place, for the recurrence tests of R84, R146 and R373. Kinds: 0 spare check, 1 tag fault, 2 residue,
3 design-memory error, 4 state memory or word file, 5 bridge code error, 6 data memory or Pocket, 7 Seam
protocol breach, with the bundle's channel for the stitch. -/
structure FaultAt where
  kind   : Nat
  ecycle : Nat
  stitch : Nat
  /-- The logical BP of a design-memory request; 0 for the others. -/
  bp     : Nat := 0
deriving DecidableEq, Repr

/-- An entry of an input-slot queue (R109): the value and its stitch tag (R80). -/
structure QueueEntry where
  value  : Bool
  stitch : Nat
  parity : Nat
deriving DecidableEq, Repr

/-- A cluster (R37): the values that the NoC does not address, the sequencer's position and the interlocks' state.
Instruction memory, state memory's visible plane, data memory and the word file lie in `State.mem`. -/
@[ext] structure Cluster where
  /-- The stitch the sequencer stands at, 0 to L - 1. -/
  stitch     : Nat := 0
  ecycle     : Nat := 0
  /-- Stitch 0 of `ecycle` has been admitted by the sweep gate. -/
  inSweep    : Bool := false
  win0       : Word := 0
  win1       : Word := 0
  win2       : Word := 0
  win3       : Word := 0
  /-- Result bits of the stitch in progress (R79 order 4). -/
  cur        : Word := 0
  /-- Logical BPs that have run the stitch in progress. -/
  ran        : Word := 0
  dpage      : SMap Nat := []
  dwptr      : SMap Nat := []
  swptr      : SMap Nat := []
  /-- The written plane and written map of R54. -/
  written    : SMap (Option StateWrite) := []
  wr         : Word := 0
  flags      : Flags := {}
  wrKey      : Option IssueKey := none
  znKey      : Option IssueKey := none
  cvKey      : Option IssueKey := none
  /-- The key of the last write kept in each word-file entry (R64). -/
  wfKey      : SMap (Option IssueKey) := []
  pend       : List PendingWrite := []
  /-- Input-slot queues (R109), oldest entry first. -/
  queues     : SMap (List QueueEntry) := []
  /-- Values removed from each slot in this ecycle (R110). -/
  popped     : SMap Nat := []
  /-- Partners and the last completed count each reported (R87, R88). -/
  reports    : SMap (Option Nat) := []
  /-- The logical BP the spare runs for, as latched at the last sweep boundary (R74). -/
  spareFor   : Option Nat := none
  /-- The spare BP is marked failed (R373). -/
  spareBad   : Bool := false
  /-- Held under REPAIR (R81). -/
  hold       : Bool := false
  /-- Instruction slots awaiting a reload: physical BP times 8,192 plus slot (R73). -/
  reloads    : List Nat := []
  /-- Schedule memory, SWITCH or the cluster block awaits a reload (R369). -/
  reloadWs   : Bool := false
  /-- The causes the stitch in progress waits on (R95); empty while it waits on none. -/
  waits      : List Nat := []
  waited     : Bool := false
  credited   : Bool := false
  /-- The last stitch's groups are not all placed: step 6 of R79 waits on a route (R124). -/
  sendWait   : Bool := false
  /-- A BRK stitch of this ecycle requested a break (R69). -/
  breakReq   : Bool := false
  retired    : Bool := false
  noProgress : Bool := false
  /-- Faults met, newest first. -/
  faultAt    : List FaultAt := []
  /-- Word-file write port W1 has written since the stitch began (R37, R63). -/
  w1Used     : Bool := false
  /-- The cause of the stitch in progress that released last (R95). -/
  released   : Option Nat := none
  /-- The stitch in progress has waited while its partition was held for a rollback (R95). -/
  repairWait : Bool := false
deriving DecidableEq, Repr

/-- A group on a track stage (R108): the value (none: report only), the producer's stitch and ecycle, and its completed
count. -/
structure Group where
  value  : Option Bool
  stitch : Nat
  ecycle : Nat
  count  : Nat
  /-- The group has crossed a bridge: `count` holds the low 8 bits of the count (R118, R119). -/
  short  : Bool := false
deriving DecidableEq, Repr

/-- A track stage (R85): the group it holds and the SWITCH entries that have already taken it (R113). -/
structure Stage where
  group : Group
  taken : List Nat
deriving DecidableEq, Repr

/-! ## The design-memory engine of a die (05) -/

/-- A design-memory operation in flight (R135, R144). -/
structure DmemOp where
  cluster : Nat
  key     : IssueKey
  desc    : Nat
  /-- The NoC address of the element's first byte when it was issued. -/
  addr    : Nat
  /-- The tag of its network request at the cluster's block node; none while the node has no tag free (R307). -/
  tag     : Option Nat
  elem    : Nat
  write   : Bool
  data    : Word
  mask    : Word
deriving DecidableEq, Repr

/-- What a Weave die holds beside its clusters: descriptor table and staging words (R128, R151), operations in flight,
the credit bucket and its request queue (R180), the fill in progress (R148). -/
@[ext] structure Die where
  descs   : SMap (BitVec 128) := []
  /-- Entries whose ECC is uncorrectable (R134). -/
  badDesc : List Nat := []
  stage0  : Word := 0
  stage1  : Word := 0
  stage2  : Word := 0
  ops     : List DmemOp := []
  /-- The fill in progress (R148): the first bank, the number of banks and the value. -/
  fill    : Option (Nat × Nat × Nat) := none
  bucket  : Nat := 16384
  /-- Credit requests in arrival order: cluster number and cost. -/
  credits : List (Nat × Nat) := []
  /-- The lowest completed count at the last BP_RATE_METER window (R98). -/
  meter   : Option Nat := none
  /-- Credits spent in the present 1 ms window (R514). -/
  spent   : Nat := 0
deriving DecidableEq, Repr


/-! ## Seam (07) -/

/-- A frame's 80 words (R197). -/
abbrev SeamFrame := List (BitVec 64)

/-- A link entry of SEAMMAP (R192). -/
structure SeamLink where
  link       : Nat
  peerModule : Nat
  peerLink   : Nat
deriving DecidableEq, Repr

/-- An outbound record of SEAMMAP (R192): the channel, its link, the inbound channel at the peer, values per ecycle. -/
structure SeamOut where
  channel : Nat
  link    : Nat
  peer    : Nat
  count   : Nat
deriving DecidableEq, Repr

/-- An inbound record of SEAMMAP (R192), with its list of producer stitches. -/
structure SeamIn where
  channel  : Nat
  link     : Nat
  stitches : List Nat
deriving DecidableEq, Repr

/-- A loaded SEAMMAP (R192). -/
structure SeamMap where
  emulation : Nat
  module    : Nat
  diameter  : Nat
  links     : List SeamLink
  outs      : List SeamOut
  ins       : List SeamIn
deriving DecidableEq, Repr

/-- Values sent together (R198): the inbound channel at the receiver, their ecycle, the index of the first. -/
structure Bundle where
  channel : Nat
  ecycle  : Nat
  index   : Nat
  values  : List Bool
deriving DecidableEq, Repr

/-- A value in a channel's ring (R195, R200). -/
structure RingValue where
  ecycle : Nat
  /-- The producer stitch its tag carries. -/
  stitch : Nat
  value  : Bool
deriving DecidableEq, Repr

/-- What a Seam port holds beside its registers. -/
structure SeamPort where
  /-- Lanes that carry frames in the transmit direction, in order, and the lane the next frame takes among them. -/
  working    : List Nat := []
  standby    : Option Nat := none
  laneNext   : Nat := 0
  /-- SEQ of the next DATA or CTRL frame, and the frames sent and not acknowledged (R202). -/
  txSeq      : Nat := 0
  replay     : List (Nat × SeamFrame) := []
  /-- Frames to be sent again, in order. -/
  resend     : List (Nat × SeamFrame) := []
  /-- The peer's last CREDIT, and the DATA and CTRL frames sent since link-up (R201). -/
  credit     : Nat := 64
  sentCount  : Nat := 0
  /-- The next SEQ expected, frames held for order, and frames taken but not unpacked (R201, R202, R206). -/
  rxNext     : Nat := 0
  rxHeld     : List (Nat × SeamFrame) := []
  rxWait     : List SeamFrame := []
  /-- Frames unpacked since link-up. -/
  unpacked   : Nat := 0
  /-- A NAK to put into the next frame, and a NAK whose replay has not begun. -/
  nak        : Bool := false
  nakWait    : Bool := false
  /-- Lanes whose frames the receive side takes part in deskew with: those that the peer marks as working (R203). -/
  rxLanes    : List Nat := []
  /-- The lanes this end asks the peer to leave, the oldest request first: LREQ shows it. -/
  lreqs      : List Nat := []
  /-- The lane the peer asks this end to leave, and the request in the last header taken: one that stands in header after header
  is one request (R203). -/
  peerLreq   : Option Nat := none
  lreqSeen   : Option Nat := none
  /-- Frames sent on each lane since its last IDLE (R188). -/
  sinceIdle  : SMap Nat := []
  /-- Training failures in a row, by lane. -/
  fails      : SMap Nat := []
  /-- A retrain is in progress: SEQ and the replay buffer survive it (R204). -/
  retraining : Bool := false
  /-- Violations in the present 1 ms window, and the times of the port retrains they caused (R212). -/
  viol       : Nat := 0
  violTrains : List Nat := []
  /-- SEQ of a frame discarded as a breach of the protocol, whose replay is to come (R212). -/
  badSeq     : Option Nat := none
  /-- A replay broke the protocol again: a cause of a rollback; and the points of all such breaches, newest first (R212, R391). -/
  breach     : Bool := false
  breaches   : List FaultAt := []
  /-- Words 6 and 7 of the peer's last MAPCHK, and a MAPCHK sent from this end's own event that no message of the peer has followed
  (R210). -/
  peerMap    : Option (Nat × Nat) := none
  mapAwait   : Bool := false
  /-- The highest DONE received (R205). -/
  done       : Nat := 0
  /-- Control messages waiting: words 5 onward (R209). -/
  ctrl       : List (List Nat) := []
  /-- RESUME has been sent and its RESUME_END has not come; and the resume as a whole is not over (R206, R208). -/
  resumeWait : Bool := false
  resuming   : Bool := false
  /-- The retention log, and the bundles of it to be sent again (R208). -/
  retained   : List Bundle := []
  resendB    : List Bundle := []
  /-- Codewords put on the lanes, oldest first: the lane word (R196) and the frame. -/
  sent       : List (BitVec 20 × SeamFrame) := []
deriving DecidableEq, Repr


/-! ## The Cuff (08) -/

/-- What a fence-point slot holds beside its registers and its frames. -/
structure FenceSlot where
  /-- Input and output FIFO entries, oldest first (R235). -/
  inFifo   : List Nat := []
  outFifo  : List Nat := []
  /-- The last entry bound, and the last entry shown at the output (R235, R238). -/
  last     : Option Nat := none
  shown    : Nat := 0
  /-- The next ecycle to bind, the next to move, and the ecycles ever moved (R238, R242). -/
  bound    : Nat := 0
  moved    : Nat := 0
  moveMark : Nat := 0
  /-- Allowance values that have arrived, by ecycle (R238). -/
  allow    : SMap (Option Nat) := []
  /-- Beats of the message to the host under assembly, and that it is being discarded (R243). -/
  txBeats  : List Nat := []
  txBad    : Bool := false
  /-- The kinds of discard since OVF was last clear: bit 0 a capture dropped, bit 1 an entry superseded, bit 2 a message (R236,
  R243). -/
  ovfKinds : Nat := 0
deriving DecidableEq, Repr

/-- One binding in a partition's input log (R239). -/
structure InRecord where
  slot    : Nat
  ecycle  : Nat
  count   : Nat
  entries : List Nat
deriving DecidableEq, Repr

/-! ## Hem (12) -/

/-- A Hem packet: its words (R323, R324). -/
abbrev HemPacket := List Word

/-- A block of the 64B/66B code: its sync header, and its scrambled payload, bit 0 the first sent (R334). -/
structure HemBlock where
  sync    : BitVec 2
  payload : BitVec 64
deriving DecidableEq, Repr

/-- The Hem port: what it is sending and what its pins have carried (R333, R334). -/
structure HemPort where
  /-- The rest of the packet that is being sent. -/
  part       : HemPacket := []
  /-- Words sent since the last ALIGN, in parallel mode; none before the first ALIGN after the port starts. -/
  sinceAlign : Option Nat := none
  /-- Blocks sent since the port started, in serial mode, and each lane's scrambler: the last 58 bits sent. -/
  blocks     : Nat := 0
  scramblers : SMap (Option (BitVec 58)) := []
  /-- The levels of HEM_D and HEM_CLK, and the lanes of HEM_SL out of electrical idle. -/
  d          : BitVec 16 := 0
  clk        : Bool := false
  lit        : Nat := 0
  /-- Half-words driven on HEM_D, oldest first, with the edge of HEM_CLK that takes each: true the rising one. -/
  halves     : List (Bool × BitVec 16) := []
  /-- Blocks sent on each lane, oldest first. -/
  lanes      : SMap (List HemBlock) := []
deriving DecidableEq, Repr

/-- What Hem holds beside its registers. -/
structure Hem where
  /-- Probe buffers, by watch (R322). -/
  probes    : SMap (List HemPacket) := []
  /-- The merge FIFO (R322). -/
  fifo      : List HemPacket := []
  /-- Packets discarded since the last OVERFLOW packet (R331). -/
  lost      : Nat := 0
  /-- Watches that need a SYNC before their next packet (R326), and whether its REPLAY bit is set (R332). -/
  needSync  : SMap (Option Bool) := []
  /-- The ecycle of each watch's last packet, and of its last SYNC. -/
  lastEc    : SMap Nat := []
  lastSync  : SMap Nat := []
  /-- The window's first ecycle, and the first ecycle not traced with the event that ends it (R329). -/
  from_     : Option Nat := none
  until_    : Option (Nat × Nat) := none
  /-- The ecycle of each watch's last packet that has left the merge FIFO, extended as R326 gives. -/
  outEc     : SMap Nat := []
  /-- Block domains that have reached STATE 3 and have not returned to STATE 0 (R330). -/
  asleep    : Nat := 0
  port      : HemPort := {}
  /-- Hem's buffer base in the owner's carve: set when the buffer is placed (R335). -/
  bufBase   : Nat := 0
deriving DecidableEq, Repr


/-! ## The acquisition engine (13) -/

/-- A timer of an acquisition unit (R351). -/
structure AcqTimer where
  run     : Bool := false
  count   : Nat := 0
  /-- Time mode: the ecycle at which its expiry takes effect (R346). -/
  expired : Option Nat := none
deriving DecidableEq, Repr

/-- A trigger taken by a unit (R358): its ecycle, CAUSE and TRIG_STATE, and the TIME80 at which it was evaluated. -/
structure AcqTrig where
  ecycle : Nat
  cause  : Nat
  state  : Nat
  time   : Nat
deriving DecidableEq, Repr

/-- What an acquisition unit holds beside its registers and its unit RAM. -/
structure AcqUnit where
  /-- Wall-clock happenings not yet in effect: the ecycle each takes effect at (R346). -/
  armAt      : Option Nat := none
  stopAt     : Option Nat := none
  forceAt    : Option Nat := none
  /-- The trigger ecycle of the group's FIRE frame (R364). -/
  groupAt    : Option Nat := none
  cnt        : SMap Nat := []
  timers     : SMap AcqTimer := []
  /-- Ecycles spent in ARMED without a trigger since the arm or re-arm (R352). -/
  armedFor   : Nat := 0
  /-- The open segment, the samples stored in it, and the ecycles of those the ring still holds, newest first. -/
  segment    : Nat := 0
  stored     : Nat := 0
  ecs        : List Nat := []
  trig       : Option AcqTrig := none
  /-- A wall-clock happening decided the segment or the interval (R346). -/
  wall       : Bool := false
  /-- Triggers missed since the last header or MARK record. -/
  missed     : Nat := 0
  /-- Toggle counts by capture bit, the ecycles counted, and the interval's first and last ecycle and start (R360). -/
  toggles    : SMap Nat := []
  counted    : Nat := 0
  firstEc    : Option Nat := none
  lastEc     : Nat := 0
  startTime  : Nat := 0
  /-- Offset of the next toggle record in the buffer. -/
  recordAt   : Nat := 0
  /-- Stream records dropped: the first ecycle lost and their number (R359). -/
  gap        : Option (Nat × Nat) := none
deriving DecidableEq, Repr

/-- A trigger-bus frame waiting or sent (R363): pair, KIND, ECYC, GROUP, and the unit that queued it. -/
structure BusFrame where
  pair  : Nat
  kind  : Nat
  ecyc  : Nat
  group : Nat
  unit  : Nat
deriving DecidableEq, Repr

/-- A PROBE record of the loaded pattern (R339), with the quota's first probe number added. -/
structure ProbeRec where
  probe   : Nat
  channel : Nat
  index   : Nat
deriving DecidableEq, Repr

/-! ## Host queues (18) -/

/-- Bytes on their way to or from the host through a DMA queue, and whether they end a message (R485). -/
structure HostMsg where
  bytes : List Byte
  eom   : Bool
deriving DecidableEq, Repr

/-! ## The log (15) -/

/-- A log record (R405), with DETAIL as PLACE and its further bytes (R445). -/
structure LogRecord where
  seq       : Nat
  time      : Nat
  ecycle    : Nat
  source    : Nat
  severity  : Nat
  partition : Nat
  code      : Nat
  place     : Nat
  detail    : List Nat
deriving DecidableEq, Repr


/-! ## Collar (15) -/

/-- What a controller holds beside COL_STATE_n. -/
structure Controller where
  /-- REQUEST and READY of its COL_SELF. -/
  request : Bool := false
  ready   : Bool := false
  /-- VERSION of the running image (R412). -/
  version : Nat := 0
  /-- When its lockstep failed, in REFCLK periods, newest first (R395). -/
  fails   : List Nat := []
  /-- Its third failure within 24 hours: FAILED until a module restart. -/
  stuck   : Bool := false
  /-- When its refusals began to share one record, that record's SEQ, and their count (R399). -/
  refused : Option (Nat × Nat × Nat) := none
deriving DecidableEq, Repr

/-- One copy of the configuration store (R411): its generation and the values kept, by entry key. -/
structure StoreCopy where
  gen     : Nat := 0
  entries : SMap Nat := []
deriving DecidableEq, Repr

/-- Where a firmware update stands (R414): its image checked; waiting for READY of the controller reset onto the new slot;
the holder itself reset onto it (FW_FORCE_SINGLE); the trial of the new holder. -/
inductive FwPhase where
  | none
  | checked
  | booting (n : Nat)
  | single (n : Nat)
  | trial (n : Nat)
deriving DecidableEq, Repr

/-- Collar's own state. -/
structure Collar where
  ctl       : SMap Controller := []
  /-- When the lease was last granted or renewed, in REFCLK periods (R396). -/
  leaseAt   : Nat := 0
  /-- Image slots: byte b of slot k at k × 0x100_0000 + b; an erased byte is 0xFF (R407). -/
  flash     : SMap Byte := []
  /-- SIGNATURE of the image in slot 0 or 1 verifies (R412). -/
  sigA      : Bool := false
  sigB      : Bool := false
  /-- The boot record (R412). -/
  committed : Nat := 0
  trial     : Option Nat := none
  fw        : FwPhase := .none
  /-- The recovery chunk being programmed: offset in slot A and length (R415); and the parts programmed. -/
  chunk     : Option (Nat × Nat) := none
  chunks    : List (Nat × Nat) := []
  /-- Segments of FW_IMAGE written so far: offset and length (R414). -/
  fwParts   : List (Nat × Nat) := []
  /-- The two copies of the configuration store. -/
  storeA    : StoreCopy := {}
  storeB    : StoreCopy := {}
deriving DecidableEq, Repr

/-- The log in flash (R407, R409). Sectors are numbered area × 1,024 + sector. -/
structure LogFlash where
  /-- Records retained, oldest first, each with its sector. -/
  records : List (Nat × LogRecord) := []
  area    : Nat := 0
  head    : Nat := 0
  /-- Records in the head sector, its header record among them. -/
  used    : Nat := 0
  erases  : SMap Nat := []
  retired : List Nat := []
deriving DecidableEq, Repr


/-! ## The object dictionary (16) -/

/-- A clamp report (R430). -/
structure ClampReport where
  index   : Nat
  sub     : Nat
  reason  : Nat
  part    : Nat
  origin  : Nat
  written : Nat
  applied : Nat
  time    : Nat
deriving DecidableEq, Repr

/-! ## Sessions of PAP and of the secure mailbox channels (17, 18) -/

/-- A subscription of a session (R459). -/
structure Subscription where
  onChange : Bool
  period   : Nat
  entries  : List Nat
  count    : Nat
  /-- The values of the last NOTIFY, or of the SUBSCRIBE. -/
  last     : List Byte
deriving DecidableEq, Repr

/-- A response kept (R458): the SEQ of its request, its TYPE, the SEQ under which it was sent, and its body in plaintext. -/
structure KeptResponse where
  req  : Nat
  type : Nat
  own  : Nat
  body : List Byte
deriving DecidableEq, Repr

/-- An open session (R454, R455, R458, R502). -/
structure Session where
  number : Nat
  /-- The address and UDP port that the last verified datagram came from. -/
  addr   : Nat := 0
  /-- The partition of a ROLE 2 session; none on a module-owner path. -/
  part   : Option Nat
  /-- The highest SEQ verified, and the module's next SEQ. -/
  high   : Nat := 0
  next   : Nat := 1
  /-- The session key, in the session-key register of the slot (R451), as a big-endian number. -/
  key    : BitVec 256 := 0
  /-- Responses kept, newest first (R458). -/
  stored : List KeptResponse := []
  subs   : SMap (Option Subscription) := []
deriving DecidableEq, Repr

/-- A challenge sent and not yet answered (R454). -/
structure Challenge where
  number : Nat
  addr   : Nat
  role   : Nat
  part   : Nat
  nonce  : Nat
  /-- The private half of the module's ephemeral key. -/
  key    : Nat
deriving DecidableEq, Repr

/-- A PAP message sent by the module (R450): where to, and its fields. -/
structure PapSent where
  dest    : Nat
  type    : Nat
  session : Nat
  seq     : Nat
  ref     : Nat
  body    : List Byte
  /-- The datagram as sent, sealed in a session (R451). -/
  wire    : List Byte
deriving DecidableEq, Repr

/-- An entry of the transmit time-stamp queue (R471). -/
structure TxStamp where
  port   : Nat
  domain : Nat
  seqId  : Nat
  a      : Nat
  b      : Nat
deriving DecidableEq, Repr

/-! ## The Ethernet ports and the time unit (17) -/

/-- An Ethernet frame that a port has sent (R447, R448, R471). -/
inductive EthMsg where
  | arp (addr : Nat) (gratuitous : Bool)
  | advert (addr : Nat) (unsolicited : Bool)
  | echo4 (data : List Byte)
  | echo6 (data : List Byte)
  | delayReq (domain seqId : Nat)
deriving DecidableEq, Repr

/-- A frame sent: the port, the VLAN it is tagged with (0 untagged), and the message. -/
structure EthSent where
  port : Nat
  vlan : Nat
  msg  : EthMsg
deriving DecidableEq, Repr

/-- A port: frames received and waiting, oldest first, and the address that DHCPv4 has obtained (R447). -/
structure EthPort where
  queue    : List EthFrame := []
  dhcpAddr : Nat := 0
  dhcpGw   : Nat := 0
  dhcpLen  : Nat := 0
deriving DecidableEq, Repr

/-- A qualified master of a domain: its port identity, its order in the best-master algorithm, and its UTC offset. -/
structure PtpKnown where
  source : Nat
  order  : Nat
  utc    : Nat
deriving DecidableEq, Repr

/-- A Delay_Req under way: its sequenceId, its transmit stamp once read from the queue, and the response. Stamps are in
2^-16 ns. -/
structure PtpDelayReq where
  seqId : Nat
  sent  : Option Int := none
  resp  : Option (Int × Int) := none
deriving DecidableEq, Repr

/-- The tracking of one PTP domain (R465, R466, R471). -/
structure PtpTrack where
  masters : List PtpKnown := []
  /-- A two-step Sync that waits for its Follow_Up: sequenceId, receive stamp, correction. -/
  sync    : Option (Nat × Int × Int) := none
  /-- The last Sync measured: origin stamp, receive stamp, corrections. -/
  last    : Option (Int × Int × Int) := none
  /-- meanPathDelay, in 2^-16 ns. -/
  delay   : Int := 0
  req     : Option PtpDelayReq := none
  /-- Consecutive Sync messages with an offset below 100 ns, up to 16. -/
  good    : Nat := 0
deriving DecidableEq, Repr

/-- The time unit (R463 to R474). -/
structure TimeUnit where
  /-- Slew still to apply to each counter, in 2^-28 ns. -/
  slewA  : Int := 0
  slewB  : Int := 0
  trackA : PtpTrack := {}
  trackB : PtpTrack := {}
  /-- Counter A has locked since restart (R464). -/
  lockedOnce : Bool := false
  /-- Counter B steps at its next lock (R468). -/
  stepB  : Bool := false
  /-- Consecutive split samples above the limit, and below half of it, up to 8 (R469). -/
  surplus   : Nat := 0
  under  : Nat := 0
  txq    : List TxStamp := []
deriving DecidableEq, Repr

/-! ## The host interface (18) -/

/-- A descriptor whose bytes have moved and whose write-back is still to come (R487): its place in the ring, its CODE,
the STATUS word's EOM and ACTUAL, IRQ, and whether the queue goes to error. -/
structure DmaDone where
  index  : Nat
  code   : Nat
  eom    : Bool
  actual : Nat
  irq    : Bool
  error  : Bool
deriving DecidableEq, Repr

/-- What a DMA queue holds beside its registers. -/
structure DmaQueue where
  /-- The function through which EN was last written as 1: 0 the physical function, p + 1 virtual function p (R482). -/
  fn       : Nat := 0
  current  : Option DmaDone := none
  /-- Bytes of the message toward the module that has no EOM yet. -/
  message  : List Byte := []
  /-- The message toward the module is being discarded up to its EOM (R489). -/
  discard  : Bool := false
deriving DecidableEq, Repr

/-- What a mailbox channel holds beside its page (R498 to R502). -/
structure Mailbox where
  /-- When the post that is FULL was made, in REFCLK periods: toward the module, toward the host. -/
  h2mAt     : Option Nat := none
  m2hAt     : Option Nat := none
  /-- The request under assembly: TAG, TOTAL, bytes so far; and that fragments are discarded up to LAST. -/
  parts     : Option (Nat × Nat × List Byte) := none
  discard   : Bool := false
  /-- Replies to the last 16 TAGs, newest first: TAG, place in the message store, request bytes, reply bytes (R501). -/
  replies   : List (Nat × Nat × List Byte × List Byte) := []
  /-- Replies waiting for the direction toward the host to be free, oldest first: the words of each post left (R498). -/
  waiting   : List (List (List Word)) := []
  session   : Option Session := none
  challenge : Option Challenge := none
deriving DecidableEq, Repr


/-! ## Power and start (19) -/

/-- What the always-on domain, the regulators and Collar's power loops hold beside the PWR_ registers. -/
structure Power where
  /-- PORST_N is low; the start origin has passed; Tack has been reached (R519, R520). -/
  porstLow  : Bool := true
  started   : Bool := false
  tack      : Bool := false
  /-- The module rests in the always-on domain after an orderly shutdown or a power-off (R527, R528). -/
  resting   : Bool := false
  /-- The Weave rails and HBM supplies are on. -/
  weaveOn   : Bool := false
  /-- The start origin, in REFCLK periods. -/
  origin    : Nat := 0
  /-- The reset-cause latch (R530): RESET_CAUSE's value, 0 while it is empty. -/
  latch     : Nat := 0
  /-- REFCLK has been present since the restart, and was lost for good (R523, R524). -/
  refclkSeen : Bool := false
  refclkGone : Bool := false
  /-- Parts whose thermal trip stands: 0 to 3 Weave dies, 4 the Yoke die, 5 to 8 stacks (R515). -/
  trips     : List Nat := []
  /-- A thermal shutdown has been taken (R516). -/
  thermalDown : Bool := false
  /-- Phases lost, by rail (R390). -/
  phases    : SMap Nat := []
  /-- When WARN was set, in REFCLK periods (R528). -/
  warnAt    : Nat := 0
  /-- VIN times input current of the samples of the present 1 ms, in units of 10 µW, and their number (R513). -/
  wattSum   : Nat := 0
  wattCount : Nat := 0
  /-- The average power of the last 100 loop periods in W, newest first (R440). -/
  powers    : List Nat := []
  /-- Loop periods below 0.95 × POWER_CAP, and above the cap with every die at the floor and at 0.50 V; CAP_UNMET made. -/
  capBelow  : Nat := 0
  capAbove  : Nat := 0
  capTold   : Bool := false
  /-- Parts in slow-down, numbered as in `trips`, and the loop periods each has been cool; periods since its last step
  (R517). -/
  slow      : List Nat := []
  cool      : SMap Nat := []
  slowMs    : SMap Nat := []
  /-- Loop periods of each die below RATE_TARGET with no step up allowed, and in which the target was met (R101). -/
  rateLow   : SMap Nat := []
  rateMet   : SMap Nat := []
  /-- Dies that have had their first run since Fit (R520). -/
  ran       : List Nat := []
  /-- An orderly shutdown is in progress (R527). -/
  closing   : Bool := false
deriving DecidableEq, Repr

/-! ## Patterns and configuration streams (06, 09, 14) -/

/-- The golden copy of a loaded pattern (R245, R262, R370): the staged file, the fold factor loaded, where each footprint
cluster of the image runs, and every item as loaded, in executed numbering. -/
structure Golden where
  file  : List Byte := []
  fold  : Nat := 0
  /-- Executed sweep length. -/
  len   : Nat := 0
  /-- Physical cluster number plus 1 of each footprint cluster of the image, by its virtual or fold cluster number. -/
  place : SMap Nat := []
  /-- Slots by (physical cluster number × 32 + logical BP) × 8,192 + slot; an unlisted slot is NOP. -/
  slots : SMap Slot := []
  /-- Warp schedule memory, laid out as `State.wsched`. -/
  ws    : List Host.Cell := []
  /-- Relocated descriptors by die × 65,536 + table entry. -/
  descs : SMap (BitVec 128) := []
  /-- BP_PTRBASE_k by physical cluster number × 32 + k. -/
  ptrs  : SMap Word := []
deriving DecidableEq, Repr

/-- A checkpoint slot (R379): the carried values in unfolded coordinates, byte `o` of the stores of virtual cluster `v`
(state memory from 0, data memory from 0x10000, word file from 0x20000) at v × 0x40000 + o, and Pocket bytes by NoC address. -/
structure Checkpoint where
  ecycle : Nat
  stores : List Host.Cell
  pocket : List Host.Cell
deriving DecidableEq, Repr

/-- A stream in progress (R254), from the end of its authentication on. -/
structure Stream where
  seq     : Nat
  body    : List Word
  /-- The next body word the loader interprets. -/
  pos     : Nat := 0
  far     : Option Nat := none
  regions : Option Nat := none
  /-- Frames to write, in order: the frame address, and the word offset of its data in the body, none for zeros. -/
  writes  : List (Nat × Option Nat) := []
  /-- The pattern file: its first word in the body, and its length in bytes. -/
  pattern : Option (Nat × Nat) := none
  /-- KEY_ROLL: the first of the 10 body words that hold the wrapped key (R250); once the checks have passed, the unwrapped key,
  and the slot and ID reserved for it (R258). -/
  keyRoll : Option Nat := none
  newKey  : BitVec 768 := 0
  keySlot : Option (Nat × Nat) := none
  /-- 0 interpreting; 1 checked, waiting to commit; 2 committed, its regions awaiting release. -/
  phase   : Nat := 0
  /-- When its regions entered hold, in REFCLK periods. -/
  heldAt  : Nat := 0
deriving DecidableEq, Repr


/-! ## The packet network (11) -/

/-- A packet in the network (R300 to R302): its fields; the router and input port it stands at, or that it has reached its
destination's interface. -/
structure NocPacket where
  opc      : Nat
  vc       : Nat
  dest     : Nat
  src      : Nat
  part     : Nat
  sys      : Bool
  gen      : Nat
  tag      : Nat
  hops     : Nat := 0
  addr     : Nat := 0
  code     : Nat := 0
  synth    : Bool := false
  lenM1    : Nat := 0
  flits    : Nat := 1
  reserved : Bool := false
  data     : List Byte := []
  mask     : List Byte := []
  /-- FCHK has been inverted (R300). -/
  bad      : Bool := false
  router   : Nat := 0
  port     : Nat := 0
  atNode   : Bool := false
deriving DecidableEq, Repr

/-- A tag in use (R307, R310, R311): the request's operation, destination and length, when its head flit was sent in units
of 2^-28 ns, and that the tag is quarantined. -/
structure NocTag where
  opc   : Nat
  dest  : Nat
  len   : Nat
  sent  : Nat
  quarantined : Bool := false
deriving DecidableEq, Repr

/-- A response as an initiator's interface gave it to its client. -/
structure NocAnswer where
  node : Nat
  tag  : Nat
  opc  : Nat
  code : Nat
  data : List Byte
deriving DecidableEq, Repr


/-! ## Scrubbers (14) -/

/-- One copy of a scrubber's parameters (R376, R377). -/
structure ScrubParam where
  period : Nat
  mode   : Nat
  /-- [31:16] first unit, [15:0] last unit. -/
  range  : Nat
deriving DecidableEq, Repr

/-- What a scrubber holds beside its registers (R377, R378): its parameter copies where they differ from the voted ones, the
parameters that Collar last rewrote, and the next unit it reads. -/
structure Scrubber where
  copy0   : Option ScrubParam := none
  copy1   : Option ScrubParam := none
  copy2   : Option ScrubParam := none
  written : Option ScrubParam := none
  next    : Nat := 0
deriving DecidableEq, Repr

/-- A checkpoint spilled to host storage (R383): the plaintext of its sectors, with the undo log of the epoch before it. -/
structure Spill where
  object : Nat
  epoch  : Nat
  key    : Nat
  ckpt   : Checkpoint
  undo   : List (Nat × List Byte)
deriving DecidableEq, Repr

/-! ## A partition's own state -/

/-- A MARK event carried with the completion post of its ecycle (R68, R329, R345). -/
structure MarkEvent where
  ecycle : Nat
  stitch : Nat
  tag    : Nat
deriving DecidableEq, Repr

/-- Why a partition is held by the Lining (R386): the orders of the rollback in progress. -/
inductive HoldState where
  | none | stopping | drained
deriving DecidableEq, Repr

/-- What a partition holds beside its object-dictionary entries. -/
@[ext] structure Part where
  /-- The completed ecycle count (R89). -/
  completed  : Nat := 0
  /-- The breaks that stand: the ecycle each was requested in, and its PAUSE_REASON, 1 a BRK stitch and 2 a peer
  (R69, R90, R207). -/
  breaks     : List (Nat × Nat) := []
  marks      : List MarkEvent := []
  /-- MARK events and breaks of ecycles below these were acted on before a replay (R387). -/
  marksActed  : Nat := 0
  breaksActed : Nat := 0
  /-- Ecycles whose completion posts carry a break (R69). -/
  posted     : List Nat := []
  /-- The Lining's hold of a rollback (R386). -/
  hold       : HoldState := .none
  /-- DIAMETER of the loaded SEAMMAP; 0 for a single module (R207). -/
  diameter   : Nat := 0
  /-- The gate holds before this ecycle for a checkpoint (R381). -/
  ckptGate   : Option Nat := none
  /-- VMAP (R157): entries by virtual cluster number. -/
  vmap       : SMap Nat := []
  /-- The stitch translation (R366): the image-numbered stitch of each executed stitch. -/
  translate  : SMap Nat := []
  /-- The undo log of the present epoch (R382): the address of each 64-byte line written since the checkpoint and its
  contents before, newest first. Its addresses are the written map. -/
  undo       : List (Nat × List Byte) := []
  /-- The line-key generation, and that the undo log may hold a line of the previous one (R289, R382). -/
  lineGen    : Nat := 0
  undoOld    : Bool := false
  /-- In a roll: the lines of each stack's carve that the re-key sweep has reached, and the lines written since it began, whose
  key-generation bits show the new generation (R289). -/
  swept      : Nat := 0
  fresh      : List Nat := []
  /-- The nonce that KS_NONCE last returned and no KS_OPEN has spent (R288). -/
  ksNonce    : Option Nat := none
  seamMap    : Option SeamMap := none
  /-- The break ecycle a run-control stop enters on every link (R439), and the stop ecycle of a DONE fall (R270). -/
  entered    : Option Nat := none
  doneFall   : Option Nat := none
  /-- STOP_ECYCLE was set by STEP (PAUSE_REASON 4). -/
  stepStop   : Bool := false
  /-- A HALT or PEER_HALT frame closed the gate (R211). -/
  peerHalt   : Bool := false
  /-- The ecycle of the last committed checkpoint (R381). -/
  ckptDone   : Option Nat := none
  /-- The input log (R239), oldest first. -/
  inlog      : List InRecord := []
  /-- Ecycles the acquisition engine has taken, and the most it ever had (R341, R365). -/
  taken      : Nat := 0
  acqMark    : Nat := 0
  /-- The four partition flags of R345. -/
  flags      : Nat := 0
  /-- Filtered TRIG_IN pulses: line, and the ecycle each takes effect at (R346). -/
  trigAt     : List (Nat × Nat) := []
  /-- The partition's acquisition area, placed by Collar (R342). -/
  acqBase    : Nat := 0
  probeMap   : List ProbeRec := []
  /-- The staging area (R253): its NoC address in the HBM carve, none before its first byte, the bytes of the present stream that
  stand in it, and bytes of a stream that is being discarded. -/
  stageAt    : Option Nat := none
  staged     : Nat := 0
  /-- Where Collar has placed the two checkpoint slots and the two golden copies in the HBM carve (R370, R379). -/
  ckptAt     : Nat := 0
  goldenAt   : Nat × Nat := (0, 0)
  /-- Where the two golden copies of the partition's Cuff frames lie, none before its first commit (R262, R370). -/
  cuffAt     : Option (Nat × Nat) := none
  /-- The commit record: the STREAM_SEQ of the last stream whose commit point has passed (R262, R263). -/
  commitRec  : Option Nat := none
  surplus       : List Byte := []
  stream     : Option Stream := none
  golden     : Golden := {}
  /-- The last committed checkpoint (R379). -/
  ckpt       : Option Checkpoint := none
  /-- Rollbacks to the present checkpoint (R391). -/
  rolls      : Nat := 0
  /-- Clusters that this hold has self-tested, and clusters that it is to retire (R373, R374). -/
  tested     : List Nat := []
  retire     : List Nat := []
  /-- The undo log of the epoch before the present one, while the checkpoint of that epoch was spilled (R383). -/
  undoPrev   : List (Nat × List Byte) := []
  spilled    : Bool := false
  /-- The causes of the rollback in progress: cluster number and fault (R369, R388). -/
  causes     : List (Nat × FaultAt) := []
  /-- The fault whose ecycle the replay has still to pass: kind, place and ecycle (R386 order 8). -/
  replaying  : Option (Nat × Nat × Nat) := none
deriving DecidableEq, Repr

/-! ## The block -/

/-- The state of the block. -/
@[ext]
structure State where
  /-- Every byte the NoC addresses: HBM plaintext, Pocket, cluster windows, Collar SRAM and message store, and host
  memory as the module has written it (R27 to R30). -/
  mem      : List Host.Cell := []
  /-- Warp schedule memory: cluster number times 131,072, SEND at +0, POP at +0x8000, ACCEPT at +0x10000, SWITCH at
  +0x18000 (R107). -/
  wsched   : List Host.Cell := []
  /-- Registers by NoC address (R5 to R7). -/
  regs     : SMap Word := []
  /-- Object-dictionary entries by key (R419). -/
  od       : SMap Nat := []
  clusters : SMap Cluster := []
  dies     : SMap Die := []
  parts    : SMap Part := []
  /-- Track stages: switch position times 512 plus source code (R85, R115). -/
  stages   : SMap (Option Stage) := []
  /-- Values handed to the Seam switch on outbound channel c by a Yoke bridge (R189): ecycle and value, oldest first. -/
  outbound : SMap (List (Nat × Bool)) := []
  ports    : SMap SeamPort := []
  /-- Channel rings, and the next (ecycle, INDEX) each inbound channel lacks (R195, R200). -/
  rings    : SMap (List RingValue) := []
  inNext   : SMap (Nat × Nat) := []
  /-- The next (ecycle, INDEX) each outbound channel sends, and its fence in a resume (R199, R208). -/
  outNext  : SMap (Nat × Nat) := []
  fences   : SMap (Option (Nat × Nat)) := []
  /-- The frames of targets 4 and 5 as they stand in the Cuff: byte `b` of frame address `f` at f × 4,096 + b (R217, R244, R246). -/
  frames   : List Host.Cell := []
  /-- The golden copy of the committed frames, kept in the carves of their partitions (R262, R370). -/
  goldenFrames : List Host.Cell := []
  slots    : SMap FenceSlot := []
  /-- Flip-flop Q of each cell of the Cuff: tile number × 256 + cell (R218). -/
  cellQ    : SMap Bool := []
  /-- Levels at the target pins, and what the module last drove there: data, and output enable (R228, R230). -/
  pinIn    : SMap Bool := []
  /-- Pin registers: pin × 8, then 0 and 1 the input samples, 2 to 4 the output's three port signals (R228, R229). -/
  pinReg   : SMap Bool := []
  /-- Isolation latches that hold, by tile number × 256 + routing entry of the crossing wire (R223). -/
  latches  : SMap (Option Bool) := []
  /-- Global trees, bit n of tree n: the level of its source, its own level, and that it is being written in a hold (R226, R227,
  R265). -/
  treeRaw  : Nat := 0
  treeHigh : Nat := 0
  treesHeld : Nat := 0
  /-- Regions whose cell flip-flops are held in reset, bit r of region r: those in hold until order 1 of R266 (R265). -/
  resetRegions : Nat := 0
  pinOut   : SMap (Bool × Bool) := []
  /-- Every output pin is in its hold state until restart (R230, R282). -/
  pinsHeld : Bool := false
  /-- Beats from the host waiting in each fabric-bound DMA queue, and LAST (R243). -/
  fromHost : SMap (List (Nat × Bool)) := []
  /-- The last 256 clamp reports, oldest first (R432). -/
  clamps   : List ClampReport := []
  /-- Clamp reports of each partition since restart (R433). -/
  clampCount : SMap Nat := []
  /-- Mirror accesses that wait to be served: function (0 physical, p + 1 virtual function p), channel, and what the
  cryptographic units answer (R442). -/
  mirrorWait : List (Nat × Nat × Crypto) := []
  /-- What the last read of each LO register captured of its HI register, by the HI register's address. -/
  hiCap    : SMap Word := []
  /-- The code with which the last dictionary access or command was answered, and its bytes (R426, R427). -/
  result   : Nat := 0
  reply    : List Byte := []
  /-- The last inbound PCIe memory request was answered with Unsupported Request (R479, R481). -/
  pcieUr   : Bool := false
  logQueue : List LogRecord := []
  logSeq   : Nat := 0
  /-- Time counters A and B in units of 2^-28 ns (R463). -/
  timeA    : Nat := 0
  timeB    : Nat := 0
  hem      : Hem := {}
  acq      : SMap AcqUnit := []
  /-- The probe vector of the last ecycle taken (R347). -/
  probes   : SMap Bool := []
  /-- TRIG_OUT lines on which a pulse stands (R362). -/
  trigPulse : SMap Bool := []
  /-- Bus frames waiting to be sent, and those sent, oldest first (R363). -/
  busQueue : List BusFrame := []
  busSent  : List BusFrame := []
  /-- Host-bound records waiting in each DMA queue (R485). -/
  toHost   : SMap (List HostMsg) := []
  dmaQ     : SMap DmaQueue := []
  mbx      : SMap Mailbox := []
  /-- PAP sessions by slot, challenges held, and messages sent, oldest first (R450 to R458). -/
  sessions : SMap (Option Session) := []
  challenges : List Challenge := []
  papSent  : List PapSent := []
  /-- When an ABORT was last sent to each source address, in REFCLK periods (R460). -/
  abortAt  : SMap (Option Nat) := []
  /-- The Ethernet ports and frames sent, oldest first, and the time unit (17). -/
  ethPorts : SMap EthPort := []
  ethSent  : List EthSent := []
  time     : TimeUnit := {}
  /-- The key in each key slot, most significant byte first, a 256-bit key in the low bits; 0 once zeroised (R286). -/
  keys     : SMap (BitVec 768) := []
  /-- Lines of its retired pseudo-channel that each stack has copied into the relocation reserves (R276). -/
  copied   : SMap Nat := []
  /-- Repair rows used, by stack × 64 + pseudo-channel (R389), and stacks to be mapped out at the next restart (R391). -/
  pprUsed  : SMap Nat := []
  mapOut   : Nat := 0
  scrub    : SMap Scrubber := []
  /-- Bridge spares assigned and not yet in effect (R121): die, bridge, spare, and whether it is an outgoing one. -/
  sparesPend : List (Nat × Nat × Nat × Bool) := []
  /-- Bridge tracks found faulty with no spare left (R121, R391): die, bridge, whether outgoing, and track. -/
  deadTracks : List (Nat × Nat × Bool × Nat) := []
  /-- Checkpoints spilled to host storage, oldest first (R383). -/
  spills   : List Spill := []
  /-- MSI-X messages sent, oldest first: function (0 physical, p + 1 virtual function p) and vector (R482). -/
  msix     : List (Nat × Nat) := []
  /-- Channels whose doorbell has interrupted Collar, oldest first (R497). -/
  colIrq   : List Nat := []
  /-- Packets in the network, in order of entry; tags in use and generations by node × 1,024 + tag; responses given to
  clients, oldest first (R300, R307, R311). -/
  noc      : List NocPacket := []
  nocTags  : SMap (Option NocTag) := []
  nocGens  : SMap Nat := []
  nocAnswers : List NocAnswer := []
  /-- Collar (15), the log in flash (15), and power (19). -/
  collar   : Collar := {}
  logFlash : LogFlash := {}
  power    : Power := {}
  /-- REFCLK periods that the block has idled through (assumption 1). -/
  ticks    : Nat := 0
  /-- ALERT_N is asserted (low). -/
  alert    : Bool := false
  /-- The model's own counter of free values drawn (assumption 2). -/
  free     : Nat := 0
  /-- Commands waiting, first in first out (assumption 1). -/
  pending  : List Instr := []
deriving DecidableEq, Repr

/-- The block right after reset: every store empty, which is every register and entry at its reset value, and an empty
queue. -/
def State.reset : State := {}

end Sys2Proof.Machine
end

