-- ==== Sys2Proof/Machine/Ops.lean ====
section
/-! DEFINITION. The named operations over the state: addressed memory, registers and their fields, object-dictionary
entries, clusters, dies and partitions, free values and log records. -/

namespace Sys2Proof.Machine

/-! ## Memory -/

/-- What a byte that nothing has written reads as: 0 (assumption 3). -/
def memDefault : Nat → Byte := fun _ => 0

/-- The memory's canonical form. -/
def memWf (m : List Host.Cell) : Bool := swf memDefault m

/-- The byte at a NoC address. -/
def memByte (s : State) (a : Nat) : Byte := sget memDefault s.mem a

/-- `n` bytes at a NoC address, little-endian (R9). -/
def memLE (s : State) (a n : Nat) : Nat := sreadLE memDefault s.mem a n

/-- `v` written little-endian to `n` bytes at a NoC address (R9). -/
def setMemLE (s : State) (a n v : Nat) : State := { s with mem := swriteLE memDefault s.mem a n v }

/-- Bytes written from a NoC address on. -/
def setMemBytes (s : State) (a : Nat) (bs : List Byte) : State := { s with mem := swriteBytes memDefault s.mem a bs }

/-- `n` bytes from a NoC address on. -/
def memBytes (s : State) (a n : Nat) : List Byte := sreadBytes memDefault s.mem a n

/-- Every byte of `[lo, hi)` set to 0. -/
def zeroMem (s : State) (lo hi : Nat) : State := { s with mem := sclear s.mem lo hi }

/-- Bit `b` of the store that begins at NoC address `base`. -/
def memBit (s : State) (base b : Nat) : Bool := (memByte s (base + b / 8)).getLsbD (b % 8)

/-- Bit `i` of a byte set to `v`. -/
def byteSetBit (w : Byte) (i : Nat) (v : Bool) : Byte :=
  if v then w ||| BitVec.ofNat 8 (2 ^ i) else w &&& ~~~ BitVec.ofNat 8 (2 ^ i)

/-- Bit `b` of the store that begins at NoC address `base`, set to `v`. -/
def setMemBit (s : State) (base b : Nat) (v : Bool) : State :=
  { s with mem := sset memDefault s.mem (base + b / 8) (byteSetBit (memByte s (base + b / 8)) (b % 8) v) }

/-! ## Registers -/

/-- The offset of an element within an array of registers, or none where `off` is not the first byte of one. `dims` lists
(count, stride), the largest stride first. -/
def dimsHit (dims : List (Nat × Nat)) (off : Nat) : Bool :=
  match dims with
  | [] => decide (off = 0)
  | (n, stride) :: rest => decide (off / stride < n) && dimsHit rest (off % stride)

/-- The row of a register table that describes the register at window offset `off`. -/
def findReg (t : List RegDesc) (off : Nat) : Option RegDesc :=
  t.find? fun d => decide (d.off ≤ off) && dimsHit d.dims (off - d.off)

/-- Bridge `i` of die `d` exists (R117). -/
def bridgeExists (d i : Nat) : Bool := if d = 0 ∨ d = 3 then decide (i < 3) else decide (d < 4) && decide (i = 0)

/-- Bridge `i` of die `d` joins the Yoke die (R117). -/
def bridgeIsYoke (d i : Nat) : Bool := if d = 0 ∨ d = 3 then decide (i = 2) else decide (i = 0)

/-- Warp tracks per direction of bridge `i` of die `d` (R117). -/
def bridgeTracks (d i : Nat) : Nat := if bridgeIsYoke d i then 768 else 256

/-- Spare tracks per direction of bridge `i` of die `d` (R117). -/
def bridgeSpares (d i : Nat) : Nat := if bridgeIsYoke d i then 24 else 8

/-- The number in R117's table of bridge `i` of die `d`. -/
def bridgeNo (d i : Nat) : Nat :=
  match d with
  | 0 => i
  | 1 => 3
  | 2 => 4
  | _ => 5 + i

/-- A BRG_ window offset of die `d` lies in a bridge and a spare that exist (R117). -/
def bridgeOffset (d off : Nat) : Bool :=
  bridgeExists d (off / 0x10000) &&
  (decide (off % 0x10000 < 0x100) || decide ((off % 0x100) / 4 < bridgeSpares d (off / 0x10000)))

/-- The register description at a NoC address, or none where the spec names no register (R30, R35). -/
def regDesc (a : Nat) : Option RegDesc :=
  if bar0 ≤ a ∧ a < bar0 + 0x4000000 then
    let n := (a - bar0) / 0x100000
    let off := (a - bar0) % 0x100000
    if 0x28 ≤ n ∧ n ≤ 0x2B ∧ ¬ bridgeOffset (n - 0x28) off then none else findReg (windowRegs n) off
  else if 0x010100000000 ≤ a ∧ a < 0x014000000000 then
    let off := (a - 0x010000000000) % 0x1000000000
    if 0x100000000 ≤ off ∧ off < 0x208000000 ∧ 0x3F0000 ≤ (off - 0x100000000) % 0x400000 then
      findReg clusterRegs ((off - 0x100000000) % 0x400000 - 0x3F0000)
    else none
  else if mirrorBase ≤ a ∧ a < mirrorBase + 17 * 0x1000000 ∧ (a - mirrorBase) % 0x1000000 < 0x10000 then
    findReg mirrorRegs ((a - mirrorBase) % 0x1000000)
  else if dmaqBase ≤ a ∧ a < dmaqBase + 0x100000 then findReg dmaqRegs (a - dmaqBase)
  else none

/-- The Reset column of a register's fields, as one word (R7). -/
def descReset (d : RegDesc) : Word :=
  d.fields.foldl (fun w f => w ||| BitVec.ofNat 32 (f.reset <<< f.fld.lo)) 0

/-! ### The default route tables of R314 -/

/-- Toward mesh column `c'` first, then mesh row `r'` (R314): the port of router `n`, `here` where it stands there. -/
def meshPort (n c' r' here : Nat) : Nat :=
  if n % 4 < c' then 1 else if c' < n % 4 then 3
  else if n / 4 < r' then 2 else if r' < n / 4 then 0 else here

/-- The router of die `d` at which Yoke lane `k` lands (R299). -/
def landingRouter (d k : Nat) : Nat :=
  match d with
  | 0 => [10, 11, 14, 15].getD k 0
  | 1 => [8, 9, 12, 13].getD k 0
  | 2 => [2, 3, 6, 7].getD k 0
  | _ => [0, 1, 4, 5].getD k 0

/-- The die a packet from die `d` to die `d'` enters next: the direct bridge, or W1 between W0 and W3 and W3 between W1
and W2 (R314). -/
def nextDie (d d' : Nat) : Nat :=
  if d = 0 ∧ d' = 3 ∨ d = 3 ∧ d' = 0 then 1 else if d = 1 ∧ d' = 2 ∨ d = 2 ∧ d' = 1 then 3 else d'

/-- The bridge between two Weave dies leaves over the column edge of R299's table. -/
def columnEdge (d d' : Nat) : Bool := d / 2 == d' / 2

/-- The default output port of router `i` for destination `e`, or none for a reserved node (R297, R299, R314). -/
def defaultPort (i e : Nat) : Option Nat :=
  if 0x8A ≤ e then none
  else if i = 0x40 then
    if 0x80 ≤ e then some (16 + (e - 0x80)) else some (4 * (e / 0x20) + e % 4)
  else
    let d := i / 16
    let n := i % 16
    if 0x80 ≤ e then
      let x := landingRouter d (n % 4)
      some (meshPort n (x % 4) (x / 4) 8)
    else
      let d' := e / 0x20
      let m := e % 16
      if d = d' then some (meshPort n (m % 4) (m / 4) (if e % 0x20 < 0x10 then 4 else 5))
      else
        let x := nextDie d d'
        if columnEdge d x then
          let edge := if d % 2 = 0 then 3 else 0
          some (if n % 4 = edge then 6 else if n % 4 < edge then 1 else 3)
        else
          let edge := if d < 2 then 3 else 0
          some (meshPort n (m % 4) edge 7)

/-- The default route-table entry of router `i` for destination `e`, laid out as NOC_RT_SH (R312, R314). -/
def defaultRoute (i e : Nat) : Word :=
  match defaultPort i e with
  | some p => BitVec.ofNat 32 (0x80 + p)
  | none => 0

/-- Default scrub periods of R376, in s. -/
def scrubPeriodDefault (k : Nat) : Nat := [10, 10, 2, 2, 1, 86400].getD k 0

/-- The reset value of the register at a NoC address: the Reset column, or the value a chapter gives for the stepping, the
bridge, the scrubber or the router (R7). -/
def regReset (a : Nat) : Word :=
  if Reg.NOC_RT_SH 0 0 ≤ a ∧ a < Reg.NOC_RT_ACT 65 0 then
    let off := (a - Reg.NOC_RT_SH 0 0) % 0x20000
    if off / 0x400 ≤ 0x40 then defaultRoute (off / 0x400) (off % 0x400 / 4) else 0
  else if bar0 + 0x2000000 ≤ a ∧ a < bar0 + 0x2400000 ∧ a % 0x100000 = 0 then
    match Config.stepping with
    | .a0 => 0x00421111
    | .b0 => 0x00311111
  else if bar0 + 0x2400000 ≤ a ∧ a < bar0 + 0x2800000 ∧ a % 0x100000 = 0 then
    match Config.stepping with
    | .a0 => 0x0C0A0201
    | .b0 => 0x0A070201
  else if bar0 + 0x2C00000 ≤ a ∧ a < bar0 + 0x3000000 ∧ a % 0x100000 = 0 then
    match Config.stepping with
    | .a0 => 0x00000013
    | .b0 => 0x00000014
  else if bar0 + 0x2800000 ≤ a ∧ a < bar0 + 0x2C00000 ∧ a % 0x10000 = 8 then
    let d := (a - bar0 - 0x2800000) / 0x100000
    let i := a % 0x100000 / 0x10000
    BitVec.ofNat 32 (bridgeSpares d i * 65536 + bridgeTracks d i)
  else if Reg.LNG_SCRUB_CFG 0 ≤ a ∧ a < Reg.LNG_SCRUB_CFG 6 ∧ a % 0x10 = 0 then
    BitVec.ofNat 32 (scrubPeriodDefault ((a - Reg.LNG_SCRUB_CFG 0) / 0x10) * 2 ^ F.LNG_SCRUB_CFG_PERIOD.lo)
  else
    match regDesc a with
    | some d => descReset d
    | none => 0

/-! ### Reading and writing registers and fields -/

/-- The value a register holds. -/
def rget (s : State) (a : Nat) : Word := sget regReset s.regs a

/-- The register at `a` holding `v`. -/
def rset (s : State) (a : Nat) (v : Word) : State := { s with regs := sset regReset s.regs a v }

/-- The mask of a field. -/
def fldMask (f : Fld) : Word := BitVec.ofNat 32 ((2 ^ (f.hi + 1 - f.lo) - 1) <<< f.lo)

/-- A field's value within a word. -/
def fldGet (w : Word) (f : Fld) : Nat := (w.toNat >>> f.lo) % 2 ^ (f.hi + 1 - f.lo)

/-- A word with a field set, the field's own bits only. -/
def fldSet (w : Word) (f : Fld) (v : Nat) : Word :=
  (w &&& ~~~ fldMask f) ||| (BitVec.ofNat 32 (v <<< f.lo) &&& fldMask f)

/-- The value of field `f` of the register at `a`. -/
def fget (s : State) (a : Nat) (f : Fld) : Nat := fldGet (rget s a) f

/-- Field `f` of the register at `a` set to `v`. -/
def fset (s : State) (a : Nat) (f : Fld) (v : Nat) : State := rset s a (fldSet (rget s a) f v)

/-- A one-bit field read as a truth value. -/
def fbit (s : State) (a : Nat) (f : Fld) : Bool := decide (fget s a f ≠ 0)

/-- Several fields of one register set in turn. -/
def fsets (s : State) (a : Nat) (l : List (Fld × Nat)) : State :=
  rset s a (l.foldl (fun w p => fldSet w p.1 p.2) (rget s a))

/-- A counting field raised by `n`, saturating at its largest value. -/
def fadd (s : State) (a : Nat) (f : Fld) (n : Nat) : State :=
  fset s a f (min (fget s a f + n) (2 ^ (f.hi + 1 - f.lo) - 1))

/-! ## Object-dictionary entries -/

/-- The row of the entry table that describes a key. -/
def odDesc (key : Nat) : Option OdDesc :=
  odTable.find? fun d =>
    decide (d.index ≤ key / 256) && decide (d.sub ≤ key % 256) && decide (key % 256 < d.sub + d.subs) &&
    (if d.stride = 0 then decide (key / 256 = d.index)
     else decide ((key / 256 - d.index) % d.stride = 0) && decide ((key / 256 - d.index) / d.stride < d.count))

/-- A number of `n` bytes with its bytes in the other order. -/
def swapBytes (n v : Nat) : Nat :=
  (List.range n).foldl (fun x i => x * 256 + v / 256 ^ i % 256) 0

/-- The MAC address of port `q`, most significant byte first: fused, port 1's one above port 0's (R447). -/
def macOf (q : Nat) : Nat := (Config.identity (Od.MAC 0) + q) % 2 ^ 48

/-- An entry's default (R422): the Default column; for an identity entry the fused value. -/
def odDefault (key : Nat) : Nat :=
  match odDesc key with
  | some d =>
    if key = Od.MAC 0 ∨ key = Od.MAC 1 then swapBytes 6 (macOf (key / 256 - 0x1101))
    else if 0x1001 ≤ key / 256 ∧ key / 256 ≤ 0x1023 then
      (match d.defaults with
       | [0] => Config.identity key
       | l => l.getD 0 0)
    else if 0x4030 ≤ key / 256 ∧ key / 256 ≤ 0x4031 then
      (if key / 256 = 0x4030 then scrubPeriodDefault (key % 256 - 1) else 0xFFFF)
    else d.defaults.getD (key % 256 - d.sub) (d.defaults.getD 0 0)
  | none => 0

/-- The value of an entry. -/
def oget (s : State) (key : Nat) : Nat := sget odDefault s.od key

/-- An entry set to `v`. -/
def oset (s : State) (key v : Nat) : State := { s with od := sset odDefault s.od key v }

/-- A U32 count entry raised by 1, saturating. -/
def oinc (s : State) (key : Nat) : State := oset s key (min (oget s key + 1) 0xFFFFFFFF)

/-- Tracks of bridge `b` of R117's table carved to a partition, as (first, count). -/
def tracksOf (s : State) (b p : Nat) : Nat × Nat :=
  (oget s (Od.BRG_TRACK_CARVE p b) / 2 ^ 16, oget s (Od.BRG_TRACK_CARVE p b) % 2 ^ 16)

/-! ## Clusters, dies and partitions -/

/-- The cluster at a position. -/
def getCl (s : State) (i : Nat) : Cluster := sget (fun _ => {}) s.clusters i

/-- A cluster replaced. -/
def setCl (s : State) (i : Nat) (k : Cluster) : State := { s with clusters := sset (fun _ => {}) s.clusters i k }

/-- A die's engine. -/
def getDie (s : State) (d : Nat) : Die := sget (fun _ => {}) s.dies d

/-- A die's engine replaced. -/
def setDie (s : State) (d : Nat) (x : Die) : State := { s with dies := sset (fun _ => {}) s.dies d x }

/-- A partition. -/
def getPart (s : State) (p : Nat) : Part := sget (fun _ => {}) s.parts p

/-- A partition replaced. -/
def setPart (s : State) (p : Nat) (x : Part) : State := { s with parts := sset (fun _ => {}) s.parts p x }

/-- The cluster with number `i`. -/
def clusterOf (i : Nat) : ClusterId :=
  ⟨⟨i / 1056 % 4, Nat.mod_lt _ (by decide)⟩, ⟨i % 1056 / 32 % 33, Nat.mod_lt _ (by decide)⟩,
   ⟨i % 32, Nat.mod_lt _ (by decide)⟩⟩

/-- Row `r` of die `d` lies in partition `p`'s row band (OD 6p01). -/
def rowInBand (s : State) (p d r : Nat) : Bool :=
  let b := oget s (Od.ROWS_W p d)
  decide (b / 256 ≤ r) && decide (r < b / 256 + b % 256)

/-- The partition to which a cluster is bound: the one that is not FREE and whose row band holds its row (R125, R291). -/
def partOf (s : State) (c : ClusterId) : Option Nat :=
  (List.range 16).find? fun p => decide (oget s (Od.PART_STATE p) ≠ 0) && rowInBand s p c.die.val c.row.val

/-- The clusters of a partition's row bands, every column (OD 6p01). -/
def partClusters (s : State) (p : Nat) : List ClusterId :=
  (List.finRange 4).flatMap fun d =>
    ((List.finRange 32).filter fun r => rowInBand s p d.val r.val).flatMap fun r =>
      (List.finRange 33).map fun c => ⟨d, c, r⟩

/-- The dies on which a partition has a non-empty row band (R150). -/
def partDies (s : State) (p : Nat) : List Nat :=
  (List.range 4).filter fun d => decide (oget s (Od.ROWS_W p d) % 256 ≠ 0)

/-- The sweep length in force (BP_SWEEP_LEN). -/
def sweepLen (s : State) (c : ClusterId) : Nat := fget s (Reg.BP_SWEEP_LEN c) F.BP_SWEEP_LEN_LEN

/-- A cluster takes part in sweeps (R89). -/
def participating (s : State) (c : ClusterId) : Bool := decide (sweepLen s c ≠ 0)

/-- BP_CL_STATUS.RUN of a cluster. -/
def clRun (s : State) (c : ClusterId) : Bool := fbit s (Reg.BP_CL_STATUS c) F.BP_CL_STATUS_RUN

/-- RUN clears: the cluster's time without progress restarts from 0 (R91, R94). -/
def clearRun (s : State) (c : ClusterId) : State :=
  let s := setCl s c.idx { getCl s c.idx with noProgress := false }
  fset s (Reg.BP_CL_STATUS c) F.BP_CL_STATUS_RUN 0

/-- A partition is running (R91): a participating cluster of it reads RUN 1. A partition the Lining holds counts as stopped
from order 2 of R386, and one that a limit of R391 has stopped is stopped. -/
def partRunning (s : State) (p : Nat) : Bool :=
  decide ((getPart s p).hold ≠ .drained) && decide (oget s (Od.RUN_STATE p) ≠ 3) &&
  (partClusters s p).any fun c => participating s c && clRun s c

/-! ## Pairs of LO and HI registers -/

/-- A value of up to 64 bits read through a LO register: the low word is answered and the high one captured. -/
def captureHi (s : State) (hiReg v : Nat) : State × Word :=
  ({ s with hiCap := sset (fun _ => 0) s.hiCap hiReg (BitVec.ofNat 32 (v / 2 ^ 32)) }, BitVec.ofNat 32 v)

/-- What a HI register reads: what the last read of its LO register captured. -/
def readHi (s : State) (hiReg : Nat) : Word := sget (fun _ => 0) s.hiCap hiReg

/-! ## Free values and the log -/

/-- A fresh free bit, and the state that has drawn it (assumption 2). -/
def drawBit (s : State) : Bool × State := (Config.freeBit s.free, { s with free := s.free + 1 })

/-- A fresh free number, and the state that has drawn it (assumption 2). -/
def drawNat (s : State) : Nat × State := (Config.freeNat s.free, { s with free := s.free + 1 })

/-- Bytes that the spec leaves open: `n` free values. -/
def freeBytes (s : State) (n : Nat) : List Byte × State :=
  ((List.range n).map fun i => BitVec.ofNat 8 (Config.freeNat (s.free + i)), { s with free := s.free + n })

/-- The TIME80 value of a counter kept in units of 2^-28 ns: seconds times 2^32 plus nanoseconds (R10, R463). -/
def time80 (t : Nat) : Nat := t / (2 ^ 28 * 1000000000) * 2 ^ 32 + t / 2 ^ 28 % 1000000000

/-- An MSI-X message to function `f` (0 the physical function, p + 1 virtual function p) on a vector (R482). -/
def irq (s : State) (f vec : Nat) : State := { s with msix := s.msix ++ [(f, vec)] }

/-- An event of PCI_EVENT: its bit, and vector 0 of the physical function where the bit becomes 1 (R482). -/
def pciEvent (s : State) (f : Fld) : State :=
  if fbit s Reg.PCI_EVENT f then s else irq (fset s Reg.PCI_EVENT f 1) 0 0

/-- An entry of partition `p` that its virtual function is told of (RUN_STATE, PART_STATE, LAST_STOP: R482). -/
def osetTell (s : State) (p key v : Nat) : State :=
  if oget s key = v then s else irq (oset s key v) (p + 1) 0

/-- HEALTH raised to at least `n` (R392, R482). -/
def raiseHealth (s : State) (n : Nat) : State :=
  if n ≤ oget s Od.HEALTH then s else pciEvent (oset s Od.HEALTH n) F.PCI_EVENT_HEALTH

/-- ALERT_N asserted (R406). -/
def assertAlert (s : State) : State := if s.alert then s else pciEvent { s with alert := true } F.PCI_EVENT_ALERT

/-- A log record made (R405, R406, R408): queued in SEQ order; while the queue of 4,096 is full, one of severity 0 to 2 is
discarded and counted. Severity 6 and 7 assert ALERT_N. `part` is 31 for the module. -/
def logRecord (s : State) (source severity part code place : Nat) (detail : List Nat) : State :=
  if severity ≤ 2 ∧ 4096 ≤ s.logQueue.length then oinc s Od.LOG_DROPPED
  else
    let r : LogRecord :=
      { seq := s.logSeq, time := time80 s.timeA,
        ecycle := if part < 16 then (getPart s part).completed % 2 ^ 48 else 0,
        source := source, severity := severity, partition := part, code := code, place := place, detail := detail }
    let s := { s with logQueue := s.logQueue ++ [r], logSeq := s.logSeq + 1 }
    if 6 ≤ severity then assertAlert s else s

/-- Some controller holds the charge lease (R397). -/
def leased (s : State) : Bool := decide (fget s Reg.COL_LEASE F.COL_LEASE_HOLDER ≠ 3)

/-- A command that the holder of the charge lease carries out (R397, R400): it changes nothing while none holds the lease, and
an orderly shutdown in progress refuses it with NOT_IDLE (R527). It is served from Baste on (R519). -/
def served (s : State) (f : State → State) : State :=
  if !leased s || decide (fget s Reg.PWR_STATUS F.PWR_STATUS_STAGE = 0) then s
  else if s.power.closing then { s with result := Code.NOT_IDLE } else f s

/-- Subsystem number `n` as the partition field of a module record. -/
def modulePart : Nat := 31

end Sys2Proof.Machine
end

