-- ==== Sys2Proof/Machine/NocBase.lean ====
section
/-! DEFINITION. The address map and the ends of the packet network (R27 to R32, R297 to R299, R307 to R319): which node an
address belongs to, the carves of a partition, the tags of a node and the counts of the network. -/

namespace Sys2Proof.Machine

/-! ## States and carves of a partition (R291) -/

/-- PART_STATE (R291). -/
def partState (s : State) (p : Nat) : Nat := oget s (Od.PART_STATE p)

/-- The integrity halt stands (R282). -/
def halted (s : State) : Bool := decide (oget s Od.INTEGRITY_HALT ≠ 0)

/-- First unit and count of a partition's carve in stack `d`, and the units of its design-memory part. -/
def carveFirst (s : State) (p d : Nat) : Nat := oget s (Od.HBM_H p d) / 2 ^ 16 % 2 ^ 16
def carveCount (s : State) (p d : Nat) : Nat := oget s (Od.HBM_H p d) % 2 ^ 16
def carveDm (s : State) (p d : Nat) : Nat := oget s (Od.DMEM_H p d)

/-- The NoC address of unit `u` of stack `d` (R27, R291): a unit is 256 MiB. -/
def unitAddr (d u : Nat) : Nat := d * 0x1000000000 + u * 0x10000000

/-- An address lies in partition `p`'s HBM carve. -/
def inCarve (s : State) (p a : Nat) : Bool :=
  (List.range 4).any fun d =>
    decide (unitAddr d (carveFirst s p d) ≤ a) && decide (a < unitAddr d (carveFirst s p d + carveCount s p d))

/-- An address lies in a design-memory part of partition `p` (R291). -/
def inDmPart (s : State) (p a : Nat) : Bool :=
  (List.range 4).any fun d =>
    decide (unitAddr d (carveFirst s p d) ≤ a) && decide (a < unitAddr d (carveFirst s p d + carveDm s p d))

/-- The partition whose carve holds an HBM address. -/
def carveOwner (s : State) (a : Nat) : Option Nat :=
  (List.range 16).find? fun p => decide (partState s p ≠ 0) && inCarve s p a

/-- Bank `b` of die `i` belongs to partition `p`'s Pocket carve (OD 6p03). -/
def bankInCarve (s : State) (p i b : Nat) : Bool :=
  decide (oget s (Od.BANK_FIRST_W p i) ≤ b) &&
  decide (b < oget s (Od.BANK_FIRST_W p i) + oget s (Od.BANK_COUNT_W p i))

/-! ## Operations and destinations (R298, R302) -/

def opRd : Nat := 0x01
def opWr : Nat := 0x02
def opWrm : Nat := 0x03
def opMsg : Nat := 0x04
def opRdresp : Nat := 0x20
def opWrack : Nat := 0x21
def opErr : Nat := 0x3F

/-- An operation that asks for service, against one that answers (R302). -/
def isRequest (opc : Nat) : Bool := decide (opc < 0x20)

/-- The destination node of an address, or none where the address is in no range of R27 (R298). -/
def nocDest (a : Nat) : Option Nat :=
  if a < 0x004000000000 then some (0x20 * (a / 0x1000000000) + 0x10 + a % 0x1000000000 / 64 % 64 / 4)
  else if 0x010000000000 ≤ a ∧ a < 0x014000000000 then
    let d := (a - 0x010000000000) / 0x1000000000
    let o := a % 0x1000000000
    if o < 0x100000000 then some (0x20 * d)
    else
      let c := (o - 0x100000000) / 0x8000000
      let r := (o - 0x100000000) % 0x8000000 / 0x400000
      some (0x20 * d + 4 * (r / 8) + min c 31 / 8)
  else if bar0 ≤ a ∧ a < bar0 + 0x4000000 then
    let n := (a - bar0) / 0x100000
    some (if 0x20 ≤ n ∧ n ≤ 0x2F then 0x20 * (n % 4) else 0x89)
  else if bar0 + 0x4000000 ≤ a ∧ a < bar0 + 0x4200000 then some 0x81
  else if bar0 + 0x4200000 ≤ a ∧ a < bar0 + 0x4400000 then some 0x82
  else if bar0 + 0x4400000 ≤ a ∧ a < bar0 + 0x4700000 then some 0x89
  else if 0x030000000000 ≤ a ∧ a < 0x040000000000 then some 0x80
  else none

/-! ## Where an address lies (R27 to R32) -/

/-- The BAR0 window of an address, and the offset within it (R35). -/
def winOf (a : Nat) : Nat := (a - bar0) / 0x100000
def winOff (a : Nat) : Nat := (a - bar0) % 0x100000

/-- The address lies in the Yoke register space. -/
def inBar0 (a : Nat) : Bool := decide (bar0 ≤ a) && decide (a < bar0 + 0x4000000)

/-- The cluster of an address in a cluster window, and the offset within the window (R29, R30). -/
def clusterAt (a : Nat) : Option (ClusterId × Nat) :=
  if 0x010000000000 ≤ a ∧ a < 0x014000000000 then
    let d := (a - 0x010000000000) / 0x1000000000
    let o := a % 0x1000000000
    if 0x100000000 ≤ o ∧ o < 0x208000000 then
      let x := o - 0x100000000
      if h : x / 0x8000000 < 33 then
        some (⟨⟨d % 4, Nat.mod_lt _ (by decide)⟩, ⟨x / 0x8000000, h⟩,
          ⟨x % 0x8000000 / 0x400000 % 32, Nat.mod_lt _ (by decide)⟩⟩, x % 0x400000)
      else none
    else none
  else none

/-- The partition of a channel (R492): none for 0 to 7 and 56 to 63. -/
def chanPart (c : Nat) : Option Nat := if 8 ≤ c ∧ c ≤ 55 then some ((c - 8) / 3) else none

/-- An HBM address (R27). -/
def isHbm (a : Nat) : Bool := decide (a < 0x4000000000)

/-- A Pocket back-door address (R29): the die and the bank. -/
def pocketAt (a : Nat) : Option (Nat × Nat) :=
  if 0x010000000000 ≤ a ∧ a < 0x014000000000 ∧ a % 0x1000000000 < 0x4000000 then
    some ((a - 0x010000000000) / 0x1000000000, a % 0x1000000000 / 0x8000)
  else none

/-- The NoC address of host address 0 (R27). -/
def hostBase : Nat := 0x030000000000

/-- An address of host memory (R27). -/
def isHost (a : Nat) : Bool := decide (hostBase ≤ a) && decide (a < hostBase + 0x10000000000)

/-- A register target: the Yoke register space, or a cluster's registers. -/
def isRegister (a : Nat) : Bool :=
  inBar0 a || (match clusterAt a with
    | some (_, o) => decide (0x3F0000 ≤ o)
    | none => false)

/-- An offset of a cluster window is mapped (R30). -/
def clusterMapped (o : Nat) : Bool :=
  decide (o < 0x210000) || (decide (0x300000 ≤ o) && decide (o < 0x302000)) ||
  (decide (0x310000 ≤ o) && decide (o < 0x320000)) || (decide (0x320000 ≤ o) && decide (o < 0x321000)) ||
  decide (0x3F0000 ≤ o)

/-- The address is mapped within its window (R28 to R30). Every range there is whole 4 KiB blocks. -/
def addrMapped (a : Nat) : Bool :=
  if isHbm a then decide (a % 0x1000000000 < 0xB40000000)
  else if 0x010000000000 ≤ a ∧ a < 0x014000000000 then
    (pocketAt a).isSome || (match clusterAt a with
      | some (_, o) => clusterMapped o
      | none => false)
  else (nocDest a).isSome

/-- A request with SYS 0 reaches outside the carve of its partition (R32). -/
def outsideCarve (s : State) (p a : Nat) : Bool :=
  if isHost a then false
  else if isHbm a then !(decide (partState s p ≠ 0) && inCarve s p a)
  else
    match pocketAt a, clusterAt a with
    | some (d, b), _ => !(decide (partState s p ≠ 0) && bankInCarve s p d b)
    | none, some (c, _) => !decide (partOf s c = some p)
    | none, none =>
      !(inBar0 a && decide (winOf a = 9) && decide (chanPart (winOff a / 0x1000) = some p))

/-! ## Nodes and routers (R297, R299) -/

/-- The router that serves a node, and the port it is at (R297, R299). -/
def nodeRouter (n : Nat) : Nat := if n < 0x80 then 16 * (n / 0x20) + n % 16 else 0x40
def nodePort (n : Nat) : Nat := if 0x80 ≤ n then 16 + (n - 0x80) else if n % 0x20 < 0x10 then 4 else 5

/-- A node that initiates requests (R297). -/
def initiates (n : Nat) : Bool := (decide (n < 0x80) && decide (n % 0x20 < 0x10)) || (decide (0x80 ≤ n) && decide (n ≤ 0x88))

/-- The lane of a router of the landing quad of die `d`, if it is one (R299). -/
def landingLane (d n : Nat) : Option Nat := (List.range 4).find? fun k => decide (landingRouter d k = n)

/-- Where a port of a router leads: the neighbour and its input port, for the ports that join two routers (R299). -/
def nocLink (i port : Nat) : Option (Nat × Nat) :=
  if i = 0x40 then
    if port < 16 then some (16 * (port / 4) + landingRouter (port / 4) (port % 4), 8) else none
  else
    let d := i / 16
    let n := i % 16
    match port with
    | 0 => if 4 ≤ n then some (i - 4, 2) else none
    | 1 => if n % 4 < 3 then some (i + 1, 3) else none
    | 2 => if n < 12 then some (i + 4, 0) else none
    | 3 => if 0 < n % 4 then some (i - 1, 1) else none
    | 6 =>
      if d % 2 = 0 then (if n % 4 = 3 then some (16 * (d + 1) + n - 3, 6) else none)
      else if n % 4 = 0 then some (16 * (d - 1) + n + 3, 6) else none
    | 7 =>
      if d < 2 then (if n / 4 = 3 then some (16 * (d + 2) + n - 12, 7) else none)
      else if n / 4 = 0 then some (16 * (d - 2) + n + 12, 7) else none
    | 8 => (landingLane d n).map fun k => (0x40, 4 * d + k)
    | _ => none

/-- The node at a port of a router, for the ports that serve one (R299). -/
def nocLocal (i port : Nat) : Option Nat :=
  if i = 0x40 then (if 16 ≤ port ∧ port ≤ 25 then some (0x80 + (port - 16)) else none)
  else if port = 4 then some (0x20 * (i / 16) + i % 16)
  else if port = 5 then some (0x20 * (i / 16) + 0x10 + i % 16)
  else none

/-- A router has a port of this number (R299). -/
def portExists (i port : Nat) : Bool := (nocLink i port).isSome || (nocLocal i port).isSome

/-- A link crosses a bridge between dies. -/
def crossesBridge (i port : Nat) : Bool := if i = 0x40 then decide (port < 16) else decide (6 ≤ port) && decide (port ≤ 8)

/-! ## Domains (R316 to R318) -/

/-- STATE of a domain. -/
def domState (s : State) (k : Nat) : Nat := fget s (Reg.NOC_DOM k) F.NOC_DOM_STATE

/-- The domain of a node behind a gatekeeper: a block node or an HBM port (R316). -/
def nodeDomain (n : Nat) : Option Nat :=
  if n < 0x80 then some ((if n % 0x20 < 0x10 then 0 else 0x40) + 16 * (n / 0x20) + n % 16) else none

/-- The node of a domain below 0x80. -/
def domainNode (k : Nat) : Nat := 0x20 * (k % 0x40 / 16) + k % 16 + (if k < 0x40 then 0 else 0x10)

/-- The node's router port is fenced (R317). -/
def fenced (s : State) (n : Nat) : Bool :=
  match nodeDomain n with
  | some k => decide (domState s k ≠ 0)
  | none => false

/-! ## Tags and counts (R307, R309, R311, R319) -/

def tagKey (node tag : Nat) : Nat := node * 1024 + tag
def getTag (s : State) (node tag : Nat) : Option NocTag := sget (fun _ => none) s.nocTags (tagKey node tag)
def setTag (s : State) (node tag : Nat) (x : Option NocTag) : State :=
  { s with nocTags := sset (fun _ => none) s.nocTags (tagKey node tag) x }

/-- GEN of a tag. -/
def getGen (s : State) (node tag : Nat) : Nat := sget (fun _ => 0) s.nocGens (tagKey node tag)

/-- A node's tags in use; with `all`, quarantined ones among them. -/
def tagsOut (s : State) (node : Nat) (all : Bool) : Nat :=
  ((sslice s.nocTags (node * 1024) (node * 1024 + 1024)).filter fun e => match e.2 with
    | some t => all || !t.quarantined
    | none => false).length

/-- A tag leaves quarantine: its GEN rises by 1, modulo 4 (R311). -/
def releaseTag (s : State) (node tag : Nat) : State :=
  { setTag s node tag none with
    nocGens := sset (fun _ => 0) s.nocGens (tagKey node tag) ((getGen s node tag + 1) % 4) }

/-- An error counter raised, saturating. The six share one layout. -/
def nocCount (s : State) (a : Nat) : State := fadd s a F.NOC_DROP_CNT_COUNT 1

/-- A count of a LO and HI pair raised, saturating at 2^64 - 1 (R319). -/
def statAdd64 (s : State) (lo hi n : Nat) : State :=
  let v := min ((rget s lo).toNat + 2 ^ 32 * (rget s hi).toNat + n) (2 ^ 64 - 1)
  rset (rset s lo (BitVec.ofNat 32 v)) hi (BitVec.ofNat 32 (v / 2 ^ 32))

/-- The first ERR made or received, captured in NOC_ERR_CAP. -/
def captureErr (s : State) (synth : Bool) (initiator dest opc code : Nat) : State :=
  if fbit s Reg.NOC_ERR_CAP F.NOC_ERR_CAP_VALID then s
  else
    let s := fsets s Reg.NOC_ERR_CAP
      [(F.NOC_ERR_CAP_VALID, 1), (F.NOC_ERR_CAP_SYNTH, if synth then 1 else 0), (F.NOC_ERR_CAP_INITIATOR, initiator),
       (F.NOC_ERR_CAP_DEST, dest), (F.NOC_ERR_CAP_OPC, opc)]
    rset s Reg.NOC_ERR_CODE (BitVec.ofNat 32 code)

/-- The module-wide counter of an ERR's code, where the table of NOC_ counters has one (R309). -/
def countCode (s : State) (code : Nat) : State :=
  if code = Code.DOMAIN_ASLEEP then nocCount s Reg.NOC_ASLEEP_CNT
  else if code = Code.UNMAPPED then nocCount s Reg.NOC_UNMAPPED_CNT
  else if code = Code.NOC_ROUTE_LOOP then nocCount s Reg.NOC_LOOP_CNT
  else s

/-- The latency of a request, in units of 4 ns. -/
def latencyOf (s : State) (t : NocTag) : Nat := (s.timeA - t.sent) / 2 ^ 30

/-- A response that carries no error frees its tag and is counted; one with an error frees it (R310, R319). -/
def tagDone (s : State) (node tag opc : Nat) (t : NocTag) : State :=
  let lat := latencyOf s t
  let s := setTag s node tag none
  let s := fset s (Reg.NOC_ST_LAT_MAX node) F.NOC_ST_LAT_MAX_COUNT
    (max (fget s (Reg.NOC_ST_LAT_MAX node) F.NOC_ST_LAT_MAX_COUNT) (min lat 0xFFFFFFFF))
  let s := statAdd64 s (Reg.NOC_ST_LAT_LO node) (Reg.NOC_ST_LAT_HI node) lat
  if opc = opRdresp then statAdd64 s (Reg.NOC_ST_RD_LO node) (Reg.NOC_ST_RD_HI node) t.len
  else if opc = opWrack then statAdd64 s (Reg.NOC_ST_WR_LO node) (Reg.NOC_ST_WR_HI node) t.len
  else s

/-- A request times out: its tag is quarantined (R310, R311). -/
def tagTimeout (s : State) (node tag : Nat) (t : NocTag) : State :=
  fadd (setTag s node tag (some { t with quarantined := true })) (Reg.NOC_ST_TMO node) F.NOC_ST_TMO_COUNT 1

/-- A response given to an initiator's client, and counted where it is an ERR (R310, R319). -/
def giveClient (s : State) (node tag opc code : Nat) (data : List Byte) : State :=
  let s := if opc = opErr then fadd s (Reg.NOC_ST_ERR node) F.NOC_ST_ERR_COUNT 1 else s
  { s with nocAnswers := s.nocAnswers ++ [⟨node, tag, opc, code, data⟩] }

end Sys2Proof.Machine
end

