-- ==== Sys2Proof/Machine/Hbm.lean ====
section
/-! DEFINITION. The HBM stacks (10): where a line lies, its encryption and tag, its key-generation bit, and the read of a line
under R279, which every reader shares. `State.mem` holds each line's plaintext under its NoC address; what the cells hold is
`storedLine` (assumption 78). -/

namespace Sys2Proof.Machine

/-! ## Stacks, pseudo-channels and lines (R272, R273, R276) -/

/-- The line of an address. -/
def lineOf (a : Nat) : Nat := a / 64 * 64

/-- The stack an HBM address lies in. -/
def stackOf (a : Nat) : Nat := a / 0x1000000000 % 4

/-- The number of a line within its stack. -/
def lineNo (a : Nat) : Nat := a % 0x1000000000 / 64

/-- The pseudo-channel of line `n`, and its index within the pseudo-channel. -/
def linePc (n : Nat) : Nat := n % 64
def lineIndex (n : Nat) : Nat := n / 64

/-- The raw bytes of a pseudo-channel by use: data lines, integrity tags of 24 bits, line metadata, relocation reserve. -/
def pcDataLines : Nat := 11796480
def pcDataBytes : Nat := 64 * pcDataLines
def pcTagBytes : Nat := 3 * pcDataLines
def pcMetaBytes : Nat := 2359296
def pcReserveBytes : Nat := 12 * 0x100000
def pcRawBytes : Nat := 768 * 0x100000

/-- A place in a stack: the data lines of a pseudo-channel, or the relocation reserves that hold the copy of a retired one. -/
inductive LinePlace where
  | home (pc index : Nat)
  | reserve (index : Nat)
deriving DecidableEq, Repr

/-- The lines of stack `d`'s retired pseudo-channel that its copy has reached. -/
def copiedTo (s : State) (d : Nat) : Nat := sget (fun _ => 0) s.copied d

/-- Line `n` of stack `d` lies in the retired pseudo-channel. -/
def lineRetired (s : State) (d n : Nat) : Bool :=
  fbit s (Reg.HBM_STATUS d) F.HBM_STATUS_RETIRED && decide (fget s (Reg.HBM_STATUS d) F.HBM_STATUS_RETIRED_PC = linePc n)

/-- Where a read of line `n` of stack `d` is served from (R276). -/
def servedFrom (s : State) (d n : Nat) : LinePlace :=
  if lineRetired s d n && decide (lineIndex n < copiedTo s d) then .reserve (lineIndex n) else .home (linePc n) (lineIndex n)

/-- Where a write of line `n` of stack `d` is made: in both places while the copy has not reached the line (R276). -/
def writtenTo (s : State) (d n : Nat) : List LinePlace :=
  if lineRetired s d n then
    (if lineIndex n < copiedTo s d then [.reserve (lineIndex n)]
     else [.home (linePc n) (lineIndex n), .reserve (lineIndex n)])
  else [.home (linePc n) (lineIndex n)]

/-! ## Key slots (R286, R287) -/

/-- Classes of R286. -/
def classKek : Nat := 0
def classCfg : Nat := 1
def classLine : Nat := 2
def classSector : Nat := 3

/-- A slot is live. -/
def slotLiveKey (s : State) (k : Nat) : Bool := fbit s (Reg.XTS_SLOT k) F.XTS_SLOT_LIVE

/-- The live slots of a partition's class, current or previous. -/
def keySlots (s : State) (p cls prev : Nat) : List Nat :=
  (List.range 64).filter fun k =>
    slotLiveKey s k && decide (fget s (Reg.XTS_SLOT k) F.XTS_SLOT_PARTITION = p) &&
    decide (fget s (Reg.XTS_SLOT k) F.XTS_SLOT_CLASS = cls) &&
    decide (fget s (Reg.XTS_SLOT k) F.XTS_SLOT_PREVIOUS = prev)

/-- The bytes of a key: 96 for a line or a sector key, K1, K2 and KM in turn; 32 for the others (R277, R284, R286). -/
def keyBytes (cls : Nat) (k : BitVec 768) : List Nat := natBE (if cls = classLine ∨ cls = classSector then 96 else 32) k.toNat

/-- The three parts of a line or sector key. -/
def keyK1 (k : BitVec 768) : List Nat := (keyBytes classLine k).take 32
def keyK2 (k : BitVec 768) : List Nat := ((keyBytes classLine k).drop 32).take 32
def keyKM (k : BitVec 768) : List Nat := (keyBytes classLine k).drop 64

/-- The key that a slot holds. -/
def slotKey (s : State) (k : Nat) : BitVec 768 := sget (fun _ => 0) s.keys k

/-- The key and the key ID of a partition's class, current or previous. -/
def liveKey (s : State) (p cls prev : Nat) : Option (BitVec 768 × Nat) :=
  (keySlots s p cls prev).head?.map fun k => (slotKey s k, fget s (Reg.XTS_SLOT k) F.XTS_SLOT_KEY_ID)

/-- The key and the class of a live key ID. -/
def keyById (s : State) (id : Nat) : Option (BitVec 768 × Nat × Nat) :=
  ((List.range 64).find? fun k =>
    slotLiveKey s k && decide (id ≠ 0) && decide (fget s (Reg.XTS_SLOT k) F.XTS_SLOT_KEY_ID = id)).map fun k =>
    (slotKey s k, fget s (Reg.XTS_SLOT k) F.XTS_SLOT_CLASS, fget s (Reg.XTS_SLOT k) F.XTS_SLOT_PARTITION)

/-! ## Line-class encryption (R277) -/

/-- The ciphertext of a line's 64 bytes at its NoC address. -/
def lineCipher (k : BitVec 768) (a : Nat) (p : List Nat) : List Nat := xtsEncrypt (keyK1 k) (keyK2 k) a p

/-- The integrity tag of a ciphertext at its NoC address under a key and its ID: the 24 most significant bits of the CMAC. -/
def lineTag (k : BitVec 768) (id a : Nat) (c : List Nat) : Nat :=
  beNat ((aesCmac (keyKM k) (c ++ natLE 8 a ++ natLE 2 id)).take 3)

/-- The stacks in which a partition has a carve. -/
def carveStacks (s : State) (p : Nat) : List Nat := (List.range 4).filter fun d => decide (carveCount s p d ≠ 0)

/-- Partition `p` rolls its line key. -/
def rolling (s : State) (p : Nat) : Bool := fbit s (Reg.PART_STATE p) F.PART_STATE_ROLLING

/-- The place of a line in the order of the re-key sweep: the stacks together, each line of the carve from its first unit on. -/
def sweepIndex (s : State) (p a : Nat) : Nat := lineNo a - lineNo (unitAddr 0 (carveFirst s p (stackOf a)))

/-- Line `a` of partition `p` shows the current generation: no roll is in progress, or the sweep or a write has reached it
(R289). -/
def lineCurrent (s : State) (p a : Nat) : Bool :=
  !rolling s p || decide (sweepIndex s p a < (getPart s p).swept) || (getPart s p).fresh.contains (lineOf a)

/-- The key-generation bit of a line: the parity of the generation it is encrypted under (R289). -/
def lineBit (s : State) (p a : Nat) : Bool :=
  decide (((getPart s p).lineGen + if lineCurrent s p a then 0 else 1) % 2 = 1)

/-- The key that a key-generation bit selects from a partition's current and previous line keys (R279). -/
def keyForBit (s : State) (p : Nat) (g : Bool) : Option (BitVec 768 × Nat) :=
  if g = decide ((getPart s p).lineGen % 2 = 1) then liveKey s p classLine 0 else liveKey s p classLine 1

/-- The line that the cells hold for an address: its plaintext encrypted under the key its bit names; none outside every carve,
where no key encrypts it. -/
def storedLine (s : State) (a : Nat) : Option RawLine :=
  match carveOwner s a with
  | some p =>
    (keyForBit s p (lineBit s p a)).map fun k =>
      let c := lineCipher k.1 (lineOf a) (ofBytes (memBytes s (lineOf a) 64))
      ⟨BitVec.ofNat 512 (leNumber c), BitVec.ofNat 24 (lineTag k.1 k.2 (lineOf a) c), lineBit s p a⟩
  | none => none

/-- A line that the cells return, decrypted where its tag verifies under the key its bit selects (R277 to R279). -/
def openLine (s : State) (a : Nat) (l : RawLine) : Option (List Byte) :=
  match carveOwner s a with
  | some p =>
    match keyForBit s p l.gen with
    | some k =>
      let c := natLE 64 l.cipher.toNat
      if lineTag k.1 k.2 (lineOf a) c = l.tag.toNat then some (toBytes (xtsDecrypt (keyK1 k.1) (keyK2 k.1) (lineOf a) c))
      else none
    | none => none
  | none => none

/-! ## The read of a line (R274, R279) -/

/-- A tag failure of a stack captured, the first since VALID was cleared. -/
def captureTag (s : State) (d line : Nat) (haltedBit : Bool) : State :=
  if fbit s (Reg.HBM_TAG_CAP d) F.HBM_TAG_CAP_VALID then s
  else fsets s (Reg.HBM_TAG_CAP d)
    [(F.HBM_TAG_CAP_VALID, 1), (F.HBM_TAG_CAP_HALTED, if haltedBit then 1 else 0), (F.HBM_TAG_CAP_LINE, line)]

/-- How the read of a line ends: well, in an uncorrectable error, or in the integrity halt. -/
inductive LineEnd where
  | ok | uncorrectable | halt
deriving DecidableEq, Repr

/-- A tag that failed at the first read and verified at the second (R279). -/
def countRetry (s : State) (a : Nat) : State :=
  captureTag (fadd s (Reg.HBM_TAG_RETRY_CNT (stackOf a)) F.HBM_TAG_RETRY_CNT_COUNT 1) (stackOf a) (lineNo a) false

/-- An uncorrectable error of a stack counted (R274). -/
def countUe (s : State) (a : Nat) : State := fadd s (Reg.HBM_UE_CNT (stackOf a)) F.HBM_UE_CNT_COUNT 1

/-- The read of the line of an HBM address, in the order of R279: what it counts and captures, and how it ends. A corrected line
is written back at once, which changes no value. Where the cells hold another line than was written and its tag verifies, that
line is what the address holds (R278). -/
def lineRead (s : State) (a : Nat) (r : LineRead) : State × LineEnd :=
  match r with
  | .clean => (s, .ok)
  | .corrected => (fadd s (Reg.HBM_CE_CNT (stackOf a)) F.HBM_CE_CNT_COUNT 1, .ok)
  | .uncorrectable => (countUe s a, .uncorrectable)
  | .tagRetry => (countRetry s a, .ok)
  | .tagFail => (s, .halt)
  | .tagLost => (countUe s a, .uncorrectable)
  | .raw f g =>
    match openLine s a f, g with
    | some bs, _ => (setMemBytes s (lineOf a) bs, .ok)
    | none, none => (countUe s a, .uncorrectable)
    | none, some l =>
      match openLine s a l with
      | some bs => (setMemBytes (countRetry s a) (lineOf a) bs, .ok)
      | none => (s, .halt)

/-- A write to HBM lines: each takes the current generation (R280, R289). -/
def noteFresh (s : State) (a n : Nat) : State :=
  match carveOwner s a with
  | some p =>
    if rolling s p then
      setPart s p { getPart s p with
        fresh := ((List.range ((a % 64 + n + 63) / 64)).map fun i => lineOf a + 64 * i).foldl
          (fun l x => if l.contains x then l else x :: l) (getPart s p).fresh }
    else s
  | none => s

/-- The lines of a partition's carve in each stack, the most in one: the length of a re-key sweep, whose stacks run in parallel. -/
def sweepLines (s : State) (p : Nat) : Nat := ((List.range 4).map fun d => carveCount s p d * 4194304).foldl max 0

/-- REKEY_PERMILLE of a roll in progress. -/
def rekeyPermille (s : State) (p : Nat) : Nat := min 1000 ((getPart s p).swept * 1000 / max (sweepLines s p) 1)

/-- A REFCLK period of the engines that run at up to 5 % of a stack's bandwidth, about 80 GB/s, which is 8 lines: the re-key
sweeps (R289) and the copies of retired pseudo-channels (R276, R389). -/
def hbmTick (s : State) : State :=
  let s := (List.range 16).foldl (fun s p =>
    if rolling s p then setPart s p { getPart s p with swept := (getPart s p).swept + 8 } else s) s
  (List.range 4).foldl (fun s d =>
    if fbit s (Reg.HBM_STATUS d) F.HBM_STATUS_COPYING then
      { s with copied := sset (fun _ => 0) s.copied d (min (copiedTo s d + 8) pcDataLines) }
    else s) s

end Sys2Proof.Machine
end

