-- ==== Sys2Proof/Machine/Operands.lean ====
section
/-! DEFINITION. The instruction word of a BP: its layouts (R38, R45, R46, R57, R65, R68), its decoder and encoder, the
illegal-encoding test of R72, and the operand sources of R40 to R43. -/

namespace Sys2Proof.Machine

/-! ## Decoding -/

/-- Bits `[hi:lo]` of an instruction word. -/
def bits (w : Slot) (hi lo : Nat) : BitVec (hi - lo + 1) := w.extractLsb hi lo

/-- Bit `i` of an instruction word. -/
def wbit (w : Slot) (i : Nat) : Bool := w.getLsbD i

/-- The operation of a WOP value (R59); none where it is reserved. -/
def wopOf (n : BitVec 5) : Option WordOp :=
  match n.toNat with
  | 0x00 => some .add | 0x01 => some .addc | 0x02 => some .sub | 0x03 => some .subb | 0x04 => some .cmp
  | 0x08 => some .sll | 0x09 => some .srl | 0x0A => some .sra | 0x0B => some .rol
  | 0x0C => some .sllv | 0x0D => some .srlv | 0x0E => some .srav
  | 0x10 => some .sel | 0x11 => some .mov | 0x14 => some .mulu | 0x15 => some .muls
  | _ => none

/-- The WOP value of an operation (R59). -/
def wopCode : WordOp → BitVec 5
  | .add => 0x00 | .addc => 0x01 | .sub => 0x02 | .subb => 0x03 | .cmp => 0x04
  | .sll => 0x08 | .srl => 0x09 | .sra => 0x0A | .rol => 0x0B
  | .sllv => 0x0C | .srlv => 0x0D | .srav => 0x0E
  | .sel => 0x10 | .mov => 0x11 | .mulu => 0x14 | .muls => 0x15

/-- The fields of a WORD instruction (R57). -/
def wordFields (w : Slot) : WordFields :=
  { af := bits w 56 47, bf := bits w 46 37, df := bits w 36 27, asrc := bits w 26 25, bsrc := bits w 24 23,
    imm5 := bits w 22 18, fw := wbit w 17, nwb := wbit w 16, csel := bits w 15 9 }

/-- A MEM instruction by its MOP (R65). -/
def decodeMem (w : Slot) : BpInstr :=
  match (bits w 60 57).toNat with
  | 0x0 => .drd (bits w 56 41) (bits w 40 31) (bits w 30 21) (wbit w 20) (bits w 19 13)
  | 0x1 => .dwr (bits w 56 41) (bits w 40 31) (bits w 30 21) (wbit w 20) (bits w 19 13) (bits w 12 3) (wbit w 2)
  | 0x2 => .ldsw (bits w 56 46) (bits w 45 36)
  | 0x3 => .stsw (bits w 56 46) (bits w 45 36) (wbit w 35) (bits w 34 28)
  | _ => .reserved

/-- A CTRL instruction by its COP (R68). -/
def decodeCtrl (w : Slot) : BpInstr :=
  match (bits w 60 56).toNat with
  | 0x00 => .nop
  | 0x01 => .setpg (bits w 5 0)
  | 0x02 => .brk (wbit w 7) (bits w 6 0)
  | 0x03 => .mark (bits w 23 8) (wbit w 7) (bits w 6 0)
  | 0x04 => .dfence
  | _ => .reserved

/-- The instruction a slot holds (R38). A reserved operation decodes to `reserved` (R72). -/
def decodeBp (w : Slot) : BpInstr :=
  match (bits w 63 62).toNat with
  | 0 => .lut (bits w 61 46) (bits w 45 37) (bits w 36 28) (bits w 27 19) (bits w 18 10) (wbit w 9) (wbit w 8)
  | 1 => .luts (bits w 61 46) (bits w 45 37) (bits w 36 28) (bits w 27 19) (wbit w 18) (wbit w 17) (bits w 15 0)
  | 2 =>
    match wopOf (bits w 61 57) with
    | some op => .word op (wordFields w)
    | none => .reserved
  | _ => if wbit w 61 then decodeCtrl w else decodeMem w

/-! ## Encoding -/

/-- The slot of an instruction, every reserved field 0 (R38 to R68). `reserved` is encoded as COP 0x1F. -/
def encodeBp : BpInstr → Slot
  | .lut tt a b c d sw dw =>
    0b00#2 ++ tt ++ a ++ b ++ c ++ d ++ BitVec.ofBool sw ++ BitVec.ofBool dw ++ 0#8
  | .luts tt a b c sw dw sa =>
    0b01#2 ++ tt ++ a ++ b ++ c ++ BitVec.ofBool sw ++ BitVec.ofBool dw ++ 0#1 ++ sa
  | .word op f =>
    0b10#2 ++ wopCode op ++ f.af ++ f.bf ++ f.df ++ f.asrc ++ f.bsrc ++ f.imm5 ++ BitVec.ofBool f.fw ++
      BitVec.ofBool f.nwb ++ f.csel ++ 0#9
  | .drd desc awf dwf wc wb => 0b110#3 ++ 0x0#4 ++ desc ++ awf ++ dwf ++ BitVec.ofBool wc ++ wb ++ 0#13
  | .dwr desc awf dwf wc wb mwf me =>
    0b110#3 ++ 0x1#4 ++ desc ++ awf ++ dwf ++ BitVec.ofBool wc ++ wb ++ mwf ++ BitVec.ofBool me ++ 0#2
  | .ldsw swa dwf => 0b110#3 ++ 0x2#4 ++ swa ++ dwf ++ 0#36
  | .stsw swa swf wc wb => 0b110#3 ++ 0x3#4 ++ swa ++ swf ++ BitVec.ofBool wc ++ wb ++ 0#28
  | .nop => 0b111#3 ++ 0x00#5 ++ 0#56
  | .setpg page => 0b111#3 ++ 0x01#5 ++ 0#50 ++ page
  | .brk u i => 0b111#3 ++ 0x02#5 ++ 0#48 ++ BitVec.ofBool u ++ i
  | .mark tag u i => 0b111#3 ++ 0x03#5 ++ 0#32 ++ tag ++ BitVec.ofBool u ++ i
  | .dfence => 0b111#3 ++ 0x04#5 ++ 0#56
  | .reserved => 0b111#3 ++ 0x1F#5 ++ 0#56

/-! ## Illegal encodings (R72) -/

/-- A selector that R40 or R42 leaves reserved. -/
def selIllegal (sel : BitVec 9) : Bool :=
  let n := sel.toNat
  if 0x100 ≤ n then false
  else if n < 0xA0 then false
  else if n < 0xC0 then true
  else
    let k := n - 0xC0
    !(decide (k ≤ 2) || decide (4 ≤ k ∧ k ≤ 8) || decide (0x20 ≤ k))

/-- A slot holds a reserved operation, selector or source, or a non-zero reserved field (R72). -/
def slotIllegal (w : Slot) : Bool :=
  match decodeBp w with
  | .lut _ a b c d _ _ => selIllegal a || selIllegal b || selIllegal c || selIllegal d || decide (bits w 7 0 ≠ 0)
  | .luts _ a b c _ _ _ => selIllegal a || selIllegal b || selIllegal c || wbit w 16
  | .word _ f =>
    decide (f.asrc = 3) || decide (bits w 8 0 ≠ 0) || (decide (f.asrc = 1) && decide (f.af.toNat / 4 ≠ 0)) ||
      (decide (f.bsrc = 3) && decide (f.bf.toNat / 4 ≠ 0))
  | .drd .. => decide (bits w 12 0 ≠ 0)
  | .dwr .. => decide (bits w 1 0 ≠ 0)
  | .ldsw .. => decide (bits w 35 0 ≠ 0)
  | .stsw .. => decide (bits w 27 0 ≠ 0)
  | .nop | .dfence => decide (bits w 55 0 ≠ 0)
  | .setpg _ => decide (bits w 55 6 ≠ 0)
  | .brk .. => decide (bits w 55 8 ≠ 0)
  | .mark .. => decide (bits w 55 24 ≠ 0)
  | .reserved => true

/-! ## Stores of a cluster -/

/-- The physical BP that executes for logical BP `b` (R74). -/
def physBp (k : Cluster) (b : Nat) : Nat := if k.spareFor = some b then 32 else b

/-- The NoC address of an instruction slot (R30). -/
def slotAddr (c : ClusterId) (phys slot : Nat) : Nat := clusterBase c + 0x10000 * phys + 8 * slot

/-- The instruction word of a slot. -/
def slotWord (s : State) (c : ClusterId) (phys slot : Nat) : Slot := BitVec.ofNat 64 (memLE s (slotAddr c phys slot) 8)

/-- The base of a cluster's state memory (R30). -/
def stateBase (c : ClusterId) : Nat := clusterBase c + 0x300000

/-- The base of logical BP `b`'s data memory (R51). -/
def dataBase (c : ClusterId) (b : Nat) : Nat := clusterBase c + 0x310000 + 0x800 * b

/-- The NoC address of a word-file entry (R30). -/
def wfAddr (c : ClusterId) (e : Nat) : Nat := clusterBase c + 0x320000 + 4 * e

/-- A word-file entry. -/
def wfGet (s : State) (c : ClusterId) (e : Nat) : Word := BitVec.ofNat 32 (memLE s (wfAddr c e) 4)

/-- A word-file entry written. -/
def wfSet (s : State) (c : ClusterId) (e : Nat) (v : Word) : State := setMemLE s (wfAddr c e) 4 v.toNat

/-! ## The window (R40, R41) -/

/-- The results of the stitch `age` + 1 before the present one; 0 before stitch 0, because the window is cleared at the
start of the sweep (R41). -/
def windowAge (k : Cluster) (age : Nat) : Word :=
  match age with
  | 0 => k.win0
  | 1 => k.win1
  | 2 => k.win2
  | _ => k.win3

/-- The bit that a 7-bit window index names: logical BP [4:0] at age [6:5] (R40). -/
def windowBit (k : Cluster) (i : BitVec 7) : Bool := (windowAge k (i.toNat / 32)).getLsbD (i.toNat % 32)

/-! ## Warp input slots (R109 to R111) -/

/-- The base of a cluster's Warp schedule memory within `State.wsched` (R107). -/
def wsBase (c : ClusterId) : Nat := c.idx * 0x20000

/-- Bit `j` of row `r` of SEND. -/
def sendBit (s : State) (c : ClusterId) (r j : Nat) : Bool :=
  (sget memDefault s.wsched (wsBase c + 4 * r + j / 8)).getLsbD (j % 8)

/-- Bit `j` of row `r` of POP. -/
def popBit (s : State) (c : ClusterId) (r j : Nat) : Bool :=
  (sget memDefault s.wsched (wsBase c + 0x8000 + 4 * r + j / 8)).getLsbD (j % 8)

/-- ACCEPT bit `p` of input slot `j`. -/
def acceptBit (s : State) (c : ClusterId) (j p : Nat) : Bool :=
  (sget memDefault s.wsched (wsBase c + 0x10000 + 0x400 * j + p / 8)).getLsbD (p % 8)

/-- The producer stitches that input slot `j` accepts, in order (R110). -/
def acceptList (s : State) (c : ClusterId) (j : Nat) : List Nat :=
  (sslice s.wsched (wsBase c + 0x10000 + 0x400 * j) (wsBase c + 0x10000 + 0x400 * (j + 1))).flatMap fun cell =>
    ((List.range 8).filter fun i => cell.2.getLsbD i).map fun i =>
      8 * (cell.1 - (wsBase c + 0x10000 + 0x400 * j)) + i

/-- SWITCH entry `n` of a position (R115). -/
def switchEntry (s : State) (c : ClusterId) (n : Nat) : Nat := sreadLE memDefault s.wsched (wsBase c + 0x18000 + 2 * n) 2

/-- The queue of input slot `j`. -/
def queueOf (k : Cluster) (j : Nat) : List QueueEntry := sget (fun _ => []) k.queues j

/-- The producer stitch of the expected value of slot `j`: the earliest accepted value not yet removed in this ecycle
(R110). -/
def expectedStitch (s : State) (c : ClusterId) (k : Cluster) (j : Nat) : Option Nat :=
  (acceptList s c j)[sget (fun _ => 0) k.popped j]?

/-- A tag of R80: the producer's stitch and the parity of its ecycle. -/
def tagOf (stitch parity : Nat) : Nat := stitch % 8192 + 8192 * (parity % 2)

/-- What a read of an input slot finds (R81, R84, R110). -/
inductive SlotRead where
  | ready (v : Bool)
  | empty
  | fault (expected received : Nat)
deriving DecidableEq, Repr

/-- A read of input slot `j` at the cluster's present stitch (R110). -/
def readSlot (s : State) (c : ClusterId) (k : Cluster) (j : Nat) : SlotRead :=
  match queueOf k j with
  | [] => .empty
  | h :: _ =>
    match expectedStitch s c k j with
    | none => .fault 0 (tagOf h.stitch h.parity)
    | some p =>
      if h.stitch = p ∧ h.parity % 2 = k.ecycle % 2 then .ready h.value
      else .fault (tagOf p k.ecycle) (tagOf h.stitch h.parity)

/-! ## General operands (R40, R42) -/

/-- The value of a special operand (R42); a reserved one reads as 0 (R72). -/
def specialValue (k : Cluster) (n : Nat) : Bool :=
  if 0x20 ≤ n then k.wr.getLsbD (n - 0x20)
  else match n with
    | 0x01 => true
    | 0x02 => decide (k.ecycle = 0)
    | 0x04 => k.flags.z
    | 0x05 => k.flags.n
    | 0x06 => k.flags.c
    | 0x07 => k.flags.v
    | 0x08 => k.flags.n != k.flags.v
    | _ => false

/-- The value of a general operand of logical BP `b` (R40). A reserved selector reads as 0 (R72); so does a slot that holds
no expected value, which a stitch never reads. -/
def operandBit (s : State) (c : ClusterId) (k : Cluster) (b : Nat) (sel : BitVec 9) : Bool :=
  let n := sel.toNat
  if 0x100 ≤ n then memBit s (dataBase c b) (sget (fun _ => 0) k.dpage b * 256 + n % 256)
  else if n < 0x80 then (windowAge k (n / 32)).getLsbD (n % 32)
  else if n < 0xA0 then
    match readSlot s c k (n - 0x80) with
    | .ready v => v
    | _ => false
  else if n < 0xC0 then false
  else specialValue k (n - 0xC0)

/-- The last complete value of the ecycle before: a state bit as LUTS and LDSW read it (R16, R54). -/
def stateBit (s : State) (c : ClusterId) (a : Nat) : Bool := memBit s (stateBase c) a

/-! ## Interlocks (R81) -/

/-- An issue key is above another (R64). -/
def keyLt (a b : IssueKey) : Bool :=
  decide (a.ecycle < b.ecycle) || (decide (a.ecycle = b.ecycle) &&
    (decide (a.stitch < b.stitch) || (decide (a.stitch = b.stitch) && decide (a.bp < b.bp))))

/-- A key is above the key of the last write kept, or none was kept. -/
def keyAfter (old : Option IssueKey) (k : IssueKey) : Bool :=
  match old with
  | none => true
  | some o => keyLt o k

/-- A result issued before the present stitch: what a stitch waits for and reads comes from earlier stitches only, whichever of
its own BPs have run (R61, R70). -/
def earlier (k : Cluster) (p : PendingWrite) : Bool :=
  decide (p.key.ecycle ≠ k.ecycle) || decide (p.key.stitch ≠ k.stitch)

/-- The results issued before the present stitch and not yet complete. -/
def waitedFor (k : Cluster) : List PendingWrite := k.pend.filter (earlier k)

/-- WR waits: the last earlier issue that writes it has not completed (R61). -/
def wrBusy (k : Cluster) : Bool := (waitedFor k).any fun p => p.wr && keyAfter k.wrKey p.key

/-- FZ or FN waits (R61). -/
def znBusy (k : Cluster) : Bool := (waitedFor k).any fun p => p.zn.isSome && keyAfter k.znKey p.key

/-- FC or FV waits (R61). -/
def cvBusy (k : Cluster) : Bool := (waitedFor k).any fun p => p.cv.isSome && keyAfter k.cvKey p.key

/-- Stall causes of R95. -/
def causeWarp : Nat := 0
def causeWord : Nat := 1
def causeDmem : Nat := 2
def causeSlack : Nat := 3
def causeGate : Nat := 4
def causeCredit : Nat := 5
def causeSeam : Nat := 6
def causeRepair : Nat := 7

/-- The write of an entry comes from a design-memory read (R81). -/
def fromDmem (p : PendingWrite) : Bool := decide (p.port = .pocket) || decide (p.port = .hbm)

/-- What a read of word-file entry `e` waits on (R62, R81). -/
def wfWaits (k : Cluster) (e : Nat) : List Nat :=
  let ps := (waitedFor k).filter fun p => decide (p.entry = some e)
  (if ps.any (fun p => !fromDmem p) then [causeWord] else []) ++ (if ps.any fromDmem then [causeDmem] else [])

/-- A word stitch or LDSW whose destination awaits a design-memory return waits under DMEM (R138). -/
def destWaits (k : Cluster) (e : Nat) : List Nat :=
  if (waitedFor k).any (fun p => fromDmem p && decide (p.entry = some e)) then [causeDmem] else []

/-- What a general operand waits on. `seam j`: input slot `j` is fed by a Seam port (R81). -/
def operandWaits (s : State) (c : ClusterId) (k : Cluster) (seam : Nat → Bool) (sel : BitVec 9) : List Nat :=
  let n := sel.toNat
  if 0x80 ≤ n ∧ n < 0xA0 then
    match readSlot s c k (n - 0x80) with
    | .empty => [if seam (n - 0x80) then causeSeam else causeWarp]
    | _ => []
  else if 0xC4 ≤ n ∧ n ≤ 0xC5 then (if znBusy k then [causeWord] else [])
  else if 0xC6 ≤ n ∧ n ≤ 0xC7 then (if cvBusy k then [causeWord] else [])
  else if n = 0xC8 then (if znBusy k || cvBusy k then [causeWord] else [])
  else if 0xE0 ≤ n ∧ n < 0x100 then (if wrBusy k then [causeWord] else [])
  else []

/-- The tag fault a general operand meets, as (slot, expected tag, received tag) (R84). -/
def operandFault (s : State) (c : ClusterId) (k : Cluster) (sel : BitVec 9) : Option (Nat × Nat × Nat) :=
  let n := sel.toNat
  if 0x80 ≤ n ∧ n < 0xA0 then
    match readSlot s c k (n - 0x80) with
    | .fault e r => some (n - 0x80, e, r)
    | _ => none
  else none

end Sys2Proof.Machine
end

