-- ==== Sys2Proof/Machine/Flags.lean ====
section
/-! DEFINITION. The word operations' results and flag effects (R59). Operands become integers, the result is computed
exactly and narrowed once. -/

namespace Sys2Proof.Machine

/-- What a word operation yields: its result, FC and FV where it sets them. -/
structure WordResult where
  value : Word
  cv    : Option (Bool × Bool)
deriving DecidableEq, Repr

/-- A signed value lies outside 32 bits. -/
def signedOverflow (i : Int) : Bool := decide (i < -2147483648) || decide (2147483647 < i)

/-- A + B + carry: carry out of bit 31 and signed overflow (R59). -/
def addResult (a b : Word) (ci : Bool) : WordResult :=
  let n := a.toNat + b.toNat + ci.toNat
  { value := BitVec.ofNat 32 n,
    cv := some (decide (2 ^ 32 ≤ n), signedOverflow (a.toInt + b.toInt + ci.toNat)) }

/-- A - B - borrow: borrow and signed overflow (R59). -/
def subResult (a b : Word) (bi : Bool) : WordResult :=
  { value := BitVec.ofInt 32 ((a.toNat : Int) - b.toNat - bi.toNat),
    cv := some (decide (a.toNat < b.toNat + bi.toNat), signedOverflow (a.toInt - b.toInt - bi.toNat)) }

/-- A << n: FC is the last bit shifted out, 0 if the amount is 0 (R59). -/
def sllResult (a : Word) (n : Nat) : WordResult :=
  { value := a <<< n, cv := some (decide (n ≠ 0) && a.getLsbD (32 - n), false) }

/-- A >> n with zero fill (R59). -/
def srlResult (a : Word) (n : Nat) : WordResult :=
  { value := a >>> n, cv := some (decide (n ≠ 0) && a.getLsbD (n - 1), false) }

/-- A >> n with sign fill (R59). -/
def sraResult (a : Word) (n : Nat) : WordResult :=
  { value := a.sshiftRight n, cv := some (decide (n ≠ 0) && a.getLsbD (n - 1), false) }

/-- A rotated left by n: FC is bit 0 of the result (R59). -/
def rolResult (a : Word) (n : Nat) : WordResult :=
  { value := a.rotateLeft n, cv := some ((a.rotateLeft n).getLsbD 0, false) }

/-- The result of a word operation on A and B, with FC as its carry in and the SEL condition (R59). CMP's value is A - B,
which sets the flags and is written nowhere. -/
def wordResult (op : WordOp) (a b : Word) (fc : Bool) (imm : Nat) (cond : Bool) : WordResult :=
  match op with
  | .add => addResult a b false
  | .addc => addResult a b fc
  | .sub => subResult a b false
  | .subb => subResult a b fc
  | .cmp => subResult a b false
  | .sll => sllResult a imm
  | .srl => srlResult a imm
  | .sra => sraResult a imm
  | .rol => rolResult a imm
  | .sllv => sllResult a (b.toNat % 32)
  | .srlv => srlResult a (b.toNat % 32)
  | .srav => sraResult a (b.toNat % 32)
  | .sel => { value := if cond then a else b, cv := none }
  | .mov => { value := a, cv := none }
  | .mulu => { value := BitVec.ofNat 32 ((a.toNat % 65536) * (b.toNat % 65536)), cv := some (false, false) }
  | .muls =>
    { value := BitVec.ofInt 32 ((a.setWidth 16).toInt * (b.setWidth 16).toInt), cv := some (false, false) }

/-- FZ and FN of a result (R59). -/
def znOf (w : Word) : Bool × Bool := (decide (w = 0), w.getLsbD 31)

/-- An operation that reads FC. -/
def usesCarry (op : WordOp) : Bool := decide (op = .addc) || decide (op = .subb)

/-- An operation that reads operand B. SLL to ROL and MOV read A alone. -/
def usesB (op : WordOp) : Bool :=
  !(decide (op = .sll) || decide (op = .srl) || decide (op = .sra) || decide (op = .rol) || decide (op = .mov))

/-- The latency of a word operation, in stitches (R60). -/
def wordLatency (st : Stepping) (op : WordOp) : Nat :=
  match op with
  | .add | .addc | .sub | .subb | .cmp | .sel | .mov => 1
  | .sll | .srl | .sra | .rol | .sllv | .srlv | .srav => (match st with | .a0 => 2 | .b0 => 1)
  | .mulu | .muls => (match st with | .a0 => 4 | .b0 => 3)

end Sys2Proof.Machine
end

