-- ==== Sys2Proof/Machine/DesignMem.lean ====
section
/-! DEFINITION. Design memory (05): descriptors, the run-time checks of R134, element addresses, the accesses a DRD or DWR
makes, HBM returns and acknowledgements, error responses, the fill unit and the DMEM_ registers' own writes. -/

namespace Sys2Proof.Machine

/-! ## Descriptors (R129) -/

/-- Bits `[hi:lo]` of word `n` of a descriptor. -/
def descBits (d : BitVec 128) (n hi lo : Nat) : Nat := (d.toNat >>> (32 * n + lo)) % 2 ^ (hi + 1 - lo)

def descValid (d : BitVec 128) : Bool := decide (descBits d 0 31 31 = 1)
def descKind (d : BitVec 128) : Nat := descBits d 0 30 29
def descRo (d : BitVec 128) : Bool := decide (descBits d 0 28 28 = 1)
def descElem (d : BitVec 128) : Nat := descBits d 0 27 25
def descWidth (d : BitVec 128) : Nat := descBits d 0 24 20 + 1
def descOwnerCol (d : BitVec 128) : Nat := descBits d 0 19 14
def descOwnerRow (d : BitVec 128) : Nat := descBits d 0 13 9
def descDepthM1 (d : BitVec 128) : Nat := descBits d 1 31 0
def descBankFirst (d : BitVec 128) : Nat := descBits d 2 10 0
def descBankCountM1 (d : BitVec 128) : Nat := descBits d 2 26 16

/-- The element size in bits (R129). -/
def descElemBits (d : BitVec 128) : Nat := 2 ^ descElem d

/-- The base NoC address of an HBM descriptor (R129). -/
def descHbmBase (d : BitVec 128) : Nat := descBits d 3 15 0 * 2 ^ 32 + descBits d 2 31 0 / 64 * 64

/-- A descriptor on Pocket. -/
def descPocket (d : BitVec 128) : Bool := decide (descKind d = 0)

/-- Reserved bits set, or a reserved KIND or ELEM (R151). -/
def descReserved (d : BitVec 128) : Bool :=
  decide (2 ≤ descKind d) || decide (6 ≤ descElem d) || decide (descBits d 0 8 0 ≠ 0) ||
  decide (descBits d 3 31 16 ≠ 0) ||
  (if descPocket d then
     decide (descBits d 2 31 27 ≠ 0) || decide (descBits d 2 15 11 ≠ 0) || decide (descBits d 3 15 0 ≠ 0)
   else decide (descBits d 2 5 0 ≠ 0))

/-- The encoding check of R132 and R134: no reserved value, and WIDTH within the element size. -/
def descEncodingBad (d : BitVec 128) : Bool := descReserved d || decide (descElemBits d < descWidth d)

/-- An entry of die `i`'s table. -/
def descGet (s : State) (i n : Nat) : BitVec 128 := sget (fun _ => 0) (getDie s i).descs n

/-- The bank that element `a` lies in (R130). -/
def descBank (d : BitVec 128) (a : Nat) : Nat := descBankFirst d + a * descElemBits d / 32 / 8192

/-- The first check of R134 that an operation of cluster `c` at element `a` fails, as the KIND of DMEM_FAULT.
An element above DEPTH_M1 is no fault whatever its bank: R139 tests the range before the bank, R134's order does not name it
(DESIGN CHOICE, assumption 94). -/
def descCheck (s : State) (c : ClusterId) (d : BitVec 128) (a : Nat) : Option Nat :=
  if !descValid d then some 0
  else if ¬ (descOwnerCol d = c.col.val ∧ descOwnerRow d = c.row.val) then some 1
  else if descEncodingBad d then some 2
  else if descPocket d && decide (a ≤ descDepthM1 d) &&
      !(decide (descBank d a ≤ descBankFirst d + descBankCountM1 d) && decide (descBank d a ≤ 2047) &&
        (match partOf s c with
         | some p => bankInCarve s p c.die.val (descBank d a)
         | none => false)) then some 5
  else none

/-! ## Element accesses (R130, R131) -/

/-- The NoC address of Pocket bank `b`, row 0, of die `i` (R149). -/
def pocketAddr (i b : Nat) : Nat := 0x010000000000 + 0x1000000000 * i + 0x8000 * b

/-- The NoC address at which a descriptor's memory starts. -/
def descBase (i : Nat) (d : BitVec 128) : Nat :=
  if descPocket d then pocketAddr i (descBankFirst d) else descHbmBase d

/-- The element of `e` bits at bit offset `x` from `base`. -/
def elemRead (s : State) (base x e : Nat) : Nat :=
  if e < 8 then (memByte s (base + x / 8)).toNat >>> (x % 8) % 2 ^ e else memLE s (base + x / 8) (e / 8)

/-- The element of `e` bits at bit offset `x` from `base` set to `v`. -/
def elemWrite (s : State) (base x e v : Nat) : State :=
  if e < 8 then
    let b := (memByte s (base + x / 8)).toNat
    let old := b >>> (x % 8) % 2 ^ e
    setMemLE s (base + x / 8) 1 (b - old * 2 ^ (x % 8) + v % 2 ^ e * 2 ^ (x % 8))
  else setMemLE s (base + x / 8) (e / 8) v

/-- The low `width` bits of a word. -/
def lowBits (w : Word) (width : Nat) : Word := BitVec.ofNat 32 (w.toNat % 2 ^ width)

/-- A DRD's value: the element's low WIDTH bits, zero-extended (R131). -/
def readElem (s : State) (i : Nat) (d : BitVec 128) (a : Nat) : Word :=
  lowBits (BitVec.ofNat 32 (elemRead s (descBase i d) (a * descElemBits d) (descElemBits d))) (descWidth d)

/-- A DWR's effect: WIDTH bits of the source, those at 1 in the mask; element bits at WIDTH and above become 0 (R131). -/
def writeElem (s : State) (i : Nat) (d : BitVec 128) (a : Nat) (data mask : Word) : State :=
  let old : Word := BitVec.ofNat 32 (elemRead s (descBase i d) (a * descElemBits d) (descElemBits d))
  let new := lowBits ((old &&& ~~~ mask) ||| (data &&& mask)) (descWidth d)
  elemWrite s (descBase i d) (a * descElemBits d) (descElemBits d) new.toNat

/-! ## The undo log (R382) -/

/-- An early checkpoint asked for: at the lowest multiple of 4,096 that is at least n + 2, or n + 2 + D across modules (R207,
R380). -/
def askCkpt (s : State) (p : Nat) : State :=
  let x := getPart s p
  if x.ckptGate.isSome then s
  else setPart s p { x with ckptGate := some ((x.completed + 2 + x.diameter + 4095) / 4096 * 4096) }

/-- The first write of an epoch to a line of partition `p` appends the line's record (R382), of the previous key generation where a
roll has not reached the line yet (R289). -/
def undoAppend (s : State) (p a : Nat) : State :=
  let x := getPart s p
  if x.undo.any (fun r => decide (r.1 = lineOf a)) then s
  else
    let x := { x with undo := (lineOf a, memBytes s (lineOf a) 64) :: x.undo, undoOld := x.undoOld || !lineCurrent s p a }
    let s := setPart s p x
    if oget s (Od.UNDO_MIB p) * 8192 * 3 ≤ x.undo.length * 4 then askCkpt s p else s

/-- The records that fill an undo log of OD 6p49.03 UNDO_MIB, 128 bytes each (R382). -/
def undoFull (s : State) (p : Nat) : Bool := decide (oget s (Od.UNDO_MIB p) * 8192 ≤ (getPart s p).undo.length)

/-! ## Faults and counters -/

/-- DMEM_FAULT and DMEM_FAULT_SRC capture an operation while VALID is 0 (R134, R146). -/
def captureDmem (s : State) (c : ClusterId) (key : IssueKey) (desc kind : Nat) : State :=
  let i := c.die.val
  if fbit s (Reg.DMEM_FAULT i) F.DMEM_FAULT_VALID then s
  else
    let s := fsets s (Reg.DMEM_FAULT i)
      [(F.DMEM_FAULT_VALID, 1), (F.DMEM_FAULT_KIND, kind), (F.DMEM_FAULT_DESC, desc)]
    let s := fsets s (Reg.DMEM_FAULT_SRC i)
      [(F.DMEM_FAULT_SRC_COLUMN, c.col.val), (F.DMEM_FAULT_SRC_ROW, c.row.val), (F.DMEM_FAULT_SRC_BP, key.bp),
       (F.DMEM_FAULT_SRC_STITCH, key.stitch)]
    if kind = 3 ∨ kind = 4 then s
    else
      logRecord s 5 (Config.severity Code.DESC_INVALID_USE).val ((partOf s c).getD modulePart) Code.DESC_INVALID_USE
        (clusterBase c) [kind, key.bp, key.stitch, desc]

/-- HBM operations in flight from one cluster. -/
def hbmOutCluster (s : State) (c : ClusterId) : Nat :=
  ((getDie s c.die.val).ops.filter fun o => decide (o.cluster = c.idx)).length

/-- HBM operations in flight from one die's engine. -/
def hbmOutDie (s : State) (i : Nat) : Nat := (getDie s i).ops.length

/-- The engine's counters after a change of the operations in flight (DMEM_STATUS.HBM_OUT, DMEM_HBM_PEAK). -/
def refreshHbmOut (s : State) (i : Nat) : State :=
  let n := hbmOutDie s i
  let s := fset s (Reg.DMEM_STATUS i) F.DMEM_STATUS_HBM_OUT n
  if fget s (Reg.DMEM_HBM_PEAK i) F.DMEM_HBM_PEAK_PEAK < n then
    fset s (Reg.DMEM_HBM_PEAK i) F.DMEM_HBM_PEAK_PEAK n else s

/-- Transactions in flight at stack `h`, from every initiator: the requests outstanding to its ports, and the design-memory
operations that still wait for a tag (HBM_STATUS.OUT, R144). -/
def stackOut (s : State) (h : Nat) : Nat :=
  (s.nocTags.filter fun e => match e.2 with
    | some t => !t.quarantined && decide (t.dest / 0x20 = h) && decide (0x10 ≤ t.dest % 0x20)
    | none => false).length +
  ((List.range 4).map fun d =>
    ((getDie s d).ops.filter fun o => o.tag.isNone && isHbm o.addr && decide (stackOf o.addr = h)).length).sum

/-! ## Issue (R135 to R143) -/

/-- A cluster's pending write added. -/
def addPending (s : State) (c : ClusterId) (p : PendingWrite) : State :=
  let k := getCl s c.idx
  setCl s c.idx { k with pend := k.pend ++ [p] }

/-- The block node of a cluster: the initiator of its design-memory requests (R297). -/
def blockNode (c : ClusterId) : Nat := 0x20 * c.die.val + 4 * (c.row.val / 8) + min c.col.val 31 / 8

/-- The lowest tag of a node that is not in use. -/
def freeTag (s : State) (node : Nat) : Option Nat := (List.range 1024).find? fun t => (getTag s node t).isNone

/-- The request of an operation sent into the network under a tag of its block node, for its whole line (R143, R307, R319); an
address in no range of R27 is answered at the node and takes no tag (R298). -/
def sendOp (s : State) (c : ClusterId) (o : DmemOp) : State × Option Nat :=
  let n := blockNode c
  match nocDest o.addr, freeTag s n with
  | some d, some t =>
    let s := setTag s n t (some { opc := if o.write then opWrm else opRd, dest := d, len := 64, sent := s.timeA })
    let s := fadd s (Reg.NOC_ST_REQ n) F.NOC_ST_REQ_COUNT 1
    (fset s (Reg.NOC_ST_OUT n) F.NOC_ST_OUT_PEAK (max (fget s (Reg.NOC_ST_OUT n) F.NOC_ST_OUT_PEAK) (tagsOut s n true)), some t)
  | _, _ => (s, none)

/-- An HBM operation put in flight (R143, R144). -/
def launchHbm (s : State) (c : ClusterId) (o : DmemOp) : State :=
  let r := sendOp s c o
  let x := getDie r.1 c.die.val
  refreshHbmOut (setDie r.1 c.die.val { x with ops := x.ops ++ [{ o with tag := r.2 }] }) c.die.val

/-- The NoC address of the first byte of element `a` of an HBM descriptor (R130). -/
def elemAddr (d : BitVec 128) (a : Nat) : Nat := descHbmBase d + a * descElemBits d / 8

/-- The Pocket read distance P of the stepping (R142). -/
def pocketDistance : Nat :=
  match Config.stepping with
  | .a0 => 3
  | .b0 => 4

/-- A DRD issued with its address read (R134, R135, R139, R142, R143). -/
def issueRead (s : State) (c : ClusterId) (key : IssueKey) (n a entry : Nat) : State :=
  let i := c.die.val
  let d := descGet s i n
  let zero : PendingWrite :=
    { key := key, port := .pocket, entry := some entry, value := 0, wr := false, zn := none, cv := none,
      lat := pocketDistance }
  match descCheck s c d a with
  | some kind => addPending (captureDmem s c key n kind) c zero
  | none =>
    if descDepthM1 d < a then addPending (fadd s (Reg.DMEM_OOR_CNT i) F.DMEM_OOR_CNT_COUNT 1) c zero
    else if descPocket d then addPending s c { zero with value := readElem s i d a }
    else
      launchHbm (addPending s c { zero with port := .hbm }) c
        { cluster := c.idx, key := key, desc := n, addr := elemAddr d a, tag := none, elem := a, write := false,
          data := 0, mask := 0 }

/-- A DWR issued with its operands read (R134, R135, R139, R143). -/
def issueWrite (s : State) (c : ClusterId) (key : IssueKey) (n a : Nat) (data mask : Word) : State :=
  let i := c.die.val
  let d := descGet s i n
  match descCheck s c d a with
  | some kind => captureDmem s c key n kind
  | none =>
    if descDepthM1 d < a then fadd s (Reg.DMEM_OOR_CNT i) F.DMEM_OOR_CNT_COUNT 1
    else if descRo d then fadd s (Reg.DMEM_RO_WR_CNT i) F.DMEM_RO_WR_CNT_COUNT 1
    else if descPocket d then writeElem s i d a data mask
    else
      launchHbm s c
        { cluster := c.idx, key := key, desc := n, addr := elemAddr d a, tag := none, elem := a, write := true,
          data := data, mask := mask }

/-! ## Returns through W1 (R63, R64, R138) -/

/-- A completed write put into the word file, WR and the flags, each only where no higher issue key has been there
(R61, R64). -/
def landWrite (s : State) (c : ClusterId) (p : PendingWrite) : State :=
  let k := getCl s c.idx
  let keep := match p.entry with
    | some e => keyAfter (sget (fun _ => none) k.wfKey e) p.key
    | none => false
  let k := { k with
    pend := k.pend.erase p,
    wfKey := (match p.entry with
      | some e => if keep then sset (fun _ => none) k.wfKey e (some p.key) else k.wfKey
      | none => k.wfKey),
    wr := if p.wr && keyAfter k.wrKey p.key then p.value else k.wr,
    wrKey := if p.wr && keyAfter k.wrKey p.key then some p.key else k.wrKey,
    flags := (match p.zn, p.cv with
      | some (z, n), some (cc, v) =>
        { z := if keyAfter k.znKey p.key then z else k.flags.z, n := if keyAfter k.znKey p.key then n else k.flags.n,
          c := if keyAfter k.cvKey p.key then cc else k.flags.c, v := if keyAfter k.cvKey p.key then v else k.flags.v }
      | some (z, n), none =>
        { k.flags with
          z := if keyAfter k.znKey p.key then z else k.flags.z, n := if keyAfter k.znKey p.key then n else k.flags.n }
      | none, some (cc, v) =>
        { k.flags with
          c := if keyAfter k.cvKey p.key then cc else k.flags.c, v := if keyAfter k.cvKey p.key then v else k.flags.v }
      | none, none => k.flags),
    znKey := if p.zn.isSome && keyAfter k.znKey p.key then some p.key else k.znKey,
    cvKey := if p.cv.isSome && keyAfter k.cvKey p.key then some p.key else k.cvKey }
  let s := setCl s c.idx k
  match p.entry with
  | some e => if keep then wfSet s c e p.value else s
  | none => s

/-- The pending write that an issue key names, from one port. -/
def findPending (k : Cluster) (port : WbPort) (key : IssueKey) : Option PendingWrite :=
  k.pend.find? fun p => decide (p.port = port) && decide (p.key = key)

/-- An earlier-issued design-memory return of the same entry is still pending (R138). -/
def earlierReturn (k : Cluster) (p : PendingWrite) : Bool :=
  k.pend.any fun q => fromDmem q && decide (q.entry = p.entry) && keyLt q.key p.key

/-- An operation of the cluster with a lower key on the same line is still in flight (R135, R308). -/
def earlierOp (x : Die) (o : DmemOp) : Bool :=
  x.ops.any fun q => decide (q.cluster = o.cluster) && decide (lineOf q.addr = lineOf o.addr) && keyLt q.key o.key

/-- The operation in flight that a cluster and an issue key name. -/
def findOp (x : Die) (c : ClusterId) (key : IssueKey) (write : Bool) : Option DmemOp :=
  x.ops.find? fun o => decide (o.cluster = c.idx) && decide (o.key = key) && decide (o.write = write)

/-- A response completes an operation: its tag is free, the statistics of its block node count it, and it leaves the engine
(R144, R310, R319). -/
def retireOp (s : State) (c : ClusterId) (o : DmemOp) (opc code : Nat) : State :=
  let n := blockNode c
  let s := if opc = opErr then fadd s (Reg.NOC_ST_ERR n) F.NOC_ST_ERR_COUNT 1 else s
  let s := match o.tag with
    | some g =>
      (match getTag s n g with
       | some t => if code = Code.TIMEOUT then tagTimeout s n g t else tagDone s n g opc t
       | none => s)
    | none => s
  let x := getDie s c.die.val
  refreshHbmOut (setDie s c.die.val { x with ops := x.ops.erase o }) c.die.val

/-! ## Completion at the word file's ports (R60, R63, R142) -/

/-- The stitches completed since the start of the run, at stitch `t` of ecycle `e`. -/
def stitchTime (s : State) (c : ClusterId) (e t : Nat) : Nat := e * sweepLen s c + t

/-- A result has completed by the present stitch: its fixed distance has passed, or the response of its HBM read has arrived. -/
def due (s : State) (c : ClusterId) (p : PendingWrite) : Bool :=
  let k := getCl s c.idx
  if p.port = .hbm then p.ready
  else decide (stitchTime s c p.key.ecycle p.key.stitch + p.lat ≤ stitchTime s c k.ecycle k.stitch)

/-- A result may complete now: it is due, or time passes with no stitch completed, because the cluster waits at its stitch or
stands between sweeps. -/
def mayComplete (s : State) (c : ClusterId) (p : PendingWrite) : Bool :=
  let k := getCl s c.idx
  earlier k p && (if p.port = .hbm then p.ready else k.waited || !k.inSweep || due s c p)

/-- Of two pending writes the one with the lower issue key. -/
def lowerWrite (a b : Option PendingWrite) : Option PendingWrite :=
  match a, b with
  | some x, some y => if keyLt y.key x.key then some y else some x
  | some x, none => some x
  | none, b => b

/-- The write that port W1 takes next of those that satisfy `q`: the lowest issue key; a return whose entry has an earlier-issued
return pending is held (R63, R138). -/
def w1Next (k : Cluster) (q : PendingWrite → Bool) : Option PendingWrite :=
  (k.pend.filter fun p => decide (p.port ≠ .word) && q p && !(fromDmem p && earlierReturn k p)).foldl
    (fun m p => lowerWrite m (some p)) none

/-- Port W1 takes a write: one for each stitch time (R37, R63). -/
def takeW1 (s : State) (c : ClusterId) (p : PendingWrite) : State :=
  let s := landWrite s c p
  setCl s c.idx { getCl s c.idx with w1Used := (getCl s c.idx).inSweep }

/-- What completes by the present stitch is written as the stitch begins: every word result that is due, through W0 (R60), and
the next write of W1 where W1 has written nothing yet (R63). -/
def landDue (s : State) (c : ClusterId) : State :=
  let s := ((getCl s c.idx).pend.filter fun p => decide (p.port = .word) && earlier (getCl s c.idx) p && due s c p).foldl
    (fun s p => landWrite s c p) s
  let k := getCl s c.idx
  if k.w1Used then s
  else
    match w1Next k fun p => earlier k p && due s c p with
    | some p => takeW1 s c p
    | none => s

/-- A write through W1 commanded: it is made where W1 is free for it, and otherwise waits its turn. -/
def commandW1 (s : State) (c : ClusterId) (p : PendingWrite) : State :=
  let k := getCl s c.idx
  if k.w1Used && k.inSweep then s
  else if w1Next k (mayComplete s c) = some p then takeW1 s c p else s

/-- POCKET_RETURN: the Pocket return with this key is written through W1; it is held while an earlier return of its entry
is pending (R138, R142). -/
def pocketReturn (s : State) (c : ClusterId) (key : IssueKey) : State :=
  match findPending (getCl s c.idx) .pocket key with
  | some p => commandW1 s c p
  | none => s

/-! ## HBM responses (R32, R134, R143, R146) -/

/-- The error with which the packet network answers an operation's request, or 0: in the order of R309, an address that is not
mapped, one outside the carve of the owner's partition, one in a domain that sleeps, and any HBM address after the integrity
halt (R32, R283, R317). -/
def opCode (s : State) (c : ClusterId) (o : DmemOp) : Nat :=
  let asleep := match nocDest o.addr with
    | some d => fenced s d
    | none => false
  if !addrMapped o.addr then Code.UNMAPPED
  else if asleep then Code.DOMAIN_ASLEEP
  else if outsideCarve s ((partOf s c).getD modulePart) o.addr then Code.ACCESS_DENIED
  else if isRegister o.addr then Code.LENGTH_EXCEEDS_BUFFER
  else if isHbm o.addr && halted s then Code.DOMAIN_ASLEEP
  else 0

/-- What the network records of an error answer: the carve's log record (R32), the counters and the capture of the first. -/
def recordErr (s : State) (c : ClusterId) (o : DmemOp) (code : Nat) : State :=
  let s := if code = Code.ACCESS_DENIED then
      logRecord s 7 4 ((partOf s c).getD modulePart) Code.ACCESS_DENIED o.addr []
    else s
  captureErr (countCode s code) (decide (code = Code.TIMEOUT)) (blockNode c) ((nocDest o.addr).getD 0)
    (if o.write then opWrm else opRd) code

/-- An operation's request answered with an error (R146): the engine writes no return and the consumer keeps waiting;
DMEM_FAULT captures, KIND 4 for an uncorrectable error and 3 for the others; the cluster holds for the Lining's rollback. -/
def opError (s : State) (c : ClusterId) (o : DmemOp) (code : Nat) : State :=
  let s := captureDmem (recordErr s c o code) c o.key o.desc (if code = Code.HBM_UNCORRECTABLE then 4 else 3)
  let s := retireOp s c o opErr code
  let k := getCl s c.idx
  setCl s c.idx { k with hold := true, faultAt := ⟨3, o.key.ecycle, o.key.stitch, o.key.bp⟩ :: k.faultAt }

/-- The answer to the request that met the integrity halt: INTEGRITY_FAIL, with no data and no write (R146, R282). -/
def haltAnswer (s : State) (c : ClusterId) (o : DmemOp) : State :=
  retireOp (recordErr s c o Code.INTEGRITY_FAIL) c o opErr Code.INTEGRITY_FAIL

/-- HBM_RETURN of a read whose line is delivered: the element is as every DWR of lower key left it (R135); the return waits for
W1 and for earlier returns of its entry (R63, R138). -/
def returnRead (s : State) (c : ClusterId) (p : PendingWrite) (o : DmemOp) : State :=
  let v := readElem s c.die.val (descGet s c.die.val o.desc) o.elem
  let s := retireOp s c o opRdresp 0
  let p' := { p with value := v, ready := true }
  let k := getCl s c.idx
  commandW1 (setCl s c.idx { k with pend := k.pend.map fun q => if q = p then p' else q }) c p'

/-- HBM_WRITE_ACK of a write whose line could be read: made at the stack after its line's undo record (R382), in the current
line-key generation (R280). -/
def ackWrite (s : State) (c : ClusterId) (o : DmemOp) : State :=
  let d := descGet s c.die.val o.desc
  let s := match partOf s c with
    | some p => undoAppend s p o.addr
    | none => s
  retireOp (noteFresh (writeElem s c.die.val d o.elem o.data o.mask) o.addr 1) c o opWrack 0

/-- A full undo log holds a write to a line without a record (R382). -/
def undoHolds (s : State) (c : ClusterId) (o : DmemOp) : Bool :=
  match partOf s c with
  | some p => undoFull s p && !((getPart s p).undo.any fun r => decide (r.1 = lineOf o.addr))
  | none => false

/-- How the read of an operation's line goes, where the line lies in HBM. -/
def opRead (s : State) (o : DmemOp) (r : LineRead) : State × LineEnd :=
  if isHbm o.addr then lineRead s o.addr r else (s, .ok)

/-- The HBM response of the read with this key, short of the integrity halt. A return whose response has arrived before only
waits for W1. -/
def hbmReturn (s : State) (c : ClusterId) (key : IssueKey) (r : LineRead) : State :=
  match findPending (getCl s c.idx) .hbm key, findOp (getDie s c.die.val) c key false with
  | some p, some o =>
    if earlierOp (getDie s c.die.val) o then s
    else if opCode s c o ≠ 0 then opError s c o (opCode s c o)
    else
      match opRead s o r with
      | (s, .ok) => returnRead s c p o
      | (s, .uncorrectable) => opError s c o Code.HBM_UNCORRECTABLE
      | (s, .halt) => haltAnswer s c o
  | some p, none => if p.ready then commandW1 s c p else s
  | none, _ => s

/-- The HBM acknowledgement of the masked write with this key, after every operation of lower key on its element (R135, R143),
short of the integrity halt. -/
def hbmWriteAck (s : State) (c : ClusterId) (key : IssueKey) (r : LineRead) : State :=
  match findOp (getDie s c.die.val) c key true with
  | some o =>
    if earlierOp (getDie s c.die.val) o then s
    else if opCode s c o ≠ 0 then opError s c o (opCode s c o)
    else if undoHolds s c o then s
    else
      match opRead s o r with
      | (s, .ok) => ackWrite s c o
      | (s, .uncorrectable) => opError s c o Code.HBM_UNCORRECTABLE
      | (s, .halt) => haltAnswer s c o
  | none => s

/-- The line at which a design-memory read or write meets the integrity halt (R279, R282). -/
def haltOf (s : State) (c : ClusterId) (key : IssueKey) (write : Bool) (r : LineRead) : Option Nat :=
  match findOp (getDie s c.die.val) c key write with
  | some o =>
    if earlierOp (getDie s c.die.val) o || decide (opCode s c o ≠ 0) || (write && undoHolds s c o) then none
    else if (opRead s o r).2 = .halt then some o.addr else none
  | none => none

/-- DMEM_ERROR_RESPONSE: the request with this key is answered with an error (R146): an uncorrectable error that the HBM
subsystem reports, which it counts (R274), the error that the network's checks give, or else TIMEOUT. -/
def dmemError (s : State) (c : ClusterId) (key : IssueKey) (uncorrectable : Bool) : State :=
  let x := getDie s c.die.val
  match x.ops.find? fun o => decide (o.cluster = c.idx) && decide (o.key = key) with
  | some o =>
    if uncorrectable then opError (countUe s o.addr) c o Code.HBM_UNCORRECTABLE
    else opError s c o (if opCode s c o = 0 then Code.TIMEOUT else opCode s c o)
  | none => s

/-! ## The engine's registers (R148, R151) -/

/-- The partition that owns a cluster position of die `i`, when it is running. -/
def ownerRunning (s : State) (i : Nat) (d : BitVec 128) : Bool :=
  if h : descOwnerCol d < 33 ∧ i < 4 then
    match partOf s ⟨⟨i, h.2⟩, ⟨descOwnerCol d, h.1⟩, ⟨descOwnerRow d % 32, Nat.mod_lt _ (by decide)⟩⟩ with
    | some p => partRunning s p
    | none => false
  else false

/-- DMEM_DESC_W3 written: the four staged words are committed to the selected entry, or refused with WERR (R151). -/
def descCommit (s : State) (i : Nat) (w3 : Word) : State :=
  let x := getDie s i
  let n := fget s (Reg.DMEM_DESC_IDX i) F.DMEM_DESC_IDX_INDEX
  let d : BitVec 128 := w3 ++ x.stage2 ++ x.stage1 ++ x.stage0
  if ownerRunning s i (descGet s i n) || ownerRunning s i d || descReserved d then
    fset s (Reg.DMEM_STATUS i) F.DMEM_STATUS_WERR 1
  else setDie s i { x with descs := sset (fun _ => 0) x.descs n d }

/-- DMEM_DESC_W0 to W2 written: to a staging register. -/
def descStage (s : State) (i n : Nat) (w : Word) : State :=
  let x := getDie s i
  setDie s i (match n with
    | 0 => { x with stage0 := w }
    | 1 => { x with stage1 := w }
    | _ => { x with stage2 := w })

/-- DMEM_DESC_Wn read: word `n` of the selected entry. -/
def descReadWord (s : State) (i n : Nat) : Word :=
  BitVec.ofNat 32 ((descGet s i (fget s (Reg.DMEM_DESC_IDX i) F.DMEM_DESC_IDX_INDEX)).toNat >>> (32 * n))

/-- A bank of the range belongs to a running partition (R148). -/
def fillTouchesRunning (s : State) (i first countM1 : Nat) : Bool :=
  (List.range 16).any fun p =>
    decide (oget s (Od.PART_STATE p) ≠ 0) && partRunning s p &&
    decide (oget s (Od.BANK_FIRST_W p i) ≤ first + countM1) &&
    decide (first < oget s (Od.BANK_FIRST_W p i) + oget s (Od.BANK_COUNT_W p i))

/-- DMEM_FILL_CTRL.GO written: the fill starts over the range and with the value that the registers hold now, or is refused
with WERR (R148). A GO while a fill runs is ignored. -/
def fillGo (s : State) (i : Nat) : State :=
  let first := fget s (Reg.DMEM_FILL_BANKS i) F.DMEM_FILL_BANKS_FIRST
  let m1 := fget s (Reg.DMEM_FILL_BANKS i) F.DMEM_FILL_BANKS_COUNT_M1
  if fbit s (Reg.DMEM_FILL_CTRL i) F.DMEM_FILL_CTRL_GO then s
  else if 2047 < first + m1 ∨ fillTouchesRunning s i first m1 = true then
    fset s (Reg.DMEM_STATUS i) F.DMEM_STATUS_WERR 1
  else
    let s := setDie s i { getDie s i with fill := some (first, m1 + 1, (rget s (Reg.DMEM_FILL_DATA i)).toNat) }
    let s := fset s (Reg.DMEM_STATUS i) F.DMEM_STATUS_FILL_BUSY 1
    fset s (Reg.DMEM_FILL_CTRL i) F.DMEM_FILL_CTRL_GO 1

/-- `n` rows from address `a` on set to `v`, little-endian (R149). A fill with 0 clears the range. -/
def fillRows (s : State) (a n v : Nat) : State :=
  match n with
  | 0 => s
  | n + 1 => fillRows (setMemLE s a 4 v) (a + 4) n v

/-- FILL_DONE: every row of the range holds the value, DONE is set (R148). -/
def fillDone (s : State) (i : Nat) : State :=
  match (getDie s i).fill with
  | some (first, n, v) =>
    let s := setDie s i { getDie s i with fill := none }
    let s := zeroMem s (pocketAddr i first) (pocketAddr i (first + n))
    let s := if v = 0 then s else fillRows s (pocketAddr i first) (n * 8192) v
    let s := fset s (Reg.DMEM_STATUS i) F.DMEM_STATUS_FILL_BUSY 0
    fsets s (Reg.DMEM_FILL_CTRL i) [(F.DMEM_FILL_CTRL_GO, 0), (F.DMEM_FILL_CTRL_DONE, 1)]
  | none => s

/-- DMEM_CTRL.CLRCNT written 1 (R139). -/
def dmemClear (s : State) (i : Nat) : State :=
  rset (rset (rset s (Reg.DMEM_OOR_CNT i) 0) (Reg.DMEM_RO_WR_CNT i) 0) (Reg.DMEM_HBM_PEAK i) 0

/-- No design-memory operation of partition `p` on die `i` is in flight (DMEM_PART_IDLE, R150). -/
def partIdle (s : State) (p i : Nat) : Bool :=
  (getDie s i).ops.all (fun o => decide (partOf s (clusterOf o.cluster) ≠ some p)) &&
  s.clusters.all fun kv =>
    decide ((clusterOf kv.1).die.val ≠ i) || decide (partOf s (clusterOf kv.1) ≠ some p) ||
    kv.2.pend.all fun w => !fromDmem w

/-- No design-memory operation of die `i` is in flight (DMEM_STATUS.IDLE). -/
def dieIdle (s : State) (i : Nat) : Bool :=
  (getDie s i).ops.isEmpty &&
  s.clusters.all fun kv => decide ((clusterOf kv.1).die.val ≠ i) || kv.2.pend.all fun w => !fromDmem w

/-! ## The commands -/

def execDmemDescW3Commit (die : Fin 4) (w3 : Word) (s : State) : Host.Outcome State Fault Refusal :=
  .next (descCommit s die.val w3)

def execDmemFillGo (die : Fin 4) (s : State) : Host.Outcome State Fault Refusal :=
  .next (fillGo s die.val)

def execFillDone (die : Fin 4) (s : State) : Host.Outcome State Fault Refusal :=
  .next (fillDone s die.val)

def execDmemCtrlClrcnt (die : Fin 4) (s : State) : Host.Outcome State Fault Refusal :=
  .next (dmemClear s die.val)

end Sys2Proof.Machine
end

