-- ==== Sys2Proof/Machine/Gate.lean ====
section
/-! DEFINITION. The sweep gate of a partition (R90, with the further conditions of R205, R207, R238, R341, R381, R386 and
R524), and the RUN bit of its clusters (R91). -/

namespace Sys2Proof.Machine

/-- A checkpoint is due before ecycle `e`: an early one or one asked for across modules, or in a single module a multiple of
CKPT_INTERVAL that has not committed (R207, R380, R381). -/
def captureDue (s : State) (p e : Nat) : Bool :=
  let x := getPart s p
  (match x.ckptGate with
   | some g => decide (g ≤ e)
   | none => false) ||
  (x.seamMap.isNone && decide (x.golden.fold ≠ 0) && decide (e % max (oget s Od.CKPT_INTERVAL) 1 = 0) &&
   (match x.ckptDone with
    | some d => decide (d < e)
    | none => true))

/-- The gate of partition `p` is closed for ecycle `e` whatever the wavefront does: run control is not RUNNING, a break or a
run-control stop stands, the Lining or a capture holds it (R69, R90, R207, R381, R386, R439). -/
def gateClosed (s : State) (p e : Nat) : Bool :=
  let x := getPart s p
  decide (oget s (Od.RUN_STATE p) ≠ 2) ||
  x.breaks.any (fun b => decide (b.1 + 2 + x.diameter ≤ e)) ||
  (match x.doneFall with
   | some g => decide (g ≤ e)
   | none => false) ||
  decide (oget s (Od.STOP_ECYCLE p) ≤ e) ||
  decide (x.hold ≠ .none) || x.peerHalt || captureDue s p e

/-- A Seam port's own state. -/
def getPort (s : State) (i : Nat) : SeamPort := sget (fun _ => {}) s.ports i

/-- A Seam port's own state replaced. -/
def setPort (s : State) (i : Nat) (x : SeamPort) : State := { s with ports := sset (fun _ => {}) s.ports i x }

/-- The physical port of link `l` (OD 7001, R191). -/
def linkPort (s : State) (l : Nat) : Nat := oget s (Od.LINK_PORT l)

/-- A link of the image has MAP_OK, and its DONE lets ecycle `e` begin (R205, R210). -/
def linkAdmits (s : State) (l e : Nat) : Bool :=
  fbit s (Reg.SEAM_STATUS (linkPort s l)) F.SEAM_STATUS_MAP_OK && decide (e ≤ (getPort s (linkPort s l)).done + 1)

/-- The acquisition engine holds the gate of partition `p` for ecycle `e`: it has something to take and has not taken
`e` - 2 (R341). -/
def acqHolds (s : State) (p e : Nat) : Bool :=
  (!(getPart s p).probeMap.isEmpty || decide (oget s (Od.ACQ_UNITS p) ≠ 0)) && decide ((getPart s p).taken + 1 < e)

/-- A fence-point slot's own state. -/
def getSlot (s : State) (i : Nat) : FenceSlot := sget (fun _ => {}) s.slots i

/-- A fence-point slot's own state replaced. -/
def setSlot (s : State) (i : Nat) (x : FenceSlot) : State := { s with slots := sset (fun _ => {}) s.slots i x }

/-- Slot `i` is a committed speed bridge of partition `p` (R232). -/
def bridgeSlot (s : State) (p i : Nat) : Bool :=
  decide (fget s (Reg.CUFF_FP_STATUS i) F.CUFF_FP_STATUS_MODE = 1) &&
  decide (oget s (Od.REGIONS p) / 2 ^ (i / 2) % 2 = 1)

/-- A bridge of the partition has not bound ecycle `e`, or not moved the output of `e` - 2 (R238, R242). -/
def bridgesHold (s : State) (p e : Nat) : Bool :=
  (List.range 32).any fun i =>
    bridgeSlot s p i && (decide ((getSlot s i).bound ≤ e) || decide ((getSlot s i).moved + 1 < e))

/-- The waits of the gate that end by themselves: the wavefront (R90), the Seam tokens (R205), the acquisition engine's
take (R341), the bridges' bindings and moves (R238, R240), and an absent REFCLK (R524). -/
def gateWaits (s : State) (p e : Nat) : Bool :=
  decide ((getPart s p).completed + 1 < e) ||
  (match (getPart s p).seamMap with
   | some m => m.links.any fun l => !linkAdmits s l.link e
   | none => false) ||
  acqHolds s p e || bridgesHold s p e || !fbit s Reg.PWR_STATUS F.PWR_STATUS_REFCLK_OK

/-- The gate of partition `p` admits ecycle `e`. -/
def gateAdmits (s : State) (p e : Nat) : Bool := !gateClosed s p e && !gateWaits s p e

/-- RUN clears in every cluster of the partition that stands at stitch 0 with its gate closed (R91). -/
def clearStoppedRun (s : State) (p : Nat) : State :=
  (partClusters s p).foldl (fun s c =>
    let k := getCl s c.idx
    if clRun s c && !k.inSweep && gateClosed s p k.ecycle then clearRun s c else s) s

end Sys2Proof.Machine
end

