-- ==== Sys2Proof/Machine/Warp.lean ====
section
/-! DEFINITION. Warp and the die-to-die bridges (04): switches and tracks, the groups on track stages, input slots, and the
BRG_ and WRP_ registers' own writes. -/

namespace Sys2Proof.Machine

/-! ## Geometry (R114, R115, R117) -/

/-- The position one place from `c` on side N 0, E 1, S 2 or W 3, at distance `n`. -/
def neighbour (c : ClusterId) (side n : Nat) : Option ClusterId :=
  match side with
  | 0 => if n ≤ c.row.val then some { c with row := ⟨c.row.val - n, by have := c.row.isLt; omega⟩ } else none
  | 1 => if h : c.col.val + n < 33 then some { c with col := ⟨c.col.val + n, h⟩ } else none
  | 2 => if h : c.row.val + n < 32 then some { c with row := ⟨c.row.val + n, h⟩ } else none
  | _ => if n ≤ c.col.val then some { c with col := ⟨c.col.val - n, by have := c.col.isLt; omega⟩ } else none

/-- `c` is a stop of the express tracks of `side`: its column, or its row, is a multiple of 4 up to 28 (R114). -/
def expressStop (c : ClusterId) (side : Nat) : Bool :=
  if side % 2 = 1 then decide (c.col.val % 4 = 0) && decide (c.col.val ≤ 28) else decide (c.row.val % 4 = 0)

/-- The far end of the column-edge bridge at a landing position (R117). -/
def columnBridge (c : ClusterId) : Option ClusterId :=
  if c.die = 0 ∧ c.col = 31 then some ⟨1, 0, c.row⟩
  else if c.die = 1 ∧ c.col = 0 then some ⟨0, 31, c.row⟩
  else if c.die = 2 ∧ c.col = 31 then some ⟨3, 0, c.row⟩
  else if c.die = 3 ∧ c.col = 0 then some ⟨2, 31, c.row⟩
  else none

/-- The far end of the row-edge bridge at a landing position (R117). -/
def rowBridge (c : ClusterId) : Option ClusterId :=
  if c.col.val = 32 then none
  else if c.die = 0 ∧ c.row = 31 then some ⟨2, c.col, 0⟩
  else if c.die = 2 ∧ c.row = 0 then some ⟨0, c.col, 31⟩
  else if c.die = 1 ∧ c.row = 31 then some ⟨3, c.col, 0⟩
  else if c.die = 3 ∧ c.row = 0 then some ⟨1, c.col, 31⟩
  else none

/-- The lowest column and row of a die's Yoke landing square (R117). -/
def yokeSquare (d : Nat) : Nat × Nat :=
  match d with
  | 0 => (24, 24)
  | 1 => (0, 24)
  | 2 => (24, 0)
  | _ => (0, 0)

/-- The index, row by row, of a position within its die's Yoke landing square. -/
def yokeIndex (c : ClusterId) : Option Nat :=
  let q := yokeSquare c.die.val
  if q.1 ≤ c.col.val ∧ c.col.val < q.1 + 8 ∧ q.2 ≤ c.row.val ∧ c.row.val < q.2 + 8 then
    some (8 * (c.row.val - q.2) + (c.col.val - q.1)) else none

/-- Where a destination entry of a switch leads (R115). -/
inductive Landing where
  /-- Input slot of this cluster. -/
  | slot (j : Nat)
  /-- The stage that source code `src` names at a position of the same die. -/
  | track (c : ClusterId) (src : Nat)
  /-- The stage that source code `src` names across a Weave bridge. -/
  | bridge (c : ClusterId) (src : Nat)
  /-- Outbound Seam channel of R189, across a Yoke bridge. -/
  | yoke (channel : Nat)
  /-- The destination does not exist at the position (R116). -/
  | nowhere
deriving DecidableEq, Repr

/-- The landing of entry `n` of the switch at `c` (R115). -/
def landing (c : ClusterId) (n : Nat) : Landing :=
  if n < 32 then .slot n
  else if n < 128 then
    match neighbour c ((n - 32) / 24) 1 with
    | some x => .track x (0x20 + 0x20 * (((n - 32) / 24 + 2) % 4) + (n - 32) % 24)
    | none => .nowhere
  else if n < 160 then
    match (if expressStop c ((n - 128) / 8) then neighbour c ((n - 128) / 8) 4 else none) with
    | some x =>
      if expressStop x ((n - 128) / 8) then .track x (0xA0 + 8 * (((n - 128) / 8 + 2) % 4) + (n - 128) % 8)
      else .nowhere
    | none => .nowhere
  else if n < 168 then
    match columnBridge c with
    | some x => .bridge x (0xC0 + (n - 160))
    | none => .nowhere
  else if n < 176 then
    match rowBridge c with
    | some x => .bridge x (0xC0 + (n - 160))
    | none => .nowhere
  else if n < 188 then
    match yokeIndex c with
    | some q => .yoke (768 * c.die.val + 12 * q + (n - 176))
    | none => .nowhere
  else .nowhere

/-- The position and source code of the stage that inbound Seam channel `ch` feeds (R115, R189). -/
def inboundStage (ch : Nat) : ClusterId × Nat :=
  let d := ch / 768 % 4
  let t := ch % 768
  let q := yokeSquare d
  (⟨⟨d, by omega⟩, ⟨(q.1 + t / 12 % 8) % 33, Nat.mod_lt _ (by decide)⟩,
    ⟨(q.2 + t / 12 / 8) % 32, Nat.mod_lt _ (by decide)⟩⟩, 0xD0 + t % 12)

/-! ## Track stages (R85, R108, R112) -/

/-- The key of the stage that source code `src` names at a position. -/
def stageKey (c : ClusterId) (src : Nat) : Nat := c.idx * 512 + src

/-- The group and its taken branches on a stage. -/
def getStage (s : State) (key : Nat) : Option Stage := sget (fun _ => none) s.stages key

/-- A stage set. -/
def setStage (s : State) (key : Nat) (x : Option Stage) : State :=
  { s with stages := sset (fun _ => none) s.stages key x }

/-- The enabled entries of a switch that select a source (R115, R116). -/
def branchesOf (s : State) (c : ClusterId) (src : Nat) : List Nat :=
  (List.range 188).filter fun n =>
    let e := switchEntry s c n
    decide (e / 0x8000 = 1) && decide (e % 0x200 = src)

/-- A group can enter a stage: the stage is free, or the group carries only a report (R112). -/
def stageTakes (s : State) (key : Nat) (g : Group) : Bool :=
  (getStage s key).isNone || g.value.isNone

/-- A group enters a stage; a report-only group merges its report into a group already there (R112). -/
def enterStage (s : State) (key : Nat) (g : Group) : State :=
  match getStage s key with
  | none => setStage s key (some { group := g, taken := [] })
  | some x =>
    if g.value.isNone then
      setStage s key (some { x with group := { x.group with count := g.count, short := g.short } })
    else s

/-- Branch `n` has taken the group; the stage frees when every branch has, or when the switch selects it nowhere (R113). -/
def takeBranch (s : State) (c : ClusterId) (src n : Nat) (x : Stage) : State :=
  let t := n :: x.taken
  if (branchesOf s c src).all fun m => t.contains m then setStage s (stageKey c src) none
  else setStage s (stageKey c src) (some { x with taken := t })

/-- The stage that entry `n` of the switch at `c` would take from: its source code and the group there not yet taken by
`n`. -/
def offered (s : State) (c : ClusterId) (n : Nat) : Option (Nat × Stage) :=
  let e := switchEntry s c n
  if e / 0x8000 = 1 then
    match getStage s (stageKey c (e % 0x200)) with
    | some x => if x.taken.contains n then none else some (e % 0x200, x)
    | none => none
  else none

/-! ## Reports (R87, R88, R119) -/

/-- A cluster's completed count: e × L + n. -/
def completedCount (s : State) (c : ClusterId) : Nat := (getCl s c.idx).ecycle * sweepLen s c + (getCl s c.idx).stitch

/-- The unique value within ±127 of `own` whose low 8 bits are those of `n` (R119). -/
def rebuildCount (own n : Nat) : Nat :=
  let d := (n % 256 + 256 - own % 256) % 256
  if d ≤ 127 then own + d else own - (256 - d)

/-- A partner's report taken: the newest stands, and a report of a cluster that is no partner is ignored (R87, R88). -/
def takeReport (s : State) (c : ClusterId) (partner count : Nat) : State :=
  let k := getCl s c.idx
  match sget (fun _ => none) k.reports partner with
  | some old => setCl s c.idx { k with reports := sset (fun _ => none) k.reports partner (some (max old count)) }
  | none => s

/-- The most stages that a route can have: every position's switch and eight more for each (R116, R123). -/
def routeFuel : Nat := 4224 * 8

/-- Where a route begins. -/
inductive RouteOrigin where
  /-- An output slot of the cluster with this number. -/
  | cluster (i : Nat)
  /-- An inbound Yoke track, fed by a Seam port. -/
  | inbound
  /-- No selection leads further back. -/
  | dead
deriving DecidableEq, Repr

/-- The switch entry that drives the track which a source code names at a position (R115). -/
def driverOf (c : ClusterId) (src : Nat) : Option (ClusterId × Nat) :=
  if src < 0xA0 then
    (neighbour c ((src - 0x20) / 0x20) 1).map fun x => (x, 32 + 24 * (((src - 0x20) / 0x20 + 2) % 4) + src % 0x20)
  else if src < 0xC0 then
    (neighbour c ((src - 0xA0) / 8) 4).map fun x => (x, 128 + 8 * (((src - 0xA0) / 8 + 2) % 4) + (src - 0xA0) % 8)
  else if src < 0xC8 then (columnBridge c).map fun x => (x, 160 + (src - 0xC0))
  else if src < 0xD0 then (rowBridge c).map fun x => (x, 160 + (src - 0xC0))
  else none

/-- Where the chain of selections that feeds a stage begins, followed back at most `fuel` stages. -/
def traceBack (s : State) (fuel : Nat) (c : ClusterId) (src : Nat) : RouteOrigin :=
  match fuel with
  | 0 => .dead
  | fuel + 1 =>
    if src < 32 then .cluster c.idx
    else if 0xD0 ≤ src ∧ src < 0xDC then .inbound
    else
      match driverOf c src with
      | some (x, n) => if switchEntry s x n / 0x8000 = 1 then traceBack s fuel x (switchEntry s x n % 0x200) else .dead
      | none => .dead

/-- Where the route that ends in input slot `j` of `c` begins. -/
def routeStart (s : State) (c : ClusterId) (j : Nat) : RouteOrigin :=
  if switchEntry s c j / 0x8000 = 1 then traceBack s routeFuel c (switchEntry s c j % 0x200) else .dead

/-- Input slot `j` is fed by a Seam port: its route begins on an inbound Yoke track (R81). -/
def slotFromSeam (s : State) (c : ClusterId) (j : Nat) : Bool := decide (routeStart s c j = .inbound)

/-! ## Input slots (R109) -/

/-- WRP_QUEUE_PEAK after slot `j` holds `n` entries. -/
def notePeak (s : State) (c : ClusterId) (j n : Nat) : State :=
  if fget s (Reg.WRP_QUEUE_PEAK c) F.WRP_QUEUE_PEAK_PEAK < n then
    fsets s (Reg.WRP_QUEUE_PEAK c) [(F.WRP_QUEUE_PEAK_SLOT, j), (F.WRP_QUEUE_PEAK_PEAK, n)] else s

/-- The full count of a group's report, as the receiving cluster rebuilds it (R119). -/
def groupCount (s : State) (c : ClusterId) (g : Group) : Nat :=
  if g.short then rebuildCount (completedCount s c) g.count else g.count

/-- A group offered to input slot `j`: none where the queue is full and the slot withholds its acknowledgement (R109). The
report is taken either way. A cluster that has withdrawn holds no other: it discards the value (R76). -/
def slotOffer (s : State) (c : ClusterId) (j : Nat) (g : Group) : State × Bool :=
  let s := match routeStart s c j with
    | .cluster p => takeReport s c p (groupCount s c g)
    | _ => s
  match g.value with
  | none => (s, true)
  | some v =>
    if acceptBit s c j (g.stitch % 8192) && participating s c then
      let k := getCl s c.idx
      let q := queueOf k j
      if q.length < 16 then
        let q' := q ++ [{ value := v, stitch := g.stitch % 8192, parity := g.ecycle % 2 }]
        (notePeak (setCl s c.idx { k with queues := sset (fun _ => []) k.queues j q' }) c j q'.length, true)
      else (s, false)
    else (s, true)

/-- WARP_GROUP_ARRIVE: the group at the end of the route of input slot `j` reaches the slot (R109). -/
def groupArrive (s : State) (c : ClusterId) (j : Nat) : State :=
  match offered s c j with
  | some (src, x) =>
    let r := slotOffer s c j x.group
    if r.2 then
      match getStage r.1 (stageKey c src) with
      | some y => takeBranch r.1 c src j y
      | none => r.1
    else r.1
  | none => s

/-- WARP_HOP: entry `n` of the switch at `c` passes the group of its source on to the next stage when that is free; a group
offered to a destination that does not exist is discarded (R113, R116). -/
def warpHop (s : State) (c : ClusterId) (n : Nat) : State :=
  match offered s c n with
  | some (src, x) =>
    match landing c n with
    | .track y t =>
      if stageTakes s (stageKey y t) x.group then takeBranch (enterStage s (stageKey y t) x.group) c src n x else s
    | .nowhere => takeBranch s c src n x
    | _ => s
  | none => s

/-! ## Bridges (R118, R120) -/

/-- The owner die and index of the bridge that entry `n` (160 to 187) leaves over, and whether it leaves its owner
(R117). -/
def bridgeOf (c : ClusterId) (n : Nat) : Nat × Nat × Bool :=
  let d := c.die.val
  if n < 168 then (if d < 2 then (0, 0, decide (d = 0)) else (3, 1, decide (d = 3)))
  else if n < 176 then (if d % 2 = 0 then (0, 1, decide (d = 0)) else (3, 0, decide (d = 3)))
  else (d, if d = 0 ∨ d = 3 then 2 else 0, true)

/-- WRP_TAG_FAULT of a slot, with the first fault's capture (R84, R120). -/
def markTagFault (s : State) (c : ClusterId) (j expected received : Nat) : State :=
  let s := rset s (Reg.WRP_TAG_FAULT c) (rget s (Reg.WRP_TAG_FAULT c) ||| BitVec.ofNat 32 (2 ^ j))
  if fbit s (Reg.WRP_TAG_DETAIL c) F.WRP_TAG_DETAIL_VALID then s
  else
    let s := fsets s (Reg.WRP_TAG_DETAIL c)
      [(F.WRP_TAG_DETAIL_VALID, 1), (F.WRP_TAG_DETAIL_SLOT, j), (F.WRP_TAG_DETAIL_EXPECTED, expected)]
    fset s (Reg.WRP_TAG_RCVD c) F.WRP_TAG_RCVD_RECEIVED received

/-- The input slots fed by a source at a position, followed forward at most `fuel` stages. -/
def fedSlots (s : State) (fuel : Nat) (c : ClusterId) (src : Nat) : List (ClusterId × Nat) :=
  match fuel with
  | 0 => []
  | fuel + 1 =>
    (branchesOf s c src).flatMap fun n =>
      match landing c n with
      | .slot j => [(c, j)]
      | .track x t => fedSlots s fuel x t
      | .bridge x t => fedSlots s fuel x t
      | _ => []

/-- A code error on a bridge: the group is discarded and counted, and marked on every slot the route feeds, whose clusters hold
for the Lining (R120). The counter of the bridge counts both directions; WRP_TAG_DETAIL captures EXPECTED as 0, the group's
tag being lost; where the route feeds no slot, the cluster at the landing position holds (assumption 80). -/
def codeError (s : State) (c : ClusterId) (d i : Nat) (g : Group) (feeds : List (ClusterId × Nat)) : State :=
  let s := fadd s (Reg.BRG_CODE_ERR_CNT d i) F.BRG_CODE_ERR_CNT_COUNT 1
  let s := feeds.foldl (fun s x => markTagFault s x.1 x.2 0 0) s
  ((if feeds.isEmpty then [c] else feeds.map fun x => x.1).eraseDups).foldl (fun s x =>
    let k := getCl s x.idx
    setCl s x.idx { k with hold := true, faultAt := ⟨5, g.ecycle, g.stitch, 0⟩ :: k.faultAt }) s

/-! ### The code of a bridge track (R86, R118) -/

/-- The rail of a symbol that carries two bits. -/
def symbolOf (v i : Nat) : Nat := v / 4 ^ i % 4

/-- The 12 symbols of a group: its value, its tag and the low 8 bits of its count (R118). -/
def groupSymbols (g : Group) : List Nat :=
  (match g.value with
   | none => 0
   | some false => 1
   | some true => 2) ::
  ((List.range 7).map (symbolOf (tagOf g.stitch g.ecycle)) ++ (List.range 4).map (symbolOf (g.count % 256)))

/-- The rails of a list of symbols, one of four high for each. -/
def symbolRails (l : List Nat) : Nat := l.zipIdx.foldl (fun n x => n + 2 ^ (4 * x.2 + x.1)) 0

/-- The symbols that `n` groups of four rails spell, none where one has not exactly one rail high. -/
def railSymbols (n rails : Nat) : Option (List Nat) :=
  (List.range n).mapM fun i => match rails / 16 ^ i % 16 with
    | 1 => some 0
    | 2 => some 1
    | 4 => some 2
    | 8 => some 3
    | _ => none

/-- The number that symbols spell, two bits each. -/
def symbolsValue (l : List Nat) : Nat := l.foldr (fun x n => n * 4 + x) 0

/-- What a bridge receiver latches: the value, the tag and the count's 8 bits; none where the group is discarded, because a
symbol has more than one rail high or symbol 0 has its rail 3 high (R120). -/
def readGroup (rails : Nat) : Option (Option Bool × Nat × Nat) :=
  match railSymbols 12 rails with
  | some (v :: l) =>
    if v = 3 then none
    else some (if v = 0 then none else some (decide (v = 2)), symbolsValue (l.take 7), symbolsValue (l.drop 7))
  | _ => none

/-- A group as it comes out of a bridge track, with `upset` rails high besides its own: none where it is discarded. The ecycle is
the one of its parity that the model has at hand, since at most two are in progress (R90). -/
def crossGroup (g : Group) (upset : Nat) : Option Group :=
  match readGroup (symbolRails (groupSymbols g) ||| upset) with
  | some (v, t, n) => some { value := v, stitch := t % 8192, ecycle := g.ecycle, count := n, short := true }
  | none => none

/-- The rails of an acknowledgement: the receiver's count in four symbols (R118). -/
def ackRails (count : Nat) : Nat := symbolRails ((List.range 4).map (symbolOf (count % 256)))

/-- The count's 8 bits that an acknowledgement carries. -/
def readAck (rails : Nat) : Nat := symbolsValue ((railSymbols 4 rails).getD [])

/-- The first completed handshake after Baste sets UP (BRG_STATUS). -/
def bridgeUp (s : State) (c : ClusterId) (n : Nat) : State :=
  let b := bridgeOf c n
  fset s (Reg.BRG_STATUS b.1 b.2.1) F.BRG_STATUS_UP 1

/-- BRIDGE_GROUP: the group offered to bridge track entry `n` (160 to 187) of the switch at `c` crosses the bridge as code, or is
acknowledged and discarded (R86, R118, R120). `upset`: rails that are high besides the group's own. -/
def bridgeGroup (s : State) (c : ClusterId) (n upset : Nat) : State :=
  match offered s c n with
  | some (src, x) =>
    let b := bridgeOf c n
    match landing c n with
    | .bridge y t =>
      match crossGroup x.group upset with
      | none => codeError (takeBranch (bridgeUp s c n) c src n x) c b.1 b.2.1 x.group (fedSlots s routeFuel y t)
      | some g =>
        if stageTakes s (stageKey y t) g then takeBranch (enterStage (bridgeUp s c n) (stageKey y t) g) c src n x else s
    | .yoke ch =>
      let s' := takeBranch (bridgeUp s c n) c src n x
      match crossGroup x.group upset with
      | none => codeError s' c b.1 b.2.1 x.group []
      | some g =>
        match g.value with
        | some v =>
          let q := sget (fun _ => []) s'.outbound ch
          { s' with outbound := sset (fun _ => []) s'.outbound ch (q ++ [(g.ecycle, v)]) }
        | none => s'
    | .nowhere => takeBranch s c src n x
    | _ => s
  | none => s

/-- PROGRESS_REPORT: a partner's completed-count report arrives backward with an acknowledgement (R87). A report is never
newer than the partner's true count (R88); across a bridge four symbols carry its low 8 bits (R118, R119). -/
def progressReport (s : State) (c partner : ClusterId) (count : Nat) : State :=
  if completedCount s partner < count then s
  else
    takeReport s c partner.idx
      (if c.die = partner.die then count else rebuildCount (completedCount s c) (readAck (ackRails count)))

/-! ## Registers -/

/-- WRP_CL_CTRL.CLR written 1 (R124). -/
def wrpClear (s : State) (c : ClusterId) : State := rset (rset s (Reg.WRP_BP_CNT c) 0) (Reg.WRP_QUEUE_PEAK c) 0

/-- The address of a spare register of bridge `i` of die `d`. -/
def spareReg (d i k : Nat) (out : Bool) : Nat := if out then Reg.BRG_SPARE_OUT d i k else Reg.BRG_SPARE_IN d i k

/-- Another active spare of the same direction already replaces `track`. -/
def trackTaken (s : State) (d i k : Nat) (out : Bool) (track : Nat) : Bool :=
  (List.range (bridgeSpares d i)).any fun m =>
    decide (m ≠ k) && fbit s (spareReg d i m out) F.BRG_SPARE_OUT_ACTIVE &&
    decide (fget s (spareReg d i m out) F.BRG_SPARE_OUT_TRACK = track)

/-- Active spares of one direction whose assignment is in effect (R121). -/
def sparesUsed (s : State) (d i : Nat) (out : Bool) : Nat :=
  ((List.range (bridgeSpares d i)).filter fun m =>
    fbit s (spareReg d i m out) F.BRG_SPARE_OUT_ACTIVE && !s.sparesPend.contains (d, i, m, out)).length

/-- BRG_STATUS after a change of its spares (R121). -/
def refreshSpares (s : State) (d i : Nat) : State :=
  let o := sparesUsed s d i true
  let n := sparesUsed s d i false
  fsets s (Reg.BRG_STATUS d i)
    [(F.BRG_STATUS_SPARES_OUT_GONE, if o = bridgeSpares d i then 1 else 0),
     (F.BRG_STATUS_SPARES_IN_GONE, if n = bridgeSpares d i then 1 else 0),
     (F.BRG_STATUS_USED_OUT, o), (F.BRG_STATUS_USED_IN, n)]

/-- A track of a bridge lies in the carve of a partition that runs with a pattern: it may hold a route on it (R121, R154). -/
def trackInUse (s : State) (d i track : Nat) : Bool :=
  (List.range 16).any fun p =>
    let t := tracksOf s (bridgeNo d i) p
    decide (t.1 ≤ track) && decide (track < t.1 + t.2) && decide ((getPart s p).golden.fold ≠ 0) && partRunning s p

/-- Spares whose partitions have come to stand at a sweep boundary take effect (R121). -/
def settleSpares (s : State) : State :=
  s.sparesPend.foldl (fun s x =>
    if trackInUse s x.1 x.2.1 (fget s (spareReg x.1 x.2.1 x.2.2.1 x.2.2.2) F.BRG_SPARE_OUT_TRACK) then s
    else raiseHealth (refreshSpares { s with sparesPend := s.sparesPend.filter fun y => decide (y ≠ x) } x.1 x.2.1) 1) s

/-- BRG_SPARE_WRITE: refused, with a log record, where TRACK is out of range or already replaced by another active spare
of the direction; otherwise the register takes the value (R127), and the replacement takes effect once every partition that may
hold a route on the track stands at a sweep boundary (R121). -/
def spareWrite (s : State) (d i k : Nat) (out : Bool) (w : Word) : State :=
  let track := fldGet w F.BRG_SPARE_OUT_TRACK
  if bridgeTracks d i ≤ track ∨ trackTaken s d i k out track = true then
    logRecord s 4 4 modulePart Code.LIMIT_REFUSED (spareReg d i k out) []
  else
    let s := fsets s (spareReg d i k out)
      [(F.BRG_SPARE_OUT_ACTIVE, fldGet w F.BRG_SPARE_OUT_ACTIVE), (F.BRG_SPARE_OUT_TRACK, track)]
    let rest := s.sparesPend.filter fun y => decide (y ≠ (d, i, k, out))
    let s := { s with sparesPend := if fldGet w F.BRG_SPARE_OUT_ACTIVE = 1 then rest ++ [(d, i, k, out)] else rest }
    settleSpares (refreshSpares s d i)

/-! ## The commands -/

def execWarpHop (c : ClusterId) (entry : Fin 188) (s : State) : Host.Outcome State Fault Refusal :=
  .next (warpHop s c entry.val)

def execBridgeGroup (c : ClusterId) (track : Fin 28) (upset : BitVec 48) (s : State) : Host.Outcome State Fault Refusal :=
  .next (bridgeGroup s c (160 + track.val) upset.toNat)

def execWrpClCtrlClr (c : ClusterId) (s : State) : Host.Outcome State Fault Refusal := .next (wrpClear s c)

/-- A bridge or spare that the module does not have is named (R117): no such register exists. -/
def execBrgSpareWrite (die : Fin 4) (bridge : Fin 3) (spare : Fin 24) (out : Bool) (w : Word) (s : State) :
    Host.Outcome State Fault Refusal :=
  if bridgeExists die.val bridge.val = true ∧ spare.val < bridgeSpares die.val bridge.val then
    .next (spareWrite s die.val bridge.val spare.val out w)
  else .fault .noSuchUnit

end Sys2Proof.Machine
end

