-- ==== Sys2Proof/Machine/Hem.lean ====
section
/-! DEFINITION. Hem (12): packets, the merge FIFO and its losses, the sequencer of R328 and R329, and the writes of its
registers. -/

namespace Sys2Proof.Machine

/-! ## Owner and watches -/

/-- The owner partition (OD 5001.01), or none at 255. -/
def hemOwner (s : State) : Option Nat :=
  if oget s Od.HEM_OWNER < 16 then some (oget s Od.HEM_OWNER) else none

/-- The owner's completed ecycle count; 0 with no owner. -/
def hemCount (s : State) : Nat :=
  match hemOwner s with
  | some p => (getPart s p).completed
  | none => 0

/-- Words held by a list of packets. -/
def packetWords (l : List HemPacket) : Nat := (l.map List.length).sum

/-- A 32-bit word from (value, low bit) fields. -/
def packWord (l : List (Nat × Nat)) : Word := l.foldl (fun w p => w ||| BitVec.ofNat 32 (p.1 <<< p.2)) 0

/-- A VMAP entry of partition `p` (R157). -/
def vmapGet (s : State) (p v : Nat) : Nat := sget (fun _ => 0) (getPart s p).vmap v

/-- The physical cluster of a VMAP entry (R157). -/
def vmapCluster (e : Nat) : Option ClusterId :=
  if e / 0x8000 = 1 ∧ e / 32 % 64 < 33 then
    some ⟨⟨e / 2048 % 4, Nat.mod_lt _ (by decide)⟩, ⟨e / 32 % 64 % 33, Nat.mod_lt _ (by decide)⟩,
      ⟨e % 32, Nat.mod_lt _ (by decide)⟩⟩
  else none

/-- The image-numbered stitch of executed stitch `t` (R177, R366). -/
def imageStitch (s : State) (p t : Nat) : Nat := sget (fun _ => 0xFFFF) (getPart s p).translate t

/-- Collar binds every watch to the physical cluster VMAP gives (R320). -/
def hemRebind (s : State) : State :=
  (List.range 16).foldl (fun s w =>
    let e := match hemOwner s with
      | some p => vmapGet s p (fget s (Reg.HEM_WATCH_CFG w) F.HEM_WATCH_CFG_VCLUSTER)
      | none => 0
    { fset s (Reg.HEM_WATCH_PHYS w) F.HEM_WATCH_PHYS_BINDING e with
      hem := { s.hem with needSync := sset (fun _ => none) s.hem.needSync w (some false) } }) s

/-- Every watch needs a SYNC before its next packet (R326, R331, R332). -/
def hemNeedSync (s : State) (replay : Bool) : State :=
  { s with hem := { s.hem with needSync := (List.range 16).map fun w => (w, some replay) } }

/-! ## Packets -/

/-- A packet lost: discarded whole and counted (R322). -/
def hemLose (s : State) : State :=
  let s := fadd s Reg.HEM_LOST_CNT F.HEM_LOST_CNT_VALUE 1
  let s := oinc (fset s Reg.HEM_STATUS F.HEM_STATUS_OVF 1) Od.HEM_LOST
  { s with hem := { s.hem with lost := s.hem.lost + 1 } }

/-- A packet enters the merge FIFO of 16,384 words, or is lost (R322). After a loss nothing enters before OVERFLOW (R331). -/
def hemFifo (s : State) (pkt : HemPacket) : State :=
  if s.hem.lost ≠ 0 ∨ 16384 < packetWords s.hem.fifo + pkt.length then hemLose s
  else { s with hem := { s.hem with fifo := s.hem.fifo ++ [pkt] } }

/-- A packet of watch `w` enters its probe buffer of 64 words and passes to the merge FIFO, or is lost (R322). -/
def hemProbe (s : State) (w : Nat) (pkt : HemPacket) : State :=
  let b := sget (fun _ => []) s.hem.probes w
  if 16384 < packetWords s.hem.fifo + pkt.length ∧ packetWords b + pkt.length ≤ 64 ∧ s.hem.lost = 0 then
    { s with hem := { s.hem with probes := sset (fun _ => []) s.hem.probes w (b ++ [pkt]) } }
  else hemFifo s pkt

/-- The SYNC packet of a watch (R324). -/
def syncPacket (s : State) (w ecycle : Nat) (replay : Bool) : HemPacket :=
  let p := (hemOwner s).getD 0
  let fold := oget s (Od.VMAP_FOLD p)
  let len := match vmapCluster (fget s (Reg.HEM_WATCH_PHYS w) F.HEM_WATCH_PHYS_BINDING) with
    | some c => sweepLen s c
    | none => 0
  [packWord [(1, 28), (w, 24), (p, 20), (if fold = 2 then 1 else if fold = 4 then 2 else 0, 18),
     (fget s (Reg.HEM_WATCH_CFG w) F.HEM_WATCH_CFG_VCLUSTER, 0)],
   BitVec.ofNat 32 ecycle, BitVec.ofNat 32 (ecycle / 2 ^ 32), packWord [(replay.toNat, 16), (len, 0)]]

/-- A packet of watch `w` in `ecycle`, preceded by SYNC where R326 asks for one. -/
def hemWatchPacket (s : State) (w ecycle : Nat) (pkt : HemPacket) : State :=
  let need := sget (fun _ => none) s.hem.needSync w
  let period := fget s Reg.HEM_PACE F.HEM_PACE_SYNC_PERIOD
  let due := need.isSome || decide (sget (fun _ => 0) s.hem.lastEc w + 16 ≤ ecycle) ||
    (decide (period ≠ 0) && decide (sget (fun _ => 0) s.hem.lastSync w + period ≤ ecycle))
  let s := if due then
      let s := hemProbe s w (syncPacket s w ecycle (need.getD false))
      { s with hem := { s.hem with
          needSync := sset (fun _ => none) s.hem.needSync w none,
          lastSync := sset (fun _ => 0) s.hem.lastSync w ecycle } }
    else s
  hemProbe { s with hem := { s.hem with lastEc := sset (fun _ => 0) s.hem.lastEc w ecycle } } w pkt

/-- Ecycle `e` of the owner is traced (R329). -/
def hemTraces (s : State) (e : Nat) : Bool :=
  fbit s Reg.HEM_CTRL F.HEM_CTRL_EN &&
  (match s.hem.from_ with
   | some f => decide (f ≤ e)
   | none => false) &&
  (match s.hem.until_ with
   | some u => decide (e < u.1)
   | none => true)

/-- The STALL, SPLIT and RESULT packets of one watch for one stitch, in that order (R321, R324, R325). A stall's duration is
a time, so it is a free value. -/
def hemWatchStitch (s : State) (w p : Nat) (k : Cluster) (results : Word) (extra : Nat) (stall : Option Nat) : State :=
  let cfg := Reg.HEM_WATCH_CFG w
  let s := match stall with
    | some cause =>
      if fbit s cfg F.HEM_WATCH_CFG_STALL then
        let d := drawNat s
        if fget s Reg.HEM_PACE F.HEM_PACE_STALL_MIN ≤ d.1 then
          hemWatchPacket d.2 w k.ecycle
            [packWord [(2, 28), (w, 24), (k.ecycle % 16, 20), (cause, 17), (k.stitch, 0)],
             BitVec.ofNat 32 (min d.1 0xFFFFFFFF)]
        else d.2
      else s
    | none => s
  let s := if extra ≠ 0 ∧ fbit s cfg F.HEM_WATCH_CFG_SPLIT = true then
      hemWatchPacket s w k.ecycle [packWord [(3, 28), (w, 24), (k.ecycle % 16, 20), (extra, 15), (k.stitch, 0)]]
    else s
  let t := imageStitch s p k.stitch
  if fbit s cfg F.HEM_WATCH_CFG_RESULT = true ∧
      fget s (Reg.HEM_WATCH_RANGE w) F.HEM_WATCH_RANGE_FIRST ≤ t ∧
      t ≤ fget s (Reg.HEM_WATCH_RANGE w) F.HEM_WATCH_RANGE_LAST ∧
      k.ecycle % (fget s Reg.HEM_PACE F.HEM_PACE_DECIM + 1) = 0 then
    hemWatchPacket s w k.ecycle
      [packWord [(4, 28), (w, 24), (k.ecycle % 16, 20), (t, 0)], results &&& rget s (Reg.HEM_WATCH_MASK w)]
  else s

/-- What Hem records of one completed stitch (R321). `k` is the cluster as it ran the stitch. -/
def hemStitch (s : State) (c : ClusterId) (k : Cluster) (results : Word) (extra : Nat) (stall : Option Nat) : State :=
  match hemOwner s with
  | some p =>
    if partOf s c = some p ∧ hemTraces s k.ecycle = true then
      (List.range 16).foldl (fun s w =>
        if fbit s (Reg.HEM_WATCH_CFG w) F.HEM_WATCH_CFG_EN = true ∧
            vmapCluster (fget s (Reg.HEM_WATCH_PHYS w) F.HEM_WATCH_PHYS_BINDING) = some c then
          hemWatchStitch s w p k results extra stall
        else s) s
    else s
  | none => s

/-- The lowest virtual cluster that a physical cluster carries in partition `p`. -/
def vclusterOf (s : State) (p : Nat) (c : ClusterId) : Nat :=
  match (getPart s p).vmap.find? fun e => decide (vmapCluster e.2 = some c) with
  | some e => e.1
  | none => 0

/-- The MARK packet of an event of the owner (R321, R324). -/
def hemMark (s : State) (c : ClusterId) (ecycle stitch bp tag : Nat) : State :=
  match hemOwner s with
  | some p =>
    if partOf s c = some p ∧ fbit s Reg.HEM_CTRL F.HEM_CTRL_MARK_EN = true ∧ hemTraces s ecycle = true then
      hemFifo s [packWord [(5, 28), (vclusterOf s p c, 16), (tag, 0)], packWord [(bp, 27), (imageStitch s p stitch, 0)],
        BitVec.ofNat 32 ecycle, BitVec.ofNat 32 (ecycle / 2 ^ 32)]
    else s
  | none => s

/-! ## The sequencer (R328, R329) -/

def hemState (s : State) : Nat := fget s Reg.HEM_STATUS F.HEM_STATUS_STATE

/-- HEM_STATUS.STATE set, with HEM_CTRL.ARM reading 1 while ARMED. -/
def setHemState (s : State) (n : Nat) : State :=
  fset (fset s Reg.HEM_STATUS F.HEM_STATUS_STATE n) Reg.HEM_CTRL F.HEM_CTRL_ARM (if n = 1 then 1 else 0)

/-- A START (6) or STOP (7) packet (R324). -/
def windowPacket (s : State) (ptype event ecycle : Nat) : HemPacket :=
  [packWord [(ptype, 28), (event, 16), (fget s Reg.HEM_STATUS F.HEM_STATUS_WINDOWS, 0)],
   BitVec.ofNat 32 ecycle, BitVec.ofNat 32 (ecycle / 2 ^ 32)]

/-- The stop part of an event that takes effect at ecycle `x` (R329). -/
def hemStopEvent (s : State) (ev x : Nat) : State :=
  if hemState s = 2 ∧ (rget s Reg.HEM_STOP_SEL).getLsbD ev = true ∧ s.hem.until_ = none then
    { s with hem := { s.hem with until_ := some (x + (rget s Reg.HEM_STOP_DELAY).toNat, ev) } }
  else s

/-- An event that takes effect at ecycle `x`: in ARMED a start event opens the window and then counts as its own stop event;
in ON a stop event ends it after its delay (R328, R329). -/
def hemEvent (s : State) (ev x : Nat) : State :=
  if hemState s = 1 ∧ (rget s Reg.HEM_START_SEL).getLsbD ev = true then
    let s := fadd (setHemState s 2) Reg.HEM_STATUS F.HEM_STATUS_WINDOWS 1
    let s := { hemNeedSync s false with
      hem := { (hemNeedSync s false).hem with from_ := some x, until_ := none } }
    hemStopEvent (hemFifo s (windowPacket s 6 ev x)) ev x
  else hemStopEvent s ev x

/-- A wall-clock event, seen at the owner's present completed count `n`: it takes effect at `n` + 2 (R329). -/
def hemWallEvent (s : State) (ev : Nat) : State := hemEvent s ev (hemCount s + 2)

/-- The window ends once every ecycle before its end has completed: STOP is sent (R325, R328). -/
def hemClose (s : State) : State :=
  match s.hem.until_ with
  | some (u, ev) =>
    if hemState s = 2 ∧ u ≤ hemCount s then
      setHemState (hemFifo s (windowPacket s 7 ev u)) (if fbit s Reg.HEM_CTRL F.HEM_CTRL_REARM then 1 else 3)
    else s
  | none => s

/-- The owner's completed count has risen to `n`: the MARK events of ecycle `n` - 1 and the exact event 21 are decided, and
a window that has run out closes (R329). -/
def hemCompleted (s : State) (p : Nat) (marks : List MarkEvent) : State :=
  if hemOwner s = some p then
    let n := (getPart s p).completed
    let s := marks.foldl (fun s m =>
      if (BitVec.ofNat 16 m.tag ^^^ BitVec.ofNat 16 (fget s Reg.HEM_MARK_MATCH F.HEM_MARK_MATCH_VALUE)) &&&
          BitVec.ofNat 16 (fget s Reg.HEM_MARK_MATCH F.HEM_MARK_MATCH_MASK) = 0 then hemEvent s 20 (m.ecycle + 1) else s) s
    let at21 := (rget s Reg.HEM_ECYC_START_LO).toNat + 2 ^ 32 * (rget s Reg.HEM_ECYC_START_HI).toNat
    hemClose (if at21 = n + 1 then hemEvent s 21 at21 else s)
  else s

/-- Hem stops at once: STOP with event 0xFF if ON, then IDLE (R320, R328). -/
def hemStop (s : State) : State :=
  let u := hemCount s + 2
  let s := if hemState s = 2 then hemFifo s (windowPacket s 7 0xFF u) else s
  let s := setHemState s 0
  { s with hem := { s.hem with from_ := none, until_ := none } }

/-- Hem stops and loses its owner (R320). -/
def hemRelease (s : State) : State := oset (hemStop s) Od.HEM_OWNER 255

/-- DEST names the port. -/
def hemToPort (s : State) : Bool :=
  decide (fget s Reg.HEM_CTRL F.HEM_CTRL_DEST = 1 ∨ fget s Reg.HEM_CTRL F.HEM_CTRL_DEST = 3)

/-- The port is enabled: Hem runs with DEST naming it, or has packets left to send on it (R328, R334). -/
def hemPortOn (s : State) : Bool :=
  hemToPort s && (fbit s Reg.HEM_CTRL F.HEM_CTRL_EN || !s.hem.fifo.isEmpty || !s.hem.port.part.isEmpty)

/-- HEM_STATUS.PORT_UP and PORT_DENIED (R320, R334). -/
def hemPortState (s : State) : State :=
  fsets s Reg.HEM_STATUS
    [(F.HEM_STATUS_PORT_UP, if hemPortOn s then 1 else 0),
     (F.HEM_STATUS_PORT_DENIED, if hemToPort s && decide (oget s Od.HEM_PORT_ALLOW = 0) then 1 else 0)]

/-! ## The outlet: port and buffer (R333, R335) -/

/-- A watch's packet: the watch, E4 as the packet gives it, and the whole ecycle of a SYNC (R324). -/
def watchPacket (pkt : HemPacket) : Option (Nat × Nat × Option Nat) :=
  match pkt with
  | h :: rest =>
    let w := h.toNat / 2 ^ 24 % 16
    match h.toNat / 2 ^ 28 with
    | 1 => some (w, 0, some ((rest.getD 0 0).toNat + (rest.getD 1 0).toNat * 2 ^ 32))
    | 2 => some (w, h.toNat / 2 ^ 20 % 16, none)
    | 3 => some (w, h.toNat / 2 ^ 20 % 16, none)
    | 4 => some (w, h.toNat / 2 ^ 20 % 16, none)
    | _ => none
  | [] => none

/-- E4 extended against the last full ecycle of its watch, as a reader does (R326). -/
def extendE4 (last e4 : Nat) : Nat := if last / 16 * 16 + e4 < last then last / 16 * 16 + e4 + 16 else last / 16 * 16 + e4

/-- The ecycle of a watch's packet. -/
def packetEcycle (s : State) (x : Nat × Nat × Option Nat) : Nat :=
  x.2.2.getD (extendE4 (sget (fun _ => 0) s.hem.outEc x.1) x.2.1)

/-- Words put into the buffer at an offset, which WPTR then follows. -/
def bufferWords (s : State) (w : Nat) (ws : List Word) : State :=
  let size := oget s Od.HEM_BUF_MIB * 0x100000
  let s := setMemBytes s (s.hem.bufBase + w) (ws.flatMap fun x => (List.range 4).map fun i => x.extractLsb' (8 * i) 8)
  rset s Reg.HEM_BUF_WPTR (BitVec.ofNat 32 ((w + 4 * ws.length) % max size 1))

/-- The SYNC packets of every enabled watch, each with the ecycle of the watch's next packet among those to come (R326, R335). -/
def boundarySyncs (s : State) (coming : List HemPacket) : List Word :=
  (List.range 16).flatMap fun w =>
    if fbit s (Reg.HEM_WATCH_CFG w) F.HEM_WATCH_CFG_EN then
      match coming.findSome? fun p => (watchPacket p).bind fun x => if x.1 = w then some (packetEcycle s x) else none with
      | some e => syncPacket s w e false
      | none => syncPacket s w (sget (fun _ => 0) s.hem.outEc w) false
    else []

/-- A packet put into the buffer at HEM_BUF_WPTR (R335): IDLE words pad up to a 64 KiB boundary that it would cross, and SYNC for
every enabled watch stands at each boundary, but before the START of a window, which is followed by SYNC itself; writing wraps, or
fills the buffer in fill mode, when event 23 is raised and BUF_FULL set; and at STOP the last line is padded. -/
def hemToBuffer (s : State) (pkt : HemPacket) : State :=
  let size := oget s Od.HEM_BUF_MIB * 0x100000
  let w := (rget s Reg.HEM_BUF_WPTR).toNat
  let ptype := (pkt.headD 0).toNat / 2 ^ 28
  if size = 0 ∨ (hemOwner s).isNone = true then s
  else if fbit s Reg.HEM_STATUS F.HEM_STATUS_BUF_FULL then hemLose s
  else
    let w' := if w % 0x10000 + 4 * pkt.length ≤ 0x10000 then w else (w / 0x10000 + 1) * 0x10000
    if size < w' + 4 * pkt.length ∧ oget s Od.HEM_BUF_WRAP = 0 then
      hemWallEvent (hemLose (fset s Reg.HEM_STATUS F.HEM_STATUS_BUF_FULL 1)) 23
    else
      let s := if w' = w then s else zeroMem s (s.hem.bufBase + w) (s.hem.bufBase + min w' size)
      let a := w' % size
      let ws := (if a % 0x10000 = 0 ∧ ptype ≠ 6 then boundarySyncs s (pkt :: s.hem.fifo) else []) ++ pkt
      let pad := if ptype = 7 then (16 - (a / 4 + ws.length) % 16) % 16 else 0
      let s := bufferWords s a (ws ++ List.replicate pad 0)
      if rget s Reg.HEM_BUF_WPTR = 0 ∧ oget s Od.HEM_BUF_WRAP = 0 then
        hemWallEvent (fset s Reg.HEM_STATUS F.HEM_STATUS_BUF_FULL 1) 23
      else s

/-- The oldest packet of the merge FIFO leaves for the port and the buffer that DEST names; the probe buffers refill the
FIFO (R320, R322). -/
def hemDrain (s : State) : State :=
  match s.hem.fifo with
  | [] => s
  | pkt :: rest =>
    let d := fget s Reg.HEM_CTRL F.HEM_CTRL_DEST
    let s := { s with hem := { s.hem with fifo := rest } }
    let s := if hemToPort s && decide (oget s Od.HEM_PORT_ALLOW = 1) then
        { s with hem := { s.hem with port := { s.hem.port with part := pkt } } } else s
    let s := if d = 2 ∨ d = 3 then hemToBuffer s pkt else s
    let s := match watchPacket pkt with
      | some x => { s with hem := { s.hem with outEc := sset (fun _ => 0) s.hem.outEc x.1 (packetEcycle s x) } }
      | none => s
    match s.hem.probes with
    | (w, q :: qs) :: _ =>
      if packetWords s.hem.fifo + q.length ≤ 16384 then
        { s with hem := { s.hem with fifo := s.hem.fifo ++ [q], probes := sset (fun _ => []) s.hem.probes w qs } }
      else s
    | _ => s

/-! ### The Hem port (R333, R334) -/

/-- The port's own state replaced. -/
def setHemPort (s : State) (x : HemPort) : State := { s with hem := { s.hem with port := x } }

/-- The ALIGN word of a lane (R324). -/
def alignWord (lane : Nat) : Word := packWord [(0xF, 28), (lane, 24), (0x5AA5C3, 0)]

/-- The next word of the port's stream: of the packet being sent, of the next packet, or IDLE (R320, R323, R333). A packet in transit
stops when HEM_PORT_ALLOW is taken away. -/
def portWord (s : State) : State × Word :=
  let s := if oget s Od.HEM_PORT_ALLOW = 1 then s else setHemPort s { s.hem.port with part := [] }
  let s := if s.hem.port.part.isEmpty then hemDrain s else s
  match s.hem.port.part with
  | w :: rest => (setHemPort s { s.hem.port with part := rest }, w)
  | [] => (s, 0)

/-- A word driven in parallel mode: bits [15:0] at the rising edge of HEM_CLK and bits [31:16] at the falling edge (R333). -/
def driveParallel (s : State) (w : Word) (since : Nat) : State :=
  let x := s.hem.port
  setHemPort s { x with
    sinceAlign := some since, d := w.extractLsb' 16 16, clk := false, lit := 0,
    halves := x.halves ++ [(true, w.extractLsb' 0 16), (false, w.extractLsb' 16 16)] }

/-- One word in parallel mode: ALIGN first, and again before 1,023 other words have gone since the last, never inside a packet
(R333). -/
def parallelStep (s : State) : State :=
  let x := s.hem.port
  let next := max 1 (s.hem.fifo.headD []).length
  match x.sinceAlign with
  | none => driveParallel s (alignWord 0) 0
  | some n =>
    if x.part.isEmpty && decide (1023 < n + next) then driveParallel s (alignWord 0) 0
    else
      let r := portWord s
      driveParallel r.1 r.2 (n + 1)

/-- The self-synchronising scrambler 1 + x^39 + x^58 over `n` bits of `v` from bit `i` on: the state, its last bit sent lowest, and
the bits sent so far (R334). -/
def scramble (n i : Nat) (v : BitVec 64) (st : BitVec 58) (out : BitVec 64) : BitVec 58 × BitVec 64 :=
  match n with
  | 0 => (st, out)
  | n + 1 =>
    let b := (v.getLsbD i ^^ st.getLsbD 38) ^^ st.getLsbD 57
    scramble n (i + 1) v ((st <<< 1) ||| (BitVec.ofBool b).setWidth 58) (out ||| ((BitVec.ofBool b).setWidth 64 <<< i))

/-- Serial lanes in use (HEM_PORT.LANES). -/
def hemLanes (s : State) : Nat := 2 ^ fget s Reg.HEM_PORT F.HEM_PORT_LANES

/-- The words of the next block of lane `j`: two ALIGN words once in every 16,384 blocks of the lane, or the next two words of the
stream (R334). -/
def blockWords (s : State) (j : Nat) : State × Word × Word :=
  if s.hem.port.blocks / hemLanes s % 16384 = 0 then (s, alignWord j, alignWord j)
  else
    let a := portWord s
    let b := portWord a.1
    (b.1, a.2, b.2)

/-- One block in serial mode, on lane `k` mod the lane count for block `k`: a data block, its earlier word in the lower half, scrambled
(R334). -/
def serialBlock (s : State) : State :=
  let j := s.hem.port.blocks % hemLanes s
  let r := blockWords s j
  let x := r.1.hem.port
  let e := scramble 64 0 (r.2.2 ++ r.2.1)
    ((sget (fun _ => none) x.scramblers j).getD (Config.hemScrambler j s.ticks)) 0
  setHemPort r.1 { x with
    blocks := x.blocks + 1, scramblers := sset (fun _ => none) x.scramblers j (some e.1), d := 0, clk := false,
    lit := hemLanes s,
    lanes := sset (fun _ => []) x.lanes j (sget (fun _ => []) x.lanes j ++ [⟨1#2, e.2⟩]) }

/-- The outlet in one period (assumption 92): an enabled port sends one word, or one block on each of its lanes; a port that is
disabled holds its outputs low and its lanes in electrical idle, and the FIFO drains into the buffer (R333 to R335). -/
def hemTick (s : State) : State :=
  let s := if hemPortOn s then
      if fbit s Reg.HEM_PORT F.HEM_PORT_MODE then (List.range (hemLanes s)).foldl (fun s _ => serialBlock s) s else parallelStep s
    else
      let x := s.hem.port
      hemDrain (setHemPort s { x with
        part := [], sinceAlign := none, blocks := 0, scramblers := [], d := 0, clk := false, lit := 0 })
  hemPortState s

/-! ## The commands -/

/-- HEM_CTRL.EN written 1: Hem starts for its owner, with WINDOWS and HEM_LOST at 0 (R328, R336). -/
def hemEnable (s : State) : State :=
  if fbit s Reg.HEM_CTRL F.HEM_CTRL_EN then s
  else
    let s := fset (fset s Reg.HEM_CTRL F.HEM_CTRL_EN 1) Reg.HEM_STATUS F.HEM_STATUS_WINDOWS 0
    let s := oset s Od.HEM_LOST 0
    hemPortState (hemRebind s)

/-- HEM_CTRL.EN written 0: STOP with event 0xFF if ON, and IDLE (R328). -/
def hemDisable (s : State) : State := hemPortState (fset (hemStop s) Reg.HEM_CTRL F.HEM_CTRL_EN 0)

/-- HEM_CTRL.ARM written 1: from IDLE or DONE to ARMED (R328). Hem takes it only while EN is 1. -/
def hemArm (s : State) : State :=
  if fbit s Reg.HEM_CTRL F.HEM_CTRL_EN = true ∧ (hemState s = 0 ∨ hemState s = 3) then setHemState s 1 else s

/-- HEM_EVENT: an event of R328 is decided. Event 21 takes effect at HEM_ECYC_START, or at the next ecycle that can still be
decided; event 20 at the ecycle after its MARK's, which has just completed; the others are wall-clock events (R329). -/
def hemEventDecided (s : State) (ev : Nat) : State :=
  let n := hemCount s
  let x :=
    if ev = 21 then max ((rget s Reg.HEM_ECYC_START_LO).toNat + 2 ^ 32 * (rget s Reg.HEM_ECYC_START_HI).toNat) (n + 1)
    else if ev = 20 then n + 1
    else n + 2
  hemClose (hemEvent s ev x)

/-- HEM_OVERFLOW_SEND: once the merge FIFO has room after a loss, OVERFLOW goes before any other packet, and every watch
then sends SYNC (R331). -/
def hemOverflowSend (s : State) : State :=
  if s.hem.lost ≠ 0 ∧ packetWords s.hem.fifo + 2 ≤ 16384 then
    let pkt : HemPacket := [packWord [(0xA, 28)], BitVec.ofNat 32 (min s.hem.lost 0xFFFFFFFF)]
    hemNeedSync { s with hem := { s.hem with lost := 0, fifo := s.hem.fifo ++ [pkt] } } false
  else s

/-- HEM_RATE_TICK: RATE packets for each Weave die, while RATE_EN is 1 (R321). -/
def hemRateTick (s : State) : State :=
  if fbit s Reg.HEM_CTRL F.HEM_CTRL_EN = true ∧ fbit s Reg.HEM_CTRL F.HEM_CTRL_RATE_EN = true ∧ hemState s = 2 then
    (List.range 4).foldl (fun s d =>
      hemFifo s [packWord [(0xB, 28), (d, 26), (fget s (Reg.BP_RATE_METER d) F.BP_RATE_METER_RATE, 0)]]) s
  else s

/-- The watches whose clusters lie in block domain `dom` (R330). -/
def watchesIn (s : State) (dom : Nat) : Nat :=
  (List.range 16).foldl (fun m w =>
    match vmapCluster (fget s (Reg.HEM_WATCH_PHYS w) F.HEM_WATCH_PHYS_BINDING) with
    | some c =>
      if fbit s (Reg.HEM_WATCH_CFG w) F.HEM_WATCH_CFG_EN = true ∧
          16 * c.die.val + 4 * (c.row.val / 8) + min c.col.val 31 / 8 = dom then m + 2 ^ w else m
    | none => m) 0

/-- A GAP (8) or RESUME (9) packet for the watches of mask `m` in a block domain; RESUME asks each for SYNC (R326, R330). -/
def hemGapPacket (s : State) (ptype dom m : Nat) : State :=
  if m = 0 ∨ hemState s ≠ 2 then s
  else
    let s := hemFifo s [packWord [(ptype, 28), (dom, 16), (m, 0)], BitVec.ofNat 32 (hemCount s)]
    if ptype = 9 then
      (List.range 16).foldl (fun s w =>
        if m / 2 ^ w % 2 = 1 then
          { s with hem := { s.hem with needSync := sset (fun _ => none) s.hem.needSync w (some false) } }
        else s) s
    else s

/-- Block domain `k` has reached STATE 3: Hem sends GAP where it holds a watched cluster (R330). -/
def hemGap (s : State) (k : Nat) : State :=
  if 64 ≤ k ∨ s.hem.asleep / 2 ^ k % 2 = 1 then s
  else hemGapPacket { s with hem := { s.hem with asleep := s.hem.asleep + 2 ^ k } } 8 k (watchesIn s k)

/-- Block domain `k` is back in STATE 0: Hem sends RESUME where it sent GAP (R330). -/
def hemResume (s : State) (k : Nat) : State :=
  if s.hem.asleep / 2 ^ k % 2 = 0 then s
  else hemGapPacket { s with hem := { s.hem with asleep := s.hem.asleep - 2 ^ k } } 9 k (watchesIn s k)

def execHemEnable (s : State) : Host.Outcome State Fault Refusal := .next (hemEnable s)
def execHemDisable (s : State) : Host.Outcome State Fault Refusal := .next (hemDisable s)
def execHemArm (s : State) : Host.Outcome State Fault Refusal := .next (hemArm s)
def execSwev (s : State) : Host.Outcome State Fault Refusal := .next (hemWallEvent s 22)
def execHemEvent (event : Fin 24) (s : State) : Host.Outcome State Fault Refusal := .next (hemEventDecided s event.val)
def execHemOverflowSend (s : State) : Host.Outcome State Fault Refusal := .next (hemOverflowSend s)
def execHemRateTick (s : State) : Host.Outcome State Fault Refusal := .next (hemRateTick s)

end Sys2Proof.Machine
end

