-- ==== Sys2Proof/Machine/Acq.lean ====
section
/-! DEFINITION. Trigger and acquisition (13): the probe vector, the units' sequencers, segments, streams and toggle records,
the trigger lines and the trigger bus. -/

namespace Sys2Proof.Machine

/-! ## Units and their RAM -/

/-- A unit's own state. -/
def getUnit (s : State) (u : Nat) : AcqUnit := sget (fun _ => {}) s.acq u

/-- A unit's own state replaced. -/
def setUnit (s : State) (u : Nat) (x : AcqUnit) : State := { s with acq := sset (fun _ => {}) s.acq u x }

/-- The partition whose quota holds a unit (OD 6p46.01). -/
def unitPart (s : State) (u : Nat) : Option Nat :=
  (List.range 16).find? fun p => decide (oget s (Od.ACQ_UNITS p) / 2 ^ u % 2 = 1)

/-- The units of a partition. -/
def unitsOf (s : State) (p : Nat) : List Nat :=
  (List.range 16).filter fun u => decide (oget s (Od.ACQ_UNITS p) / 2 ^ u % 2 = 1)

/-- ACQ_U_STATUS.STATE (R344). -/
def unitState (s : State) (u : Nat) : Nat := fget s (Reg.ACQ_U_STATUS u) F.ACQ_U_STATUS_STATE

/-- A unit's state set, with its bit of ACQ_STATUS.ACTIVE. -/
def setUnitState (s : State) (u n : Nat) : State :=
  let s := fset s (Reg.ACQ_U_STATUS u) F.ACQ_U_STATUS_STATE n
  let a := fget s Reg.ACQ_STATUS F.ACQ_STATUS_ACTIVE
  let on := decide (1 ≤ n) && decide (n ≤ 3)
  fset s Reg.ACQ_STATUS F.ACQ_STATUS_ACTIVE (a - a / 2 ^ u % 2 * 2 ^ u + (if on then 2 ^ u else 0))

/-- WERR of a unit. -/
def unitWerr (s : State) (u : Nat) : State := fset s (Reg.ACQ_U_STATUS u) F.ACQ_U_STATUS_WERR 1

/-- A field of ACQ_U_CFG. -/
def ucfg (s : State) (u : Nat) (f : Fld) : Nat := fget s (Reg.ACQ_U_CFG u) f

/-- The address of a unit's RAM. -/
def unitRam (u : Nat) : Nat := 0x020000D20000 + 0x2000 * u

/-- Capture-list entry `i` of a unit. -/
def captureEntry (s : State) (u i : Nat) : Nat := memLE s (unitRam u + 2 * i) 2

/-- CAP_WORDS of a unit. -/
def capWords (s : State) (u : Nat) : Nat := ucfg s u F.ACQ_U_CFG_CAP_WORDS_M1 + 1

/-- Word `n` of sequencer state `q` (R349). -/
def seqWord (s : State) (u q n : Nat) : Word := BitVec.ofNat 32 (memLE s (unitRam u + 0x1000 + 0x20 * q + 4 * n) 4)

/-- Bits `[hi:lo]` of a word. -/
def wordBits (w : Word) (hi lo : Nat) : Nat := (w.toNat >>> lo) % 2 ^ (hi + 1 - lo)

/-- The value of a select or capture entry in a probe vector (R347, R343): 0 for 0xFFFF, else counted from
ACQ_PROBE_FIRST. -/
def probeBit (s : State) (p : Nat) (vec : SMap Bool) (e : Nat) : Bool :=
  if e = 0xFFFF then false else sget (fun _ => false) vec (oget s (Od.ACQ_PROBE_FIRST p) + e)

/-- The capture words of a sample (R353). -/
def sampleWords (s : State) (p u : Nat) (vec : SMap Bool) : List Nat :=
  (List.range (capWords s u)).map fun i =>
    ((List.range 32).map fun j => if probeBit s p vec (captureEntry s u (32 * i + j)) then 2 ^ j else 0).sum

/-! ## The trigger conditions (R345, R347) -/

/-- The 64 probe bits of a comparator, as a number. -/
def compBits (s : State) (p u k : Nat) (vec : SMap Bool) : BitVec 64 :=
  BitVec.ofNat 64 (((List.range 64).map fun j =>
    if probeBit s p vec (memLE s (unitRam u + 0x800 + 0x100 * k + 2 * j) 2) then 2 ^ j else 0).sum)

/-- Comparator `k` matches (R347); `w` is the vector of the ecycle before. -/
def compMatch (s : State) (p u k : Nat) (cur prev : SMap Bool) : Bool :=
  let base := unitRam u + 0x800 + 0x100 * k
  let value : BitVec 64 := BitVec.ofNat 64 (memLE s (base + 0x80) 8)
  let mask : BitVec 64 := BitVec.ofNat 64 (memLE s (base + 0x88) 8)
  let v := compBits s p u k cur
  let w := compBits s p u k prev
  match memLE s (base + 0x90) 4 % 8 with
  | 0 => decide ((v ^^^ value) &&& mask = 0)
  | 1 => decide ((v ^^^ value) &&& mask ≠ 0)
  | 2 => decide (~~~ w &&& v &&& mask ≠ 0)
  | 3 => decide (w &&& ~~~ v &&& mask ≠ 0)
  | 4 => decide ((v ^^^ w) &&& mask ≠ 0)
  | _ => false

/-- A unit's counter (48 bits). -/
def unitCnt (x : AcqUnit) (k : Nat) : Nat := sget (fun _ => 0) x.cnt k

/-- A unit's timer. -/
def unitTimer (x : AcqUnit) (k : Nat) : AcqTimer := sget (fun _ => {}) x.timers k

/-- Timer `k` has expired at ecycle `x` (R351). -/
def timerExpired (s : State) (u : Nat) (y : AcqUnit) (k x : Nat) : Bool :=
  let t := unitTimer y k
  if fbit s (Reg.ACQ_U_TIMER u k) F.ACQ_U_TIMER_MODE then
    (match t.expired with
     | some e => decide (e ≤ x)
     | none => false)
  else t.run && decide ((rget s (Reg.ACQ_U_TLIMIT u k)).toNat ≤ t.count)

/-- The limit of counter `k`. -/
def unitLimit (s : State) (u k : Nat) : Nat :=
  (rget s (Reg.ACQ_U_LIMIT_LO u k)).toNat + 2 ^ 32 * fget s (Reg.ACQ_U_LIMIT_HI u k) F.ACQ_U_LIMIT_HI_LIMIT

/-- A MARK event of the partition whose TAG matches a VALUE and MASK register field pair. -/
def tagMatches (tag value mask : Nat) : Bool :=
  decide ((BitVec.ofNat 16 tag ^^^ BitVec.ofNat 16 value) &&& BitVec.ofNat 16 mask = 0)

/-- The event vector EV of R345 for ecycle `x`. -/
def eventVector (s : State) (p u x : Nat) (cur prev : SMap Bool) : Word :=
  let y := getUnit s u
  let q := getPart s p
  let bit := fun (i : Nat) (b : Bool) => if b then 2 ^ i else 0
  let comps := ((List.range 8).map fun k => bit k (compMatch s p u k cur prev)).sum
  let cnts := ((List.range 4).map fun k => bit (8 + k) (decide (unitLimit s u k ≤ unitCnt y k))).sum
  let tims := ((List.range 4).map fun k => bit (12 + k) (timerExpired s u y k x)).sum
  let trigs := ((List.range 4).map fun k => bit (16 + k) (q.trigAt.contains (k, x))).sum
  let flags := ((List.range 4).map fun k => bit (21 + k) (decide (q.flags / 2 ^ k % 2 = 1))).sum
  let mark := q.marks.any fun m => decide (m.ecycle + 1 = x) &&
    tagMatches m.tag (fget s (Reg.ACQ_U_MARK_MATCH u) F.ACQ_U_MARK_MATCH_VALUE)
      (fget s (Reg.ACQ_U_MARK_MATCH u) F.ACQ_U_MARK_MATCH_MASK)
  let at_ := (rget s (Reg.ACQ_U_ECYC_AT_LO u)).toNat + 2 ^ 32 * (rget s (Reg.ACQ_U_ECYC_AT_HI u)).toNat
  BitVec.ofNat 32 (comps + cnts + tims + trigs + flags + bit 25 mark + bit 26 (decide (x = at_)))

/-- A transition's condition (R349). -/
def condOf (ev mask action : Word) : Bool :=
  wordBits action 1 1 == 1 &&
  (if wordBits action 30 30 = 1 then decide (ev &&& mask ≠ 0) else decide (ev &&& mask = mask))

/-! ## Buffers (R353, R357, R361) -/

/-- SLOT, in bytes (R353). -/
def slotBytes (s : State) (u : Nat) : Nat := 8 * ucfg s u F.ACQ_U_CFG_STAMP + 4 * capWords s u

/-- The address of a unit's buffer. -/
def unitBuf (s : State) (p u : Nat) : Nat :=
  (getPart s p).acqBase + fget s (Reg.ACQ_U_BUF u) F.ACQ_U_BUF_OFFSET_MIB * 0x100000

/-- The size of a unit's buffer in bytes. -/
def unitBufSize (s : State) (u : Nat) : Nat := fget s (Reg.ACQ_U_BUF u) F.ACQ_U_BUF_SIZE_MIB * 0x100000

/-- SEGMENTS of a unit. -/
def segments (s : State) (u : Nat) : Nat := fget s (Reg.ACQ_U_SEG u) F.ACQ_U_SEG_SEGMENTS_M1 + 1

/-- SEG_SAMPLES and PRE of a unit. -/
def segSamples (s : State) (u : Nat) : Nat := (rget s (Reg.ACQ_U_SAMPLES u)).toNat
def segPre (s : State) (u : Nat) : Nat := (rget s (Reg.ACQ_U_PRE u)).toNat

/-- `n` rounded up to a multiple of `m`. -/
def roundUp (n m : Nat) : Nat := (n + m - 1) / m * m

/-- B and S of R357. -/
def segB (s : State) (u : Nat) : Nat := roundUp (64 * segments s u) 4096
def segS (s : State) (u : Nat) : Nat := roundUp (segSamples s u * slotBytes s u) 64

/-- The TIME80 now, in domain A. -/
def now80 (s : State) : Nat := time80 s.timeA

/-- A TIME80 as its 10 bytes, little-endian: nanoseconds and then seconds (R10). -/
def time80Bytes (t : Nat) : List Byte := leBytes 10 t

/-- The header of the open segment, VALID and CRC included (R358). -/
def segHeader (count flags : Nat) (t : AcqTrig) (first kept pre slot missed : Nat) : List Byte :=
  let body := leBytes 4 (min count 0xFFFFFFFF) ++ leBytes 2 flags ++ leBytes 1 t.cause ++ leBytes 1 t.state ++
    leBytes 8 t.ecycle ++ leBytes 8 first ++ leBytes 4 kept ++ leBytes 4 pre ++ leBytes 4 slot ++
    leBytes 4 (min missed 0xFFFFFFFF) ++ time80Bytes t.time ++ leBytes 10 0
  body ++ leBytes 4 (crc32 body)

/-- Samples of the open segment at or after ecycle `t`, and before it. -/
def postCount (x : AcqUnit) (t : Nat) : Nat := (x.ecs.filter fun e => decide (t ≤ e)).length
def preCount (x : AcqUnit) (t : Nat) : Nat := (x.ecs.filter fun e => decide (e < t)).length

/-- The VALID bit of a segment's header cleared (R358). -/
def clearValid (s : State) (p u seg : Nat) : State :=
  let a := unitBuf s p u + 64 * seg + 4
  setMemLE s a 2 (memLE s a 2 / 2 * 2)

/-- The next segment opened empty: sequencer state 0, nothing stored (R356). -/
def openSegment (s : State) (p u seg : Nat) : State :=
  let x := getUnit s u
  clearValid (setUnit s u { x with segment := seg, stored := 0, ecs := [], trig := none, wall := false, armedFor := 0 })
    p u seg

/-- The open segment closes: its header is written, and the unit re-arms or is DONE (R354, R356, R357, R358). -/
def closeSegment (s : State) (p u : Nat) (truncated : Bool) : State :=
  let x := getUnit s u
  match x.trig with
  | none => s
  | some t =>
    let post := min (postCount x t.ecycle) (segSamples s u - segPre s u)
    let pre := min (preCount x t.ecycle) (segPre s u)
    let kept := (x.ecs.take (postCount x t.ecycle + pre)).reverse.take (post + pre)
    let first := kept.headD t.ecycle
    let slot := (x.stored - (postCount x t.ecycle + pre)) % max (segSamples s u) 1
    let s := fadd s (Reg.ACQ_U_SEGS_DONE u) F.ACQ_U_SEGS_DONE_COUNT 1
    let flags := 1 + (if pre < segPre s u then 2 else 0) + (if truncated then 4 else 0) + (if x.wall then 8 else 0)
    let s := setMemBytes s (unitBuf s p u + 64 * x.segment)
      (segHeader (fget s (Reg.ACQ_U_SEGS_DONE u) F.ACQ_U_SEGS_DONE_COUNT) flags t first (post + pre) pre slot x.missed)
    let s := setUnit s u { getUnit s u with missed := 0 }
    if truncated then s
    else if x.segment + 1 = segments s u ∧ ucfg s u F.ACQ_U_CFG_WRAP = 0 then setUnitState s u 4
    else fset (setUnitState s u 3) (Reg.ACQ_U_STATUS u) F.ACQ_U_STATUS_SEQ_STATE 0

/-! ## Streams (R359) -/

/-- The DMA queue of a stream unit. -/
def streamQueue (s : State) (u : Nat) : Nat := fget s (Reg.ACQ_U_STREAMQ u) F.ACQ_U_STREAMQ_QUEUE

/-- Descriptors posted on a queue and not yet completed (R486). -/
def dmaPending (s : State) (q : Nat) : Nat :=
  ((rget s (Reg.DMAQ_TAIL (q / 64) (q % 64))).toNat + 2 ^ 17 - (rget s (Reg.DMAQ_HEAD (q / 64) (q % 64))).toNat) % 2 ^ 17

/-- A queue runs with this client and direction (R485). -/
def dmaServes (s : State) (q client dir : Nat) : Bool :=
  decide (fget s (Reg.DMAQ_STATUS (q / 64) (q % 64)) F.DMAQ_STATUS_STATE = 1) &&
  decide (fget s (Reg.DMAQ_CFG (q / 64) (q % 64)) F.DMAQ_CFG_CLIENT = client) &&
  decide (fget s (Reg.DMAQ_CFG (q / 64) (q % 64)) F.DMAQ_CFG_DIR = dir)

/-- Messages waiting in a host-bound queue. -/
def hostQueue (s : State) (q : Nat) : List HostMsg := sget (fun _ => []) s.toHost q

/-- `n` more records fit a host-bound queue: a posted descriptor for each record waiting. -/
def streamRoom (s : State) (q n : Nat) : Bool :=
  dmaServes s q 3 1 && decide ((hostQueue s q).length + n ≤ dmaPending s q)

/-- A message put into a host-bound queue. -/
def sendHost (s : State) (q : Nat) (m : HostMsg) : State :=
  { s with toHost := sset (fun _ => []) s.toHost q (hostQueue s q ++ [m]) }

/-- A stream record: its header, its body (R359). -/
def streamRecord (rtype ecycle : Nat) (body : List Byte) : HostMsg :=
  ⟨leBytes 8 (rtype * 2 ^ 60 + ecycle % 2 ^ 48) ++ body, true⟩

/-- The records of one ecycle sent, or dropped under DROP 1 (R359). -/
def streamSend (s : State) (u x : Nat) (rs : List HostMsg) : State :=
  let q := streamQueue s u
  let y := getUnit s u
  if rs.isEmpty then s
  else
    match y.gap with
    | some (e, n) =>
      if streamRoom s q (rs.length + 1) then
        let s := sendHost (setUnit s u { y with gap := none }) q (streamRecord 3 e (leBytes 8 n))
        rs.foldl (fun s r => sendHost s q r) s
      else setUnit s u { y with gap := some (e, n + 1) }
    | none =>
      if streamRoom s q rs.length then rs.foldl (fun s r => sendHost s q r) s
      else fset (setUnit s u { y with gap := some (x, 1) }) (Reg.ACQ_U_STATUS u) F.ACQ_U_STATUS_OVF 1

/-! ## Toggle records (R360, R361) -/

/-- The bytes of one toggle record. -/
def toggleRecordBytes (s : State) (u : Nat) : Nat := 64 + roundUp (64 * capWords s u) 64

/-- The interval of a TOGGLE unit ends and its record is written (R360, R361). -/
def toggleClose (s : State) (p u : Nat) : State :=
  let x := getUnit s u
  let bits := 32 * capWords s u
  let wall := x.wall || decide (ucfg s u F.ACQ_U_CFG_INT_TIME = 1)
  let body := leBytes 8 (x.firstEc.getD 0) ++ leBytes 8 x.lastEc ++ leBytes 4 x.counted ++
    leBytes 4 (1 + (if wall then 2 else 0) + (if x.trig.isSome then 4 else 0)) ++
    leBytes 8 ((x.trig.map fun t => t.ecycle).getD 0) ++ time80Bytes (time80 x.startTime) ++ time80Bytes (now80 s) ++
    leBytes 2 bits ++ leBytes 6 0
  let rec_ := body ++ leBytes 4 (crc32 body) ++
    (List.range bits).flatMap fun i => leBytes 2 (sget (fun _ => 0) x.toggles i * 32768 / max x.counted 1)
  let n := toggleRecordBytes s u
  let s := setMemBytes s (unitBuf s p u + x.recordAt) rec_
  let s := fadd s (Reg.ACQ_U_SEGS_DONE u) F.ACQ_U_SEGS_DONE_COUNT 1
  let full := decide (unitBufSize s u < x.recordAt + 2 * n)
  let s := setUnit s u { x with
    toggles := [], counted := 0, firstEc := none, trig := none, wall := false,
    recordAt := if full then 0 else x.recordAt + n }
  if full && decide (ucfg s u F.ACQ_U_CFG_WRAP = 0) then setUnitState s u 4 else s

/-! ## Triggers (R352, R354 to R356, R362, R364) -/

/-- What a trigger does outside its unit: a pulse on the trigger outputs that name it, and Hem event 4 + u (R352, R362). -/
def trigOutside (s : State) (u : Nat) : State :=
  let s := (List.range 4).foldl (fun s k =>
    if fget s (Reg.ACQ_TRIG_OUT k) F.ACQ_TRIG_OUT_SRC = 1 ∧ fget s (Reg.ACQ_TRIG_OUT k) F.ACQ_TRIG_OUT_UNIT = u ∧
        ¬ fbit s (Reg.ACQ_TRIG_IN k) F.ACQ_TRIG_IN_BUS then
      { s with trigPulse := sset (fun _ => false) s.trigPulse k true } else s) s
  hemWallEvent s (4 + u)

/-- A unit discards its own queued FIRE frame (R364). -/
def dropFire (s : State) (u : Nat) : State :=
  { s with busQueue := s.busQueue.filter fun f => !(decide (f.kind = 0) && decide (f.unit = u)) }

/-- A unit triggers at ecycle `t` (R352, R354, R356). Cause 4 is QUEUED. -/
def trigger (s : State) (u t cause state : Nat) (wall : Bool) : State :=
  let x := getUnit s u
  let st := unitState s u
  let mode := ucfg s u F.ACQ_U_CFG_MODE
  if st = 1 then
    let tr : AcqTrig := ⟨t, cause, state, now80 s⟩
    let s := dropFire (trigOutside s u) u
    if mode = 0 then
      setUnitState (setUnit s u { getUnit s u with trig := some tr, wall := x.wall || wall }) u 2
    else
      setUnit s u { getUnit s u with
        trig := if mode = 2 ∧ x.trig.isSome then x.trig else some tr, wall := x.wall || wall, armedFor := 0 }
  else if st = 2 then
    fadd (setUnit s u { x with missed := x.missed + 1 }) (Reg.ACQ_U_MISSED u) F.ACQ_U_MISSED_COUNT 1
  else if st = 3 then
    if ucfg s u F.ACQ_U_CFG_QUEUE_ONE = 1 ∧ ¬ fbit s (Reg.ACQ_U_STATUS u) F.ACQ_U_STATUS_QHELD then
      fset s (Reg.ACQ_U_STATUS u) F.ACQ_U_STATUS_QHELD 1
    else fadd (setUnit s u { x with missed := x.missed + 1 }) (Reg.ACQ_U_MISSED u) F.ACQ_U_MISSED_COUNT 1
  else s

/-- The segment closes once its post samples are stored (R354). -/
def closeIfFull (s : State) (p u : Nat) : State :=
  let x := getUnit s u
  match x.trig with
  | some t =>
    if unitState s u = 2 ∧ ucfg s u F.ACQ_U_CFG_MODE = 0 ∧ segSamples s u - segPre s u ≤ postCount x t.ecycle then
      closeSegment s p u false
    else s
  | none => s

/-! ## Arm and stop (R344, R346, R353, R357, R364, R368) -/

/-- ARM is refused (R344, R347, R353, R357, R368). The capture and stream-queue tests bear on what the unit's mode uses. -/
def armRefused (s : State) (u : Nat) : Bool :=
  let mode := ucfg s u F.ACQ_U_CFG_MODE
  match unitPart s u with
  | none => true
  | some p =>
    !(decide (unitState s u = 0) || decide (unitState s u = 4)) ||
    (List.range 8).any (fun k => decide (4 < memLE s (unitRam u + 0x800 + 0x100 * k + 0x90) 4 % 8)) ||
    (decide (mode = 0) && decide (ucfg s u F.ACQ_U_CFG_STAMP = 0) &&
      (List.range 16).any fun q => decide (wordBits (seqWord s u q 0) 31 31 = 0)) ||
    (decide (mode = 0) &&
      (decide (unitBufSize s u < segB s u + segments s u * segS s u) || decide (segSamples s u = 0) ||
       decide (segSamples s u ≤ segPre s u))) ||
    decide (oget s (Od.ACQ_BUF_MIB p) <
      fget s (Reg.ACQ_U_BUF u) F.ACQ_U_BUF_OFFSET_MIB + fget s (Reg.ACQ_U_BUF u) F.ACQ_U_BUF_SIZE_MIB) ||
    (List.range (32 * capWords s u)).any (fun i =>
      decide (captureEntry s u i ≠ 0xFFFF) && decide (oget s (Od.ACQ_PROBE_COUNT p) ≤ captureEntry s u i)) ||
    (decide (mode = 1) && (decide (2 ≤ u) || decide (streamQueue s u / 64 ≠ p))) ||
    (decide (mode = 2) && decide ((rget s (Reg.ACQ_U_INTERVAL u)).toNat = 0))

/-- An arm takes effect at ecycle `x`: the sequencer starts in state 0 (R344, R346, R349). -/
def armNow (s : State) (p u x : Nat) : State :=
  let s := setUnit s u { (getUnit s u) with
    armAt := none, cnt := [], timers := [], armedFor := 0, groupAt := none, missed := 0, toggles := [], counted := 0,
    firstEc := none, recordAt := 0, gap := none }
  let s := fset s (Reg.ACQ_U_SEGS_DONE u) F.ACQ_U_SEGS_DONE_COUNT 0
  let s := fsets s (Reg.ACQ_U_STATUS u) [(F.ACQ_U_STATUS_SEQ_STATE, 0), (F.ACQ_U_STATUS_QHELD, 0)]
  let s := if ucfg s u F.ACQ_U_CFG_MODE = 0 then openSegment s p u 0
    else setUnit s u { getUnit s u with trig := none, wall := false }
  let _ := x
  setUnitState s u 1

/-- A stop takes effect: the open segment closes TRUNCATED, and the unit is IDLE (R344, R354). -/
def stopNow (s : State) (p u : Nat) : State :=
  let s := setUnit s u { getUnit s u with stopAt := none, forceAt := none, groupAt := none }
  let s := if unitState s u = 2 ∧ ucfg s u F.ACQ_U_CFG_MODE = 0 then
      closeSegment (setUnit s u { getUnit s u with wall := true }) p u true else s
  fset (setUnitState s u 0) (Reg.ACQ_U_STATUS u) F.ACQ_U_STATUS_QHELD 0

/-- The ecycle at which a wall-clock happening seen now takes effect (R346). -/
def effectAt (s : State) (p : Nat) : Nat := (getPart s p).completed + 2

/-- A group frame queued on a unit's bus pair (R364). -/
def queueFrame (s : State) (u kind ecyc : Nat) : State :=
  { s with busQueue := s.busQueue ++
      [⟨ucfg s u F.ACQ_U_CFG_BUSPAIR, kind, ecyc % 65536, ucfg s u F.ACQ_U_CFG_GROUP, u⟩] }

/-- ACQ_U_CTRL.ARM written 1 (R344, R346, R364). -/
def acqArm (s : State) (u : Nat) : State :=
  if armRefused s u then unitWerr s u
  else if ucfg s u F.ACQ_U_CFG_GROUP_EN = 1 then
    if ucfg s u F.ACQ_U_CFG_MASTER = 1 then queueFrame s u 1 0 else unitWerr s u
  else
    match unitPart s u with
    | some p => setUnit s u { getUnit s u with armAt := some (effectAt s p) }
    | none => unitWerr s u

/-- ACQ_U_CTRL.STOP written 1 (R344, R346, R364). -/
def acqStop (s : State) (u : Nat) : State :=
  if ucfg s u F.ACQ_U_CFG_GROUP_EN = 1 then
    if ucfg s u F.ACQ_U_CFG_MASTER = 1 then queueFrame s u 2 0 else unitWerr s u
  else
    match unitPart s u with
    | some p => setUnit s u { getUnit s u with stopAt := some (effectAt s p) }
    | none => s

/-- ACQ_U_CTRL.FORCE written 1 (R346, R352). -/
def acqForce (s : State) (u : Nat) : State :=
  match unitPart s u with
  | some p => setUnit s u { getUnit s u with forceAt := some (effectAt s p) }
  | none => s

/-! ## One ecycle of one unit (R350) -/

/-- A sample of ecycle `x` stored in the open segment's ring (R353, R354). -/
def storeSample (s : State) (p u x : Nat) (cur : SMap Bool) : State :=
  let y := getUnit s u
  let slot := y.stored % max (segSamples s u) 1
  let bytes := (if ucfg s u F.ACQ_U_CFG_STAMP = 1 then leBytes 8 x else []) ++
    (sampleWords s p u cur).flatMap (leBytes 4)
  let a := unitBuf s p u + segB s u + y.segment * segS s u + slot * slotBytes s u
  setUnit (setMemBytes s a bytes) u
    { getUnit s u with stored := y.stored + 1, ecs := (x :: y.ecs).take (segSamples s u) }

/-- The toggles of ecycle `x` counted (R360). -/
def countToggles (s : State) (p u x : Nat) (cur prev : SMap Bool) : State :=
  let y := getUnit s u
  let y := if y.firstEc.isNone then { y with firstEc := some x, startTime := s.timeA } else y
  let t := (List.range (32 * capWords s u)).foldl (fun t i =>
    let e := captureEntry s u i
    if probeBit s p cur e = probeBit s p prev e then t
    else sset (fun _ => 0) t i (sget (fun _ => 0) t i + 1)) y.toggles
  setUnit s u { y with toggles := t, counted := y.counted + 1, lastEc := x }

/-- The interval of a TOGGLE unit has run out at the start of ecycle `x` or with its count (R360). -/
def intervalOver (s : State) (u : Nat) (atStart : Bool) : Bool :=
  let y := getUnit s u
  let n := (rget s (Reg.ACQ_U_INTERVAL u)).toNat
  y.firstEc.isSome &&
  (if ucfg s u F.ACQ_U_CFG_INT_TIME = 1 then
     atStart && decide (y.startTime + n * 1000 * 2 ^ 28 ≤ s.timeA)
   else !atStart && decide (n ≤ y.counted))

/-- A transition's counter, timer and state actions, and COUNT_EN of the state left (R349, R350). -/
def applyAction (s : State) (u countEn : Nat) (action : Word) (holds : Bool) (next : Nat) : State :=
  let y := getUnit s u
  let a := if holds then action else 0
  let cnt := (List.range 4).foldl (fun m k =>
    let c := unitCnt y k
    let inc := (if wordBits a (22 + k) (22 + k) = 1 then 1 else 0) + (if countEn / 2 ^ k % 2 = 1 then 1 else 0)
    let c' := if wordBits a (18 + k) (18 + k) = 1 then 0 else min (c + inc) (2 ^ 48 - 1)
    sset (fun _ => 0) m k c') y.cnt
  let tim := (List.range 4).foldl (fun m k =>
    let t := unitTimer y k
    let t' := if wordBits a (10 + k) (10 + k) = 1 then {}
      else if wordBits a (14 + k) (14 + k) = 1 then { run := true, count := 0, expired := none }
      else if t.run && !fbit s (Reg.ACQ_U_TIMER u k) F.ACQ_U_TIMER_MODE then { t with count := t.count + 1 } else t
    sset (fun _ => {}) m k t') y.timers
  let s := setUnit s u { y with cnt := cnt, timers := tim }
  let s := (List.range 4).foldl (fun s k =>
    fset s (Reg.ACQ_U_TIMER u k) F.ACQ_U_TIMER_RUN (if (unitTimer (getUnit s u) k).run then 1 else 0)) s
  fset s (Reg.ACQ_U_STATUS u) F.ACQ_U_STATUS_SEQ_STATE (if holds then wordBits action 29 26 else next)

/-- The wall-clock happenings of a unit that take effect at or before ecycle `x` (R346). -/
def unitDue (s : State) (p u x : Nat) : State :=
  let due := fun (o : Option Nat) => match o with | some e => decide (e ≤ x) | none => false
  let s := if due (getUnit s u).stopAt then stopNow s p u else s
  let s := if due (getUnit s u).armAt then
      (if armRefused s u then unitWerr (setUnit s u { getUnit s u with armAt := none }) u
       else
         let s := armNow s p u x
         setUnit s u { getUnit s u with wall := true })
    else s
  s

/-- Ecycle `x` evaluated by unit `u` of partition `p` (R350): the new state and the flags it sets and clears. -/
def evalUnit (s : State) (p u x : Nat) (cur prev : SMap Bool) : State × Nat × Nat :=
  let s := unitDue s p u x
  let st := unitState s u
  if st = 0 ∨ st = 4 then (s, 0, 0)
  else
    let mode := ucfg s u F.ACQ_U_CFG_MODE
    let q := fget s (Reg.ACQ_U_STATUS u) F.ACQ_U_STATUS_SEQ_STATE
    let sw := seqWord s u q 0
    let store := decide (wordBits sw 31 31 = 1)
    -- order 1
    let ev := eventVector s p u x cur prev
    let s := if mode = 2 && intervalOver s u true then toggleClose s p u else s
    -- order 2: a segment's sample, or a toggle count
    let s :=
      if mode = 0 ∧ store = true ∧ (st = 1 ∨ st = 2) then storeSample s p u x cur
      else if mode = 2 ∧ store = true then countToggles s p u x cur prev else s
    -- order 3
    let t0 := condOf ev (seqWord s u q 1) (seqWord s u q 2)
    let t1 := condOf ev (seqWord s u q 3) (seqWord s u q 4)
    let action := if t0 then seqWord s u q 2 else seqWord s u q 4
    let holds := t0 || t1
    let fires := holds && decide (wordBits action 31 31 = 1)
    let y := getUnit s u
    let due := fun (o : Option Nat) => match o with | some e => decide (e ≤ x) | none => false
    let auto := decide (st = 1) && decide ((rget s (Reg.ACQ_U_AUTO u)).toNat ≠ 0) &&
      decide (y.armedFor + 1 = (rget s (Reg.ACQ_U_AUTO u)).toNat)
    let before := y.trig
    let s := if st = 1 then setUnit s u { y with armedFor := y.armedFor + 1 } else s
    let s :=
      if fires then
        (if ucfg s u F.ACQ_U_CFG_GROUP_EN = 1 then (if st = 1 then queueFrame s u 0 x else s)
         else trigger s u x 0 q false)
      else if auto then trigger s u x 1 0xFF false else s
    let s := if due y.forceAt then
        trigger (setUnit s u { getUnit s u with forceAt := none }) u x 2 0xFF true else s
    let s := match y.groupAt with
      | some e => if e ≤ x then trigger (setUnit s u { getUnit s u with groupAt := none }) u e 3 0xFF true else s
      | none => s
    -- a stream sends its MARK, then its SAMPLE
    let s :=
      if mode = 1 then
        let z := getUnit s u
        let mark := match z.trig with
          | some t => if z.trig = before then [] else
              [streamRecord 2 x (time80Bytes t.time ++ leBytes 1 t.cause ++ leBytes 1 t.state ++ leBytes 4 z.missed)]
          | none => []
        let body := (sampleWords s p u cur).flatMap (leBytes 4)
        let sample := if store then [streamRecord 1 x (body ++ leBytes (roundUp body.length 8 - body.length) 0)] else []
        streamSend (setUnit s u { z with trig := none }) u x (mark ++ sample)
      else s
    -- order 4, and the state for x + 1
    let s := applyAction s u (wordBits sw 30 27) action holds q
    let s := if mode = 2 && intervalOver s u false then toggleClose s p u else s
    let s := closeIfFull s p u
    (s, if holds then wordBits action 9 6 else 0, if holds then wordBits action 5 2 else 0)

/-! ## Taking an ecycle (R341) -/

/-- The values of ecycle `x` that have arrived on an outbound channel, in order. -/
def arrived (s : State) (ch x : Nat) : List Bool :=
  ((sget (fun _ => []) s.outbound ch).filter fun v => decide (v.1 = x)).map fun v => v.2

/-- A unit of partition `p` keeps the engine from taking the next ecycle: it re-arms under HOLD 1, or its stream has no room
under DROP 0 (R356, R359). -/
def unitHolds (s : State) (u : Nat) : Bool :=
  (decide (unitState s u = 3) && decide (ucfg s u F.ACQ_U_CFG_HOLD = 1)) ||
  (decide (unitState s u = 1) && decide (ucfg s u F.ACQ_U_CFG_MODE = 1) && decide (ucfg s u F.ACQ_U_CFG_DROP = 0) &&
    !streamRoom s (streamQueue s u) 2)

/-- The acquisition engine has something to take of a partition: probes or units. -/
def acqActive (s : State) (p : Nat) : Bool :=
  !(getPart s p).probeMap.isEmpty || decide (oget s (Od.ACQ_UNITS p) ≠ 0)

/-- The values of ecycles up to `x` leave the partition's probe channels. -/
def consumeProbes (s : State) (p x : Nat) : State :=
  (getPart s p).probeMap.foldl (fun s r =>
    let q := (sget (fun _ => []) s.outbound r.channel).filter fun v => decide (x < v.1)
    { s with outbound := sset (fun _ => []) s.outbound r.channel q }) s

/-- Every unit of the partition evaluates ecycle `x`, and the flags change together (R350). -/
def evalUnits (s : State) (p x : Nat) (cur prev : SMap Bool) : State :=
  let r := (unitsOf s p).foldl (fun (a : State × Nat × Nat) u =>
    let e := evalUnit a.1 p u x cur prev
    (e.1, a.2.1 ||| e.2.1, a.2.2 ||| e.2.2)) (s, 0, 0)
  let q := getPart r.1 p
  setPart r.1 p { q with flags := (q.flags &&& (15 - r.2.2 % 16)) ||| r.2.1 }

/-- ACQ_TAKE_ECYCLE: the engine takes the next ecycle of partition `p` (R341). A replayed ecycle is not evaluated again
(R365). -/
def takeEcycle (s : State) (p : Nat) : State :=
  let q := getPart s p
  let x := q.taken
  if x < q.acqMark then setPart (consumeProbes s p x) p { getPart (consumeProbes s p x) p with taken := x + 1 }
  else if q.completed < x ∨ acqActive s p = false ∨ (unitsOf s p).any (unitHolds s) = true ∨
      q.probeMap.any (fun r => decide ((arrived s r.channel x).length ≤ r.index)) = true then s
  else
    let cur := q.probeMap.foldl (fun m r =>
      sset (fun _ => false) m r.probe ((arrived s r.channel x).getD r.index false)) s.probes
    let s := evalUnits s p x cur (if x = 0 then [] else s.probes)
    let s := consumeProbes { s with probes := cur } p x
    let q := getPart s p
    setPart s p { q with
      taken := x + 1, acqMark := x + 1,
      marks := q.marks.filter fun m => decide (x ≤ m.ecycle),
      trigAt := q.trigAt.filter fun t => decide (x < t.2) }

/-- ACQ_REARM_DONE: the re-arm of a unit completes and the next segment opens, with a held trigger (R356). -/
def rearmDone (s : State) (u : Nat) : State :=
  match unitPart s u with
  | some p =>
    if unitState s u = 3 then
      let x := getUnit s u
      let s := openSegment s p u (if x.segment + 1 = segments s u then 0 else x.segment + 1)
      let s := setUnitState s u 1
      if fbit s (Reg.ACQ_U_STATUS u) F.ACQ_U_STATUS_QHELD then
        trigger (fset s (Reg.ACQ_U_STATUS u) F.ACQ_U_STATUS_QHELD 0) u (getPart s p).taken 4 0xFF true
      else s
    else s
  | none => s

/-- TRIG_IN_PULSE: a pulse of `width` samples on line `k`; one shorter than FILT is only counted (R348). -/
def trigInPulse (s : State) (k width : Nat) : State :=
  let r := Reg.ACQ_TRIG_IN k
  if fbit s r F.ACQ_TRIG_IN_BUS then s
  else if width < fget s r F.ACQ_TRIG_IN_FILT then fadd s r F.ACQ_TRIG_IN_GLITCH 1
  else if fbit s r F.ACQ_TRIG_IN_EN then
    let p := fget s r F.ACQ_TRIG_IN_PART
    let q := getPart s p
    hemWallEvent (setPart s p { q with trigAt := q.trigAt ++ [(k, effectAt s p)] }) k
  else s

/-- ACQ_TIMER_EXPIRY: a running time-mode timer reaches TLIMIT (R346, R351). -/
def timerExpiry (s : State) (u k : Nat) : State :=
  let x := getUnit s u
  let t := unitTimer x k
  match unitPart s u with
  | some p =>
    if t.run && t.expired.isNone && fbit s (Reg.ACQ_U_TIMER u k) F.ACQ_U_TIMER_MODE then
      setUnit s u { x with timers := sset (fun _ => {}) x.timers k { t with expired := some (effectAt s p) } }
    else s
  | none => s

/-! ## The trigger bus (R363, R364) -/

/-- The units that are members of a group on a bus pair, the pair being in bus mode. -/
def members (s : State) (pair group : Nat) : List Nat :=
  if fbit s (Reg.ACQ_TRIG_IN pair) F.ACQ_TRIG_IN_BUS then
    (List.range 16).filter fun u =>
      decide (ucfg s u F.ACQ_U_CFG_GROUP_EN = 1) && decide (ucfg s u F.ACQ_U_CFG_GROUP = group) &&
      decide (ucfg s u F.ACQ_U_CFG_BUSPAIR = pair)
  else []

/-- A valid frame seen on a pair in bus mode is counted. -/
def countFrame (s : State) (pair : Nat) : State :=
  if fbit s (Reg.ACQ_TRIG_IN pair) F.ACQ_TRIG_IN_BUS then fadd s Reg.ACQ_BUS_CNT F.ACQ_BUS_CNT_FRAMES 1 else s

/-- The unique value within ±2^15 of `n` whose low 16 bits are `e` (R364). -/
def extend16 (n e : Nat) : Nat :=
  let d := (e % 65536 + 65536 - n % 65536) % 65536
  if d < 32768 ∨ n + d < 65536 then n + d else n + d - 65536

/-- FIRE on one member: the trigger ecycle it names, at once where that ecycle has been evaluated (R355, R364). -/
def fireMember (s : State) (u ecyc : Nat) : State :=
  match unitPart s u with
  | some p =>
    let t := extend16 (getPart s p).completed ecyc
    let x := getUnit s u
    if unitState s u = 1 then
      if (getPart s p).acqMark ≤ t then (if x.groupAt.isNone then dropFire (setUnit s u { x with groupAt := some t }) u else s)
      else closeIfFull (trigger s u t 3 0xFF true) p u
    else trigger s u t 3 0xFF true
  | none => s

/-- FIRE: a valid FIRE frame of a group (R364). -/
def busFire (s : State) (pair ecyc group : Nat) : State :=
  (members s pair group).foldl (fun s u => fireMember s u ecyc) (countFrame s pair)

/-- BUS_ARM: every member arms under R346 (R364). -/
def busArm (s : State) (pair group : Nat) : State :=
  (members s pair group).foldl (fun s u =>
    match unitPart s u with
    | some p =>
      if armRefused s u then unitWerr s u else setUnit s u { getUnit s u with armAt := some (effectAt s p) }
    | none => s) (countFrame s pair)

/-- DISARM: every member goes to IDLE under R346 (R364). -/
def busDisarm (s : State) (pair group : Nat) : State :=
  (members s pair group).foldl (fun s u =>
    match unitPart s u with
    | some p => setUnit s u { getUnit s u with stopAt := some (effectAt s p) }
    | none => s) (countFrame s pair)

/-- BUS_FRAME_SEND: the first frame queued on a pair is sent once the bus has been idle; one that loses arbitration stays
queued (R363). -/
def busSend (s : State) (pair : Nat) (lost : Bool) : State :=
  match s.busQueue.find? fun f => decide (f.pair = pair) with
  | some f =>
    if lost || !fbit s (Reg.ACQ_TRIG_IN pair) F.ACQ_TRIG_IN_BUS then s
    else { s with busQueue := s.busQueue.erase f, busSent := s.busSent ++ [f] }
  | none => s

/-- TRIGGER_BUS_BAD_FRAME: a frame with a bad CRC or the reserved KIND (R363). -/
def busBad (s : State) (pair : Nat) : State :=
  if fbit s (Reg.ACQ_TRIG_IN pair) F.ACQ_TRIG_IN_BUS then fadd s Reg.ACQ_BUS_CNT F.ACQ_BUS_CNT_BAD 1 else s

/-! ## Outputs, halt and destruction (R362, R365) -/

/-- The level of TRIG_OUT[k] outside bus mode (R362). -/
def trigOutLevel (s : State) (k : Nat) : Bool :=
  let r := Reg.ACQ_TRIG_OUT k
  let u := fget s r F.ACQ_TRIG_OUT_UNIT
  if fget s r F.ACQ_TRIG_OUT_SRC = 1 then sget (fun _ => false) s.trigPulse k
  else if fget s r F.ACQ_TRIG_OUT_SRC = 2 then decide (unitState s u = 1) || decide (unitState s u = 2)
  else false

/-- TRIG_OUT_PULSE_END: the pulse of line `k` ends (R362). -/
def trigOutEnd (s : State) (k : Nat) : State := { s with trigPulse := sset (fun _ => false) s.trigPulse k false }

/-- Every unit of the partition stops, its outputs low and its frames off the bus (R365). -/
def acqHalt (s : State) (p : Nat) : State :=
  (unitsOf s p).foldl (fun s u =>
    let s := setUnit s u { getUnit s u with armAt := none, stopAt := none, forceAt := none, groupAt := none }
    let s := { s with busQueue := s.busQueue.filter fun f => decide (f.unit ≠ u) }
    let s := (List.range 4).foldl (fun s k =>
      if fget s (Reg.ACQ_TRIG_OUT k) F.ACQ_TRIG_OUT_UNIT = u then trigOutEnd s k else s) s
    setUnitState s u 0) s

/-! ## The commands -/

def execAcqArm (u : Fin 16) (s : State) : Host.Outcome State Fault Refusal := .next (acqArm s u.val)
def execAcqStop (u : Fin 16) (s : State) : Host.Outcome State Fault Refusal := .next (acqStop s u.val)
def execForce (u : Fin 16) (s : State) : Host.Outcome State Fault Refusal := .next (acqForce s u.val)
def execTrigInPulse (k : Fin 4) (width : Nat) (s : State) : Host.Outcome State Fault Refusal :=
  .next (trigInPulse s k.val width)
def execAcqTimerExpiry (u : Fin 16) (k : Fin 4) (s : State) : Host.Outcome State Fault Refusal :=
  .next (timerExpiry s u.val k.val)
def execAcqRearmDone (u : Fin 16) (s : State) : Host.Outcome State Fault Refusal := .next (rearmDone s u.val)
def execTrigOutPulseEnd (k : Fin 4) (s : State) : Host.Outcome State Fault Refusal := .next (trigOutEnd s k.val)
def execFire (pair : Fin 4) (ecyc : BitVec 16) (group : BitVec 4) (s : State) : Host.Outcome State Fault Refusal :=
  .next (busFire s pair.val ecyc.toNat group.toNat)
def execBusArm (pair : Fin 4) (group : BitVec 4) (s : State) : Host.Outcome State Fault Refusal :=
  .next (busArm s pair.val group.toNat)
def execDisarm (pair : Fin 4) (group : BitVec 4) (s : State) : Host.Outcome State Fault Refusal :=
  .next (busDisarm s pair.val group.toNat)
def execBusFrameSend (pair : Fin 4) (lost : Bool) (s : State) : Host.Outcome State Fault Refusal :=
  .next (busSend s pair.val lost)
def execTriggerBusBadFrame (pair : Fin 4) (s : State) : Host.Outcome State Fault Refusal := .next (busBad s pair.val)

end Sys2Proof.Machine
end

