-- ==== Sys2Proof/Machine/Seam.lean ====
section
/-! DEFINITION. Seam links (07): ports and lanes, frames, credits and replay, channels and their rings, tokens, resumes, HALT,
and protocol violations. -/

namespace Sys2Proof.Machine

/-! ## Links and ports -/

/-- The partition and link that a physical port carries (R191). -/
def portLink (s : State) (i : Nat) : Option (Nat × SeamLink) :=
  (List.range 16).findSome? fun p =>
    match (getPart s p).seamMap with
    | some m => (m.links.find? fun l => decide (linkPort s l.link = i)).map fun l => (p, l)
    | none => none

/-- The SEAMMAP of a partition. -/
def seamMapOf (s : State) (p : Nat) : SeamMap :=
  match (getPart s p).seamMap with
  | some m => m
  | none => ⟨0, 0, 0, [], [], []⟩

/-- The loaded SEAMMAP that the entries 7000.01 to 7000.03 report, of the lowest partition that holds one; all 0 without (R215). -/
def loadedSeam (s : State) : SeamMap :=
  match (List.range 16).find? fun p => (getPart s p).seamMap.isSome with
  | some p => seamMapOf s p
  | none => ⟨0, 0, 0, [], [], []⟩

/-- SEAM_STATUS after a change of the lanes that work in either direction (R186, R203). -/
def refreshPort (s : State) (i : Nat) : State :=
  let x := getPort s i
  fsets s (Reg.SEAM_STATUS i)
    [(F.SEAM_STATUS_WORKING, x.working.length), (F.SEAM_STATUS_STANDBY, x.standby.getD 7),
     (F.SEAM_STATUS_DEGRADED, if x.working.length < 4 ∨ x.rxLanes.length < 4 then 1 else 0)]

/-- A port carries frames. -/
def portUp (s : State) (i : Nat) : Bool := fbit s (Reg.SEAM_STATUS i) F.SEAM_STATUS_UP

/-- A lane's bit of SEAM_STATUS.LANE_UP and SEAM_LANE_k.UP. -/
def setLaneUp (s : State) (i k : Nat) (up : Bool) : State :=
  let m := fget s (Reg.SEAM_STATUS i) F.SEAM_STATUS_LANE_UP
  let s := fset s (Reg.SEAM_STATUS i) F.SEAM_STATUS_LANE_UP (m - m / 2 ^ k % 2 * 2 ^ k + (if up then 2 ^ k else 0))
  fset s (Reg.SEAM_LANE i k) F.SEAM_LANE_UP (if up then 1 else 0)

/-- A link event counted (SEAM_CNT_k). -/
def seamCount (s : State) (i k : Nat) : State := fadd s (Reg.SEAM_CNT i k) F.SEAM_CNT_COUNT 1

/-! ## Frames (R197) -/

/-- Word `n` of a frame. -/
def frameWord (f : SeamFrame) (n : Nat) : BitVec 64 := f.getD n 0

/-- Bits `[hi:lo]` of word `n` of a frame. -/
def frameBits (f : SeamFrame) (n hi lo : Nat) : Nat := ((frameWord f n).toNat >>> lo) % 2 ^ (hi + 1 - lo)

/-- The bytes of words 0 to 78. -/
def frameBytes (f : SeamFrame) : List Byte := (List.range 79).flatMap fun n => leBytes 8 (frameWord f n).toNat

/-- The unique value within ±2^(w-1) of `n` whose low `w` bits are `v` (R197). -/
def extendCount (w n v : Nat) : Nat :=
  let m := 2 ^ w
  let d := (v % m + m - n % m) % m
  if d < m / 2 ∨ n + d < m then n + d else n + d - m

/-- The break ecycle that a partition knows and sends (R206, R207, R439). -/
def knownBreak (s : State) (p : Nat) : Option Nat :=
  let x := getPart s p
  (x.breaks.map fun b => b.1).foldl (fun m e =>
    match m with
    | some a => some (min a e)
    | none => some e) x.entered

/-- A 48-bit count and its VALID bit as a token word. -/
def tokenWord (o : Option Nat) : Nat :=
  match o with
  | some v => v % 2 ^ 48 * 2 ^ 16 + 1
  | none => 0

/-- Words 0 to 4 of a frame sent now (R197). -/
def frameHeader (s : State) (i ftype seq : Nat) : List Nat :=
  let x := getPort s i
  let w0 := ftype * 2 ^ 60 + seq % 65536 * 2 ^ 44 + (x.rxNext + 65535) % 65536 * 2 ^ 28 +
    (if x.nak then 2 ^ 27 else 0) + (64 + x.unpacked) % 2048 * 2 ^ 16 +
    (match x.lreqs.head? with | some k => 2 ^ 15 + k * 2 ^ 12 | none => 0)
  match portLink s i with
  | some (p, _) =>
    let q := getPart s p
    [w0, q.completed % 2 ^ 48 * 2 ^ 16, tokenWord (knownBreak s p), tokenWord q.ckptGate, tokenWord q.ckptDone]
  | none => [w0, 0, 0, 0, 0]

/-- A whole frame: header, content from word 5, and CRC (R197). -/
def buildFrame (s : State) (i ftype seq : Nat) (content : List Nat) : SeamFrame :=
  let body := (frameHeader s i ftype seq ++ content ++ List.replicate (74 - content.length) 0).map (BitVec.ofNat 64)
  body ++ [BitVec.ofNat 64 (crc32 (frameBytes body) * 2 ^ 32)]

/-- The lane word of a codeword on lane `k`: MARK, LANE and STANDBY (R196). -/
def laneWord (x : SeamPort) (k : Nat) : BitVec 20 :=
  BitVec.ofNat 20 (9 * 2 ^ 16 + k * 2 ^ 13 + (if x.working.contains k then 0 else 2 ^ 12))

/-- The lanes that carry frames in turn: the working ones in order, and the standby lane (R196, R202). -/
def frameLanes (x : SeamPort) : List Nat := x.working ++ x.standby.toList

/-- The lane of the next frame. -/
def nextLane (x : SeamPort) : Nat := (frameLanes x).getD (x.laneNext % max (frameLanes x).length 1) 0

/-- The next frame must be an IDLE: it falls to the standby lane (R196), or its lane has carried none in 4,095 frames (R188). -/
def idleDue (x : SeamPort) : Bool :=
  !x.working.contains (nextLane x) || decide (4095 ≤ sget (fun _ => 0) x.sinceIdle (nextLane x))

/-- A frame put on the next lane (R202). NAK is shown in one frame (R202). -/
def emitFrame (s : State) (i : Nat) (f : SeamFrame) : State :=
  let x := getPort s i
  let k := nextLane x
  setPort s i { x with
    sent := x.sent ++ [(laneWord x k, f)], laneNext := (x.laneNext + 1) % max (frameLanes x).length 1, nak := false,
    sinceIdle := sset (fun _ => 0) x.sinceIdle k
      (if frameBits f 0 63 60 = 2 then 0 else sget (fun _ => 0) x.sinceIdle k + 1) }

/-- An IDLE frame sent (R188). -/
def sendIdle (s : State) (i : Nat) : State := emitFrame s i (buildFrame s i 2 0 [])

/-! ## Packing (R198, R199) -/

/-- The header word of a bundle, and its value words (R198). -/
def bundleWords (b : Bundle) : List Nat :=
  (2 ^ 60 + b.channel * 2 ^ 48 + b.ecycle % 65536 * 2 ^ 32 + b.index * 2 ^ 19 + (b.values.length - 1) * 2 ^ 10) ::
  (List.range ((b.values.length + 63) / 64)).map fun w =>
    ((List.range 64).map fun j => if b.values.getD (64 * w + j) false then 2 ^ j else 0).sum

/-- The outbound records of the link that a port carries, in ascending channel order (R199). -/
def portOuts (s : State) (i : Nat) : List SeamOut :=
  match portLink s i with
  | some (p, l) =>
    ((seamMapOf s p).outs.filter fun o => decide (o.link = l.link)).insertionSort fun a b => a.channel ≤ b.channel
  | none => []

/-- The inbound records of the link that a port carries. -/
def portIns (s : State) (i : Nat) : List SeamIn :=
  match portLink s i with
  | some (p, l) => (seamMapOf s p).ins.filter fun o => decide (o.link = l.link)
  | none => []

/-- The next (ecycle, INDEX) that an outbound channel sends. -/
def outPos (s : State) (c : Nat) : Nat × Nat := sget (fun _ => (0, 0)) s.outNext c

/-- The (ecycle, INDEX) after `n` more values of a channel with `count` values an ecycle. -/
def posAfter (p : Nat × Nat) (n count : Nat) : Nat × Nat := if count ≤ p.2 + n then (p.1 + 1, 0) else (p.1, p.2 + n)

/-- The values of an outbound channel that could leave in one bundle: the head run of its present ecycle, at most 512. -/
def headRun (s : State) (o : SeamOut) : List Bool :=
  let p := outPos s o.channel
  let q := sget (fun _ => []) s.outbound o.channel
  ((q.takeWhile fun v => decide (v.1 = p.1)).take (min 512 (o.count - p.2))).map fun v => v.2

/-- A port may send values of the present ecycle of a channel: every value of the ecycle two before has been sent (R199). -/
def mayPack (s : State) (i : Nat) (o : SeamOut) : Bool :=
  (portOuts s i).all fun x => decide ((outPos s o.channel).1 ≤ (outPos s x.channel).1 + 1)

/-- A bundle is full: 512 values, or the channel's last value of the ecycle (R199). -/
def runFull (s : State) (o : SeamOut) (n : Nat) : Bool :=
  decide (n = 512) || decide (o.count ≤ (outPos s o.channel).2 + n)

/-- `n` values of a channel taken into a bundle: the queue, the position and the retention log advance (R199, R208). -/
def takeBundle (s : State) (i : Nat) (o : SeamOut) (n : Nat) : State × Bundle :=
  let p := outPos s o.channel
  let b : Bundle := ⟨o.peer, p.1, p.2, (headRun s o).take n⟩
  let x := getPort s i
  let s := setPort s i { x with retained := x.retained ++ [b] }
  ({ s with
      outbound := sset (fun _ => []) s.outbound o.channel ((sget (fun _ => []) s.outbound o.channel).drop n),
      outNext := sset (fun _ => (0, 0)) s.outNext o.channel (posAfter p n o.count) }, b)

/-- Queued values of a channel that precede its fence are discarded, run by run (R208). -/
def dropRuns (s : State) (o : SeamOut) (f : Nat × Nat) (fuel : Nat) : State :=
  match fuel with
  | 0 => s
  | fuel + 1 =>
    let run := headRun s o
    let p := outPos s o.channel
    let n := if p.1 < f.1 then run.length else if p.1 = f.1 then min run.length (f.2 - p.2) else 0
    if n = 0 then s
    else
      dropRuns { s with
        outbound := sset (fun _ => []) s.outbound o.channel ((sget (fun _ => []) s.outbound o.channel).drop n),
        outNext := sset (fun _ => (0, 0)) s.outNext o.channel (posAfter p n o.count) } o f fuel

/-- Every queued value of a channel of the port that precedes its fence is discarded (R208). -/
def dropFenced (s : State) (i : Nat) : State :=
  (portOuts s i).foldl (fun s o =>
    match sget (fun _ => none) s.fences o.channel with
    | some f => dropRuns s o f (sget (fun _ => []) s.outbound o.channel).length
    | none => s) s

/-- The next bundle for `room` words: a retained one to be sent again, a full one, or the first partial one. -/
def nextBundle (s : State) (i room : Nat) : Option (State × Bundle) :=
  let x := getPort s i
  let fits := fun (n : Nat) => decide (1 + (n + 63) / 64 ≤ room)
  match x.resendB with
  | b :: rest => if fits b.values.length then some (setPort s i { x with resendB := rest }, b) else none
  | [] =>
    if x.resumeWait then none
    else
      let os := (portOuts s i).filter fun o => mayPack s i o && !(headRun s o).isEmpty
      match os.find? fun o => runFull s o (headRun s o).length && fits (headRun s o).length with
      | some o => some (takeBundle s i o (headRun s o).length)
      | none =>
        match os with
        | o :: _ => if 2 ≤ room then some (takeBundle s i o (min (headRun s o).length ((room - 1) * 64))) else none
        | [] => none

/-- Whole bundles packed until the content area is full or nothing is left; at most 37 fit. -/
def packFrame (s : State) (i fuel : Nat) (content : List Nat) : State × List Nat :=
  match fuel with
  | 0 => (s, content)
  | fuel + 1 =>
    match nextBundle s i (74 - content.length) with
    | some (s', b) => packFrame s' i fuel (content ++ bundleWords b)
    | none => (s, content)

/-- A bundle's room in the retention log, in bytes: its words. -/
def bundleBytes (b : Bundle) : Nat := 8 * (1 + (b.values.length + 63) / 64)

/-- SEAM_RETAIN_USED, and the early checkpoint that a log 75 % full requests (R207, R208). -/
def refreshRetained (s : State) (p : Nat) : State :=
  let used := ((List.range 16).map fun i =>
    match portLink s i with
    | some (q, _) => if q = p then ((getPort s i).retained.map bundleBytes).sum else 0
    | none => 0).sum
  let s := oset s (Od.SEAM_RETAIN_USED p) ((used + 0xFFFFF) / 0x100000)
  if oget s (Od.SEAM_RETAIN_MIB p) * 0x100000 * 3 ≤ used * 4 then clearStoppedRun (askCkpt s p) p else s

/-- A DATA or CTRL frame may be sent: within the credits, and fewer than 128 unacknowledged (R201, R202). -/
def maySend (x : SeamPort) : Bool :=
  decide ((x.credit + 2048 - x.sentCount % 2048) % 2048 ≠ 0) && decide (x.replay.length < 128)

/-- A new DATA or CTRL frame sent and kept for replay (R202). -/
def sendNew (s : State) (i ftype : Nat) (content : List Nat) : State :=
  let f := buildFrame s i ftype (getPort s i).txSeq content
  let s := emitFrame s i f
  let x := getPort s i
  setPort s i { x with
    replay := x.replay ++ [(x.txSeq, f)], txSeq := (x.txSeq + 1) % 65536, sentCount := x.sentCount + 1 }

/-- SEAM_FRAME_SEND: the port's next frame: an IDLE where one is due on the lane, a frame of a replay, a control message, data, or
else IDLE (R188, R196, R199, R201, R202). A replayed frame keeps its SEQ and content under a present header. -/
def frameSend (s : State) (i : Nat) : State :=
  let x := getPort s i
  if !portUp s i || x.working.isEmpty then s
  else if idleDue x then sendIdle s i
  else
    match x.resend with
    | (q, f) :: rest =>
      let g := buildFrame s i (frameBits f 0 63 60) q ((f.drop 5).take 74 |>.map BitVec.toNat)
      let s := seamCount (emitFrame s i g) i 1
      setPort s i { getPort s i with resend := rest }
    | [] =>
      match x.ctrl with
      | c :: rest =>
        if maySend x then
          let s := setPort s i { x with ctrl := rest }
          sendNew s i 3 c
        else sendIdle s i
      | [] =>
        if maySend x then
          let r := packFrame (dropFenced s i) i 37 []
          if r.2.isEmpty then sendIdle r.1 i
          else
            let s := sendNew r.1 i 1 r.2
            match portLink s i with
            | some (p, _) => refreshRetained s p
            | none => s
        else sendIdle s i

/-! ## Violations, NAK and retraining (R202 to R204, R212) -/

/-- A NAK is asked for, once until a replay begins (R202). -/
def askNak (s : State) (i : Nat) : State :=
  let x := getPort s i
  if x.nakWait then s else seamCount (setPort s i { x with nak := true, nakWait := true, rxHeld := [] }) i 0

/-- Every lane of a port goes to training; SEQ and the replay buffer stay (R204). -/
def retrainPort (s : State) (i : Nat) : State :=
  let s := fsets s (Reg.SEAM_CTRL i) [(F.SEAM_CTRL_RETRAIN, 1)]
  let s := fset s (Reg.SEAM_STATUS i) F.SEAM_STATUS_UP 0
  let s := (List.range 5).foldl (fun s k =>
    fset (setLaneUp s i k false) (Reg.SEAM_LANE i k) F.SEAM_LANE_TRAINING 1) s
  let x := getPort s i
  seamCount (refreshPort (setPort s i { x with
    working := [], standby := none, laneNext := 0, rxLanes := [], lreqs := [], peerLreq := none, lreqSeen := none,
    retraining := true }) i) i 4

/-- LOST, ALERT_N and a record of severity 6 (R204, R212). -/
def portLost (s : State) (i : Nat) : State :=
  logRecord (fset s (Reg.SEAM_STATUS i) F.SEAM_STATUS_LOST 1) 8 6
    ((portLink s i).map (fun x => x.1) |>.getD modulePart) (Config.code 204) i []

/-- The SEQ of a DATA or CTRL frame. -/
def numberOf (f : SeamFrame) : Option Nat :=
  if frameBits f 0 63 60 = 1 ∨ frameBits f 0 63 60 = 3 then some (frameBits f 0 59 44) else none

/-- A violation counted; repeated ones retrain the port, and after three such retrains within 10 s the port is LOST (R212). -/
def countViolation (s : State) (i : Nat) : State :=
  let s := seamCount s i 2
  let x := getPort s i
  let s := setPort s i { x with viol := x.viol + 1 }
  if x.viol + 1 < oget s Od.PORT_VIOL_LIMIT then s
  else
    let recent := x.violTrains.filter fun t => decide (s.timeA ≤ t + 10 * 1000000000 * 2 ^ 28)
    if 3 ≤ recent.length then portLost (setPort s i { getPort s i with viol := 0 }) i
    else retrainPort (setPort s i { getPort s i with viol := 0, violTrains := s.timeA :: recent }) i

/-- A frame that breaks the protocol: discarded whole, answered with NAK, counted (R212). The frame that a NAK asked for has begun
the replay, so its breach is answered with a NAK of its own; the second breach of one SEQ is a cause of a rollback of the running
partition, at the point `at_`. -/
def violation (s : State) (i : Nat) (f : SeamFrame) (at_ : Nat × Nat) : State :=
  let x := getPort s i
  let seq := numberOf f
  let again := seq.isSome && decide (x.badSeq = seq) &&
    (match portLink s i with
     | some (p, _) => partRunning s p
     | none => false)
  countViolation (askNak (setPort s i { x with
    nakWait := x.nakWait && decide (seq ≠ some x.rxNext),
    badSeq := if seq.isSome then seq else x.badSeq,
    breach := x.breach || again,
    breaches := if again then ⟨7, at_.1, at_.2, 0⟩ :: x.breaches else x.breaches }) i) i

/-! ## Bundles at the receiver (R198, R200, R206) -/

/-- The bundles of a DATA frame's content, by words from 5 to 78; none where the layout breaks R198. -/
def parseBundles (fuel : Nat) (ws : List Nat) : Option (List Bundle) :=
  match fuel with
  | 0 => some []
  | fuel + 1 =>
    match ws with
    | [] => some []
    | h :: rest =>
      let bt := h / 2 ^ 60 % 16
      if bt = 0 then (if h = 0 ∧ rest.all (fun w => decide (w = 0)) = true then some [] else none)
      else if bt ≠ 1 ∨ h % 2 ^ 10 ≠ 0 then none
      else
        let n := h / 2 ^ 10 % 512 + 1
        let k := (n + 63) / 64
        let vs := rest.take k
        let values := (List.range n).map fun j => decide (vs.getD (j / 64) 0 / 2 ^ (j % 64) % 2 = 1)
        if rest.length < k then none
        else if n % 64 ≠ 0 ∧ vs.getD (k - 1) 0 / 2 ^ (n % 64) ≠ 0 then none
        else
          match parseBundles fuel (rest.drop k) with
          | some bs =>
            some (⟨h / 2 ^ 48 % 4096, h / 2 ^ 32 % 65536, h / 2 ^ 19 % 8192, values⟩ :: bs)
          | none => none

/-- The next (ecycle, INDEX) that an inbound channel lacks. -/
def inPos (s : State) (c : Nat) : Nat × Nat := sget (fun _ => (0, 0)) s.inNext c

/-- One bundle checked against its channel: inbound on this link, continuing the channel, not past its list, and within
{n, n + 1} unless a resume is in progress (R206, R212). `pos` gives each channel's position so far. -/
def bundleFits (ins : List SeamIn) (n : Nat) (resuming : Bool) (pos : Nat → Nat × Nat) (b : Bundle) : Bool :=
  match ins.find? fun r => decide (r.channel = b.channel) with
  | none => false
  | some r =>
    let x := extendCount 16 n b.ecycle
    decide (pos b.channel = (x, b.index)) && decide (b.index + b.values.length ≤ r.stitches.length) &&
    (resuming || decide (x = n) || decide (x = n + 1))

/-- The first bundle of a frame that does not fit, each taken in turn. -/
def firstMisfit (ins : List SeamIn) (n : Nat) (resuming : Bool) (pos : Nat → Nat × Nat) (bs : List Bundle) : Option Bundle :=
  match bs with
  | [] => none
  | b :: rest =>
    match ins.find? fun r => decide (r.channel = b.channel) with
    | none => some b
    | some r =>
      if bundleFits ins n resuming pos b then
        let q := posAfter (pos b.channel) b.values.length r.stitches.length
        firstMisfit ins n resuming (fun c => if c = b.channel then q else pos c) rest
      else some b

/-- Every bundle of a frame fits. -/
def bundlesFit (ins : List SeamIn) (n : Nat) (resuming : Bool) (pos : Nat → Nat × Nat) (bs : List Bundle) : Bool :=
  (firstMisfit ins n resuming pos bs).isNone

/-- What a bundle must satisfy wherever its channel stands: inbound on this link, and not past its list (R212). -/
def bundleNamed (ins : List SeamIn) (b : Bundle) : Bool :=
  ins.any fun r => decide (r.channel = b.channel) && decide (b.index + b.values.length ≤ r.stitches.length)

/-- A bundle's values enter its channel's ring (R200). -/
def acceptBundle (s : State) (ins : List SeamIn) (b : Bundle) : State :=
  match ins.find? fun r => decide (r.channel = b.channel) with
  | none => s
  | some r =>
    let p := inPos s b.channel
    let ring := sget (fun _ => []) s.rings b.channel
    let new := b.values.zipIdx.map fun v => (⟨p.1, r.stitches.getD (b.index + v.2) 0, v.1⟩ : RingValue)
    { s with rings := sset (fun _ => []) s.rings b.channel (ring ++ new),
             inNext := sset (fun _ => (0, 0)) s.inNext b.channel (posAfter p b.values.length r.stitches.length) }

/-- The completed count of the partition on a port. -/
def portCount (s : State) (i : Nat) : Nat :=
  match portLink s i with
  | some (p, _) => (getPart s p).completed
  | none => 0

/-- A DATA frame unpacked: its bundles into their rings, and one more credit (R200, R201). -/
def unpackData (s : State) (i : Nat) (bs : List Bundle) : State :=
  let s := bs.foldl (fun s b => acceptBundle s (portIns s i) b) s
  setPort s i { getPort s i with unpacked := (getPort s i).unpacked + 1 }

/-- The bundles of a frame. -/
def bundlesOf (f : SeamFrame) : List Bundle :=
  (parseBundles 74 ((f.drop 5).take 74 |>.map BitVec.toNat)).getD []

/-- Frames withheld in a resume are unpacked once their ecycles lie within {n, n + 1} (R206). -/
def unpackWaiting (s : State) (i fuel : Nat) : State :=
  match fuel with
  | 0 => s
  | fuel + 1 =>
    match (getPort s i).rxWait with
    | [] => s
    | f :: rest =>
      let bs := bundlesOf f
      if bs.all fun b => decide (extendCount 16 (portCount s i) b.ecycle ≤ portCount s i + 1) then
        unpackWaiting (unpackData (setPort s i { getPort s i with rxWait := rest }) i bs) i fuel
      else s

/-! ## Control messages (R208 to R210) -/

/-- A control message queued for a port. -/
def queueCtrl (s : State) (i : Nat) (words : List Nat) : State :=
  setPort s i { getPort s i with ctrl := (getPort s i).ctrl ++ [words] }

/-- MAP_CRC over (receiving channel, COUNT) items in ascending order (R209). -/
def mapCrc (items : List (Nat × Nat)) : Nat :=
  let sorted := (List.range 3072).filterMap fun c => items.find? fun x => decide (x.1 = c)
  crc32 (sorted.flatMap fun x => leBytes 2 x.1 ++ leBytes 2 x.2 ++ leBytes 4 0)

/-- The MAPCHK message of a port (R209, R210). -/
def mapchkWords (s : State) (i p : Nat) (l : SeamLink) : List Nat :=
  let m := seamMapOf s p
  [2 ^ 56, m.emulation,
    m.module * 2 ^ 56 + l.link * 2 ^ 48 + m.diameter * 2 ^ 40 + mapCrc ((portOuts s i).map fun o => (o.peer, o.count))]

/-- MAPCHK queued on a port whose link a loaded pattern uses (R210). -/
def sendMapchk (s : State) (i : Nat) : State :=
  match portLink s i with
  | some (p, l) => queueCtrl s i (mapchkWords s i p l)
  | none => s

/-- MAPCHK sent from an event of this end, a commit or a link-up: the peer sends its own (R210). -/
def startMapchk (s : State) (i : Nat) : State :=
  sendMapchk (setPort s i { getPort s i with mapAwait := (portLink s i).isSome }) i

/-- The peer's last MAPCHK compared with the map of the link: MAP_OK, or MAP_MISMATCH and the load report (R210). -/
def checkMap (s : State) (i : Nat) : State :=
  match portLink s i, (getPort s i).peerMap with
  | some (p, l), some (e, w) =>
    let m := seamMapOf s p
    if e = m.emulation ∧ w / 2 ^ 40 % 256 = m.diameter ∧ w / 2 ^ 56 = l.peerModule ∧ w / 2 ^ 48 % 256 = l.peerLink ∧
        w % 2 ^ 32 = mapCrc ((portIns s i).map fun r => (r.channel, r.stitches.length)) then
      fset s (Reg.SEAM_STATUS i) F.SEAM_STATUS_MAP_OK 1
    else
      oset (fsets s (Reg.SEAM_STATUS i) [(F.SEAM_STATUS_MAP_OK, 0), (F.SEAM_STATUS_MAP_MISMATCH, 1)])
        (Od.LOAD_STATUS p) Code.SEAM_MAP_MISMATCH
  | _, _ => s

/-- A MAPCHK received: its MODULE and LINK are reported and the message is kept, so that a pattern that commits later is compared
with it; where it follows no MAPCHK of this end, this end sends its own, since both ends send at each commit (R210, R214). -/
def takeMapchk (s : State) (i : Nat) (f : SeamFrame) : State :=
  let s := fsets s (Reg.SEAM_STATUS i)
    [(F.SEAM_STATUS_PEER_MODULE, frameBits f 7 63 56), (F.SEAM_STATUS_PEER_LINK, frameBits f 7 55 48)]
  let x := getPort s i
  let s := setPort s i { x with peerMap := some ((frameWord f 6).toNat, (frameWord f 7).toNat), mapAwait := false }
  checkMap (if x.mapAwait then s else sendMapchk s i) i

/-- A list cut into pieces of at most `n`. -/
def chunks (n fuel : Nat) (l : List Nat) : List (List Nat) :=
  match fuel with
  | 0 => []
  | fuel + 1 => if l.isEmpty then [] else l.take n :: chunks n fuel (l.drop n)

/-- A RESUME(X) received: the resume points, RESUME_END, and the retained bundles from X on (R208). -/
def takeResume (s : State) (i x : Nat) : State :=
  let pts := (portIns s i).map fun r =>
    r.channel * 2 ^ 52 + (inPos s r.channel).1 % 65536 * 2 ^ 36 + (inPos s r.channel).2 * 2 ^ 23
  let s := (chunks 73 64 pts).foldl (fun s c => queueCtrl s i (3 * 2 ^ 56 :: c)) s
  let s := queueCtrl s i [4 * 2 ^ 56]
  let y := getPort s i
  setPort s i { y with resendB := y.retained.filter fun b => decide (x ≤ b.ecycle) }

/-- A RESUME_POINT received: the next value the peer lacks on each channel (R208). -/
def takePoints (s : State) (i : Nat) (f : SeamFrame) : State :=
  let ws := ((f.drop 6).take 73 |>.map BitVec.toNat).takeWhile fun w => decide (w ≠ 0)
  ws.foldl (fun s w =>
    match (portOuts s i).find? fun o => decide (o.peer = w / 2 ^ 52) with
    | some o =>
      let f := (extendCount 16 (portCount s i) (w / 2 ^ 36 % 65536), w / 2 ^ 23 % 8192)
      { s with fences := sset (fun _ => none) s.fences o.channel (some f) }
    | none => s) s

/-- A control message taken. Resume points and their end that follow no RESUME are ignored (R212). -/
def takeCtrl (s : State) (i : Nat) (f : SeamFrame) : State :=
  let s := match frameBits f 5 63 56 with
    | 1 => takeMapchk s i f
    | 2 => takeResume s i (extendCount 48 (portCount s i) (frameBits f 6 63 16))
    | 3 => if (getPort s i).resumeWait then takePoints s i f else countViolation s i
    | _ =>
      if (getPort s i).resumeWait then setPort s i { getPort s i with resumeWait := false } else countViolation s i
  setPort s i { getPort s i with unpacked := (getPort s i).unpacked + 1 }

/-- A CTRL frame is well formed: a known OP, and its reserved bits and those of its message 0 (R209, R212). -/
def ctrlFits (f : SeamFrame) : Bool :=
  let op := frameBits f 5 63 56
  decide (1 ≤ op) && decide (op ≤ 4) && decide (frameBits f 5 55 0 = 0) &&
  (decide (op ≠ 1) || decide (frameBits f 7 39 32 = 0)) && (decide (op ≠ 2) || decide (frameBits f 6 15 0 = 0)) &&
  (decide (op ≠ 3) || (((f.drop 6).take 73 |>.map BitVec.toNat).takeWhile fun w => decide (w ≠ 0)).all fun w =>
    decide (w % 2 ^ 23 = 0))

/-- RESUME(X) sent on every link of a partition, which then waits for the resume points (R208). -/
def sendResume (s : State) (p x : Nat) : State :=
  (seamMapOf s p).links.foldl (fun s l =>
    let i := linkPort s l.link
    let s := queueCtrl s i [2 * 2 ^ 56, x % 2 ^ 48 * 2 ^ 16]
    setPort s i { getPort s i with resumeWait := true, resuming := true, resendB := [] }) s

/-! ## HALT (R211) -/

/-- The lanes of a port that are trained (SEAM_LANE_k.UP). -/
def lanesUp (s : State) (i : Nat) : List Nat := (List.range 5).filter fun k => fbit s (Reg.SEAM_LANE i k) F.SEAM_LANE_UP

/-- A HALT or PEER_HALT frame put `n` times on each of some lanes of a port. -/
def haltOn (s : State) (i ftype word n : Nat) (lanes : List Nat) : State :=
  let f := buildFrame s i ftype 0 [word]
  let x := getPort s i
  setPort s i { x with sent := x.sent ++ lanes.flatMap fun k => List.replicate n (laneWord x k, f) }

/-- The Yoke die's HALT frames: 16 on each lane of every port that is up (R211). -/
def sendHalt (s : State) (code : Nat) : State :=
  (List.range 16).foldl (fun s i =>
    if portUp s i then
      let m := match portLink s i with
        | some (p, _) => (seamMapOf s p).module
        | none => 0
      haltOn s i 4 (m * 2 ^ 58 + code) 16 (lanesUp s i)
    else s) s

/-- The other ports that are up and carry a link of the same emulation as port `i`'s. -/
def sameEmulation (s : State) (i : Nat) : List Nat :=
  match portLink s i with
  | some (p, _) => (List.range 16).filter fun j =>
      decide (j ≠ i) && portUp s j &&
      (match portLink s j with
       | some (q, _) => decide ((seamMapOf s q).emulation = (seamMapOf s p).emulation)
       | none => false)
  | none => []

/-- HALT or PEER_HALT received: the first closes the gates of the link's partition, is recorded, and goes once on every other link of
the emulation (R211). -/
def takeHalt (s : State) (i : Nat) (f : SeamFrame) : State :=
  let seen := fbit s (Reg.SEAM_STATUS i) F.SEAM_STATUS_PEER_HALT
  let s := fset s (Reg.SEAM_STATUS i) F.SEAM_STATUS_PEER_HALT 1
  match portLink s i with
  | some (p, _) =>
    if (getPart s p).peerHalt then s
    else
      let s := setPart s p { getPart s p with peerHalt := true }
      let s := clearStoppedRun s p
      let s := logRecord s 8 6 p (frameBits f 5 31 0) i []
      (sameEmulation s i).foldl (fun s j =>
        haltOn s j 5 (frameWord f 5).toNat 1 [nextLane { getPort s j with standby := none }]) s
  | none => if seen then s else logRecord s 8 6 modulePart (frameBits f 5 31 0) i []

/-! ## Receiving a frame -/

/-- A break, checkpoint or DONE token taken from words 1 to 4 (R197, R205 to R208). -/
def takeTokens (s : State) (i : Nat) (f : SeamFrame) : State :=
  match portLink s i with
  | none => s
  | some (p, _) =>
    let n := (getPart s p).completed
    let tok := fun (k : Nat) => if frameBits f k 0 0 = 1 then some (extendCount 48 n (frameBits f k 63 16)) else none
    let x := getPort s i
    let d := max x.done (extendCount 48 n (frameBits f 1 63 16))
    let s := setPort s i { x with
      done := d, resuming := x.resuming && decide (n < d),
      retained := match tok 4 with
        | some c => x.retained.filter fun b => decide (c ≤ b.ecycle)
        | none => x.retained }
    let q := getPart s p
    let low := fun (a b : Option Nat) => match a, b with | some u, some v => some (min u v) | none, o => o | o, none => o
    let brk := match tok 2 with
      | some e => if q.breaksActed ≤ e then some e else none
      | none => none
    let ck := match tok 3 with
      | some e => if (match q.ckptDone with | some c => decide (c < e) | none => true) then some e else none
      | none => none
    let s := setPart s p { q with
      ckptGate := low q.ckptGate ck,
      breaks := match brk with
        | some e => if q.breaks.any (fun b => decide (b.1 = e)) then q.breaks else q.breaks ++ [(e, 2)]
        | none => q.breaks }
    refreshRetained s p

/-- The header word taken: acknowledgement, NAK, credit and lane request (R201 to R203). A request that stands in one header after
another is one request. -/
def takeHeader (s : State) (i : Nat) (f : SeamFrame) : State :=
  let x := getPort s i
  let ack := frameBits f 0 43 28
  let acked := fun (q : Nat) => decide ((ack + 65536 - q) % 65536 < 32768)
  let replay := x.replay.filter fun r => !acked r.1
  let nak := decide (frameBits f 0 27 27 = 1)
  let lreq := if frameBits f 0 15 15 = 1 then some (frameBits f 0 14 12) else none
  setPort s i { x with
    replay := replay, resend := if nak then replay else x.resend.filter fun r => !acked r.1,
    credit := frameBits f 0 26 16,
    peerLreq := if lreq = x.lreqSeen then x.peerLreq else lreq, lreqSeen := lreq }

/-- A frame passes the checks of every type: known FTYPE and LREQ_LANE, reserved bits 0 (R197, R212). -/
def frameFits (f : SeamFrame) : Bool :=
  decide (1 ≤ frameBits f 0 63 60) && decide (frameBits f 0 63 60 ≤ 5) &&
  (decide (frameBits f 0 15 15 = 0) || decide (frameBits f 0 14 12 ≤ 4)) && decide (frameBits f 0 11 0 = 0) &&
  (List.range 4).all (fun k => decide (frameBits f (k + 1) 15 1 = 0)) &&
  decide (frameBits f 79 31 0 = 0)

/-- Where each channel stands once the frames withheld in a resume are unpacked. -/
def posAhead (s : State) (i : Nat) : Nat → Nat × Nat :=
  ((getPort s i).rxWait.flatMap bundlesOf).foldl (fun (pos : Nat → Nat × Nat) b =>
    match (portIns s i).find? fun r => decide (r.channel = b.channel) with
    | some r => let q := posAfter (pos b.channel) b.values.length r.stitches.length
                fun c => if c = b.channel then q else pos c
    | none => pos) (inPos s)

/-- The content words of a frame. -/
def contentOf (f : SeamFrame) : List Nat := (f.drop 5).take 74 |>.map BitVec.toNat

/-- The content of a DATA or CTRL frame breaks the protocol by itself, whatever came before it (R198, R209, R212). -/
def contentFits (s : State) (i : Nat) (f : SeamFrame) : Bool :=
  if frameBits f 0 63 60 = 3 then ctrlFits f
  else
    match parseBundles 74 (contentOf f) with
    | some bs => bs.all (bundleNamed (portIns s i))
    | none => false

/-- The first bundle of the next DATA frame that does not continue its channel or lies outside the ecycles in progress. Between RESUME
and its RESUME_END the link still brings bundles sent before the peer knew of it, which its retention log brings again: they
are discarded, and no test of their place applies (R206, R208, R212). -/
def misfit (s : State) (i : Nat) (f : SeamFrame) : Option Bundle :=
  if frameBits f 0 63 60 = 3 ∨ (getPort s i).resumeWait = true then none
  else firstMisfit (portIns s i) (portCount s i) (getPort s i).resuming (posAhead s i) (bundlesOf f)

/-- The point of a breach, for its recurrence after a replay (R391): the ecycle and the channel of the bundle that does not fit, or
the completed count. -/
def breachPoint (s : State) (i : Nat) (b : Option Bundle) : Nat × Nat :=
  match b with
  | some b => (extendCount 16 (portCount s i) b.ecycle, b.channel)
  | none => (portCount s i, 3072)

/-- A DATA or CTRL frame with the next SEQ taken: unpacked, or withheld in a resume (R200, R206). -/
def takeNumbered (s : State) (i : Nat) (f : SeamFrame) : State :=
  let x := getPort s i
  let s := setPort s i { x with rxNext := (x.rxNext + 1) % 65536, nakWait := false, badSeq := none }
  let bs := bundlesOf f
  if frameBits f 0 63 60 = 3 then takeCtrl s i f
  else if x.resumeWait then unpackData s i []
  else if x.rxWait.isEmpty &&
      bs.all (fun b => decide (extendCount 16 (portCount s i) b.ecycle ≤ portCount s i + 1)) then unpackData s i bs
  else setPort s i { getPort s i with rxWait := (getPort s i).rxWait ++ [f] }

/-- Held frames that now come in order are taken, or found to break the protocol (R202, R212). -/
def takeHeld (s : State) (i fuel : Nat) : State :=
  match fuel with
  | 0 => s
  | fuel + 1 =>
    let x := getPort s i
    match x.rxHeld.find? fun h => decide (h.1 = x.rxNext) with
    | some h =>
      if x.nakWait then s
      else
        match misfit s i h.2 with
        | some b => violation s i h.2 (breachPoint s i (some b))
        | none => takeHeld (takeNumbered (setPort s i { x with rxHeld := x.rxHeld.erase h }) i h.2) i fuel
    | none => s

/-- The codewords of lane `k` show STANDBY or not: the receiver takes a lane that begins to carry traffic into deskew, its oldest
request is met and the lane left goes to training; a lane that stands by is left out (R196, R203 steps 2 and 3). -/
def laneSeen (s : State) (i k : Nat) (standby : Bool) : State :=
  let s := if fbit s (Reg.SEAM_LANE i k) F.SEAM_LANE_STANDBY = standby then s
    else fset s (Reg.SEAM_LANE i k) F.SEAM_LANE_STANDBY (if standby then 1 else 0)
  let x := getPort s i
  if standby then
    if x.rxLanes.contains k then refreshPort (setPort s i { x with rxLanes := x.rxLanes.erase k }) i else s
  else if x.rxLanes.contains k then s
  else
    match x.lreqs with
    | j :: rest =>
      let s := setPort s i { x with rxLanes := (if j = k then x.rxLanes else x.rxLanes.erase j) ++ [k], lreqs := rest }
      refreshPort (if j = k then s else fset s (Reg.SEAM_LANE i j) F.SEAM_LANE_TRAINING 1) i
    | [] => refreshPort (setPort s i { x with rxLanes := x.rxLanes ++ [k] }) i

/-- The receiver finds lane `k` failing: it asks the peer to leave it (R203 step 1). Where no lane of the direction stands by, there
is none to wait for, and the lane goes to training at once. -/
def laneFailing (s : State) (i k : Nat) : State :=
  let x := getPort s i
  if x.lreqs.contains k then s
  else
    let spare := (List.range 5).any fun j =>
      decide (j ≠ k) && fbit s (Reg.SEAM_LANE i j) F.SEAM_LANE_UP && fbit s (Reg.SEAM_LANE i j) F.SEAM_LANE_STANDBY
    let x := { x with lreqs := x.lreqs ++ [k] }
    if spare then setPort s i x
    else
      refreshPort (fset (setPort s i { x with rxLanes := x.rxLanes.erase k }) (Reg.SEAM_LANE i k) F.SEAM_LANE_TRAINING 1) i

/-- A LANE_ALIGNMENT_LOST at a receiver: MARK or FEC alignment is gone (R203). A port that no lane can reach any more retrains
(R204). -/
def laneLost (s : State) (i k : Nat) : State :=
  if fbit s (Reg.SEAM_LANE i k) F.SEAM_LANE_UP then
    let s := laneFailing (setLaneUp s i k false) i k
    let x := getPort s i
    let s := refreshPort (setPort s i { x with rxLanes := x.rxLanes.erase k }) i
    if portUp s i && (getPort s i).rxLanes.isEmpty then retrainPort s i else s
  else s

/-- A codeword received on a lane (R196 to R212). `fec`: it was correctable. A frame that breaks the protocol is discarded whole: its
header and tokens are not taken. -/
def receive (s : State) (i lane : Nat) (word : BitVec 20) (f : SeamFrame) (fec : Bool) : State :=
  if !portUp s i then s
  else if !fec then askNak s i
  else if word.toNat / 2 ^ 16 ≠ 9 then laneLost s i lane
  else if crc32 (frameBytes f) ≠ frameBits f 79 63 32 then askNak s i
  else
    let standby := decide (word.toNat / 2 ^ 12 % 2 = 1)
    let s := laneSeen s i lane standby
    let ft := frameBits f 0 63 60
    let seq := frameBits f 0 59 44
    let x := getPort s i
    let ahead := (seq + 65536 - x.rxNext) % 65536
    let numbered := (numberOf f).isSome
    if !frameFits f || decide (word.toNat % 2 ^ 12 ≠ 0) || (numbered && standby) then violation s i f (breachPoint s i none)
    else if numbered && decide (32768 ≤ ahead) then s
    else if numbered && decide (64 ≤ ahead + x.rxWait.length) then violation s i f (breachPoint s i none)
    else if numbered && !contentFits s i f then violation s i f (breachPoint s i none)
    else if numbered && decide (ahead = 0) && (misfit s i f).isSome then violation s i f (breachPoint s i (misfit s i f))
    else
      let s := takeTokens (takeHeader s i f) i f
      if ft = 4 ∨ ft = 5 then takeHalt s i f
      else if ft = 2 then s
      else if ahead = 0 then takeHeld (takeNumbered s i f) i 64
      else if (getPort s i).nakWait then s
      else setPort s i { getPort s i with rxHeld := (getPort s i).rxHeld ++ [(seq, f)] }

/-- Frame words as a command brings them: 80 of them. -/
def frameOf (ws : List (BitVec 64)) : SeamFrame := (ws ++ List.replicate 80 0).take 80

/-- A frame of one type received: another frame is not this command's. -/
def receiveIf (s : State) (i lane : Nat) (word : BitVec 20) (ws : List (BitVec 64)) (fec : Bool) (is : SeamFrame → Bool) : State :=
  if is (frameOf ws) then receive s i lane word (frameOf ws) fec else s

/-- LOST_FRAME_DETECT: an uncorrectable codeword, a bad CRC, or a sequence gap beyond the skew tolerance (R202). -/
def lostFrame (s : State) (i : Nat) : State := if portUp s i then askNak s i else s

/-- NAK_RESEND_TIMEOUT: no replay has begun, so NAK goes again (R202). -/
def nakAgain (s : State) (i : Nat) : State :=
  let x := getPort s i
  if x.nakWait then seamCount (setPort s i { x with nak := true }) i 0 else s

/-! ## Injection (R200) -/

/-- SEAM_VALUE_INJECT: the head of a channel's ring enters its inbound track as a tagged group once the stage is free. -/
def inject (s : State) (c upset : Nat) : State :=
  match sget (fun _ => []) s.rings c with
  | [] => s
  | v :: rest =>
    let st := inboundStage c
    let key := stageKey st.1 st.2
    let d := st.1.die.val
    let g : Group := { value := some v.value, stitch := v.stitch, ecycle := v.ecycle, count := 0 }
    let t := { s with rings := sset (fun _ => []) s.rings c rest }
    if (getStage s key).isSome then s
    else
      match crossGroup g upset with
      | some g => setStage t key (some { group := g, taken := [] })
      | none => codeError t st.1 d (if d = 0 ∨ d = 3 then 2 else 0) g (fedSlots s routeFuel st.1 st.2)

/-- LANE_WINDOW_END: a lane's 1 ms error window closes (R203). The port's violation window closes with lane 0's. -/
def laneWindow (s : State) (i k uncorr corr : Nat) : State :=
  let s := fset s (Reg.SEAM_LANE i k) F.SEAM_LANE_CORR (min corr 0xFFFF)
  let s := fadd s (Reg.SEAM_LANE i k) F.SEAM_LANE_UNCORR uncorr
  let s := if k = 0 then setPort s i { getPort s i with viol := 0 } else s
  if (oget s Od.LANE_UNCORR_LIMIT < uncorr ∨ oget s Od.LANE_CORR_LIMIT < corr) ∧ fbit s (Reg.SEAM_LANE i k) F.SEAM_LANE_UP = true then
    laneFailing s i k
  else s

/-- LANE_MOVE: on LREQ traffic leaves the lane for the standby lane, or the port is degraded; with no lane left it retrains
(R203 step 2, R204). -/
def laneMove (s : State) (i : Nat) : State :=
  let x := getPort s i
  match x.peerLreq with
  | some k =>
    if x.working.contains k then
      let s := fset s (Reg.SEAM_LANE i k) F.SEAM_LANE_TRAINING 1
      match x.standby with
      | some j =>
        refreshPort (setPort s i { x with
          working := x.working.map fun l => if l = k then j else l, standby := none, peerLreq := none }) i
      | none =>
        let w := x.working.filter fun l => decide (l ≠ k)
        let s := refreshPort (setPort s i { x with working := w, peerLreq := none, laneNext := 0 }) i
        if w.isEmpty then retrainPort s i else s
    else setPort s i { x with peerLreq := none }
  | none => s

/-- LANE_TRAIN_DONE: a lane's retraining ends (R203 steps 5 and 7). -/
def laneTrained (s : State) (i k : Nat) (ok : Bool) : State :=
  let x := getPort s i
  if ok then
    let s := seamCount (setLaneUp s i k true) i 3
    let s := fsets s (Reg.SEAM_LANE i k) [(F.SEAM_LANE_TRAINING, 0), (F.SEAM_LANE_FAILED, 0), (F.SEAM_LANE_STANDBY, 1)]
    setPort s i { x with fails := sset (fun _ => 0) x.fails k 0 }
  else
    let n := sget (fun _ => 0) x.fails k + 1
    let s := setPort s i { x with fails := sset (fun _ => 0) x.fails k n }
    if n = 3 then
      logRecord (raiseHealth (fset s (Reg.SEAM_LANE i k) F.SEAM_LANE_FAILED 1) 1) 8 (Config.severity (Config.code 203)).val
        modulePart (Config.code 203) (Reg.SEAM_LANE i k) []
    else s

/-- LANE_STANDBY_RESTORE: a retrained lane has run 100 ms below both limits (R203 step 6). -/
def laneRestore (s : State) (i k : Nat) : State :=
  let x := getPort s i
  if fbit s (Reg.SEAM_LANE i k) F.SEAM_LANE_UP = false ∨ x.working.contains k = true ∨ x.standby = some k ∨
      portUp s i = false then s
  else if x.working.length < 4 then refreshPort (setPort s i { x with working := x.working ++ [k] }) i
  else if x.standby.isNone then refreshPort (setPort s i { x with standby := some k }) i
  else s

/-- SEAM_RETRAIN: RETRAIN written, or every lane lost (R204). -/
def seamRetrain (s : State) (i : Nat) : State :=
  if fbit s (Reg.SEAM_CTRL i) F.SEAM_CTRL_EN then retrainPort s i else s

/-- A port as its first link-up finds it: SEQ, credits and replay begin again (R201, R202). A RESUME that a restore has queued
stays, to be sent (R208, R213). -/
def freshPort (x : SeamPort) : SeamPort :=
  { x with txSeq := 0, replay := [], resend := [], credit := 64, sentCount := 0, rxNext := 0, rxHeld := [],
           rxWait := [], unpacked := 0, nak := false, nakWait := false, badSeq := none, peerMap := none,
           ctrl := x.ctrl.filter fun c => decide (c.headD 0 = 2 * 2 ^ 56) }

/-- SEAM_LINK_UP: the lanes of `mask` have trained: the four lowest work and the fifth stands by (R186); MAPCHK goes while a
pattern is loaded, before what else is queued (R210). A first link-up, of this end or, with `anew`, of the peer (a substitute, or a
module restarted: R213), starts SEQ and credits from the beginning; one after a retrain keeps them (R204). -/
def linkUp (s : State) (i : Nat) (mask : BitVec 5) (anew : Bool) : State :=
  let lanes := (List.range 5).filter fun k => mask.getLsbD k
  if lanes.isEmpty ∨ fbit s (Reg.SEAM_CTRL i) F.SEAM_CTRL_EN = false then s
  else
    let x := getPort s i
    let x := if x.retraining && !anew then x else freshPort x
    let s := setPort s i { x with
      working := lanes.take 4, standby := lanes[4]?, laneNext := 0, retraining := false, rxLanes := lanes.take 4, lreqs := [],
      peerLreq := none, lreqSeen := none, sinceIdle := [], ctrl := [] }
    let s := lanes.foldl (fun s k =>
      fsets (setLaneUp s i k true) (Reg.SEAM_LANE i k)
        [(F.SEAM_LANE_TRAINING, 0), (F.SEAM_LANE_FAILED, 0), (F.SEAM_LANE_STANDBY, if lanes[4]? = some k then 1 else 0)]) s
    let s := fsets s (Reg.SEAM_STATUS i) [(F.SEAM_STATUS_UP, 1), (F.SEAM_STATUS_LOST, 0)]
    let s := fset s (Reg.SEAM_CTRL i) F.SEAM_CTRL_RETRAIN 0
    let s := startMapchk (refreshPort s i) i
    setPort s i { getPort s i with ctrl := (getPort s i).ctrl ++ x.ctrl }

/-- SEAM_DOWN_TIMEOUT: the port has carried no frame for SEAM_DOWN_LIMIT (R204). -/
def seamDown (s : State) (i : Nat) : State :=
  if portUp s i || fbit s (Reg.SEAM_STATUS i) F.SEAM_STATUS_LOST || !fbit s (Reg.SEAM_CTRL i) F.SEAM_CTRL_EN then s
  else portLost s i

/-- SEAM_CTRL_EN_WRITE: EN 0 is refused, with a record, while the link carries channels of a running partition (R214). -/
def seamEnWrite (s : State) (i : Nat) (en : Bool) : State :=
  if en then fset s (Reg.SEAM_CTRL i) F.SEAM_CTRL_EN 1
  else
    let busy := match portLink s i with
      | some (p, _) => partRunning s p && !((portOuts s i).isEmpty && (portIns s i).isEmpty)
      | none => false
    if busy then
      logRecord s 8 4 modulePart Code.LIMIT_REFUSED (Reg.SEAM_CTRL i) []
    else
      let s := fset s (Reg.SEAM_CTRL i) F.SEAM_CTRL_EN 0
      let s := fsets s (Reg.SEAM_STATUS i) [(F.SEAM_STATUS_UP, 0), (F.SEAM_STATUS_MAP_OK, 0)]
      let s := (List.range 5).foldl (fun s k => setLaneUp s i k false) s
      refreshPort (setPort s i { getPort s i with
        working := [], standby := none, laneNext := 0, retraining := false, rxLanes := [], lreqs := [], peerLreq := none,
        lreqSeen := none }) i

/-- SEAM_CTRL.CLRCNT written 1 (R213 "Registers"). -/
def seamClear (s : State) (i : Nat) : State :=
  let s := (List.range 5).foldl (fun s k => rset s (Reg.SEAM_CNT i k) 0) s
  (List.range 5).foldl (fun s k => fset s (Reg.SEAM_LANE i k) F.SEAM_LANE_UNCORR 0) s

/-! ## The commands -/

/-- A frame's type, and the OP of a CTRL frame. -/
def isType (n : Nat) (f : SeamFrame) : Bool := decide (frameBits f 0 63 60 = n)
def isCtrl (op : Nat) (f : SeamFrame) : Bool := isType 3 f && decide (frameBits f 5 63 56 = op)

def execSeamFrameSend (port : Fin 16) (s : State) : Host.Outcome State Fault Refusal := .next (frameSend s port.val)
def execSeamValueInject (ch : Fin 3072) (upset : BitVec 48) (s : State) : Host.Outcome State Fault Refusal :=
  .next (inject s ch.val upset.toNat)
def execLostFrameDetect (port : Fin 16) (s : State) : Host.Outcome State Fault Refusal := .next (lostFrame s port.val)
def execNakResendTimeout (port : Fin 16) (s : State) : Host.Outcome State Fault Refusal := .next (nakAgain s port.val)
def execLaneWindowEnd (port : Fin 16) (lane : Fin 5) (uncorr corr : Nat) (s : State) : Host.Outcome State Fault Refusal :=
  .next (laneWindow s port.val lane.val uncorr corr)
def execLaneMove (port : Fin 16) (s : State) : Host.Outcome State Fault Refusal := .next (laneMove s port.val)
def execLaneTrainDone (port : Fin 16) (lane : Fin 5) (ok : Bool) (s : State) : Host.Outcome State Fault Refusal :=
  .next (laneTrained s port.val lane.val ok)
def execLaneStandbyRestore (port : Fin 16) (lane : Fin 5) (s : State) : Host.Outcome State Fault Refusal :=
  .next (laneRestore s port.val lane.val)
def execSeamRetrain (port : Fin 16) (s : State) : Host.Outcome State Fault Refusal := .next (seamRetrain s port.val)
def execSeamLinkUp (port : Fin 16) (lanes : BitVec 5) (anew : Bool) (s : State) : Host.Outcome State Fault Refusal :=
  .next (linkUp s port.val lanes anew)
def execSeamDownTimeout (port : Fin 16) (s : State) : Host.Outcome State Fault Refusal := .next (seamDown s port.val)
def execSeamCtrlEnWrite (port : Fin 16) (en : Bool) (s : State) : Host.Outcome State Fault Refusal :=
  .next (seamEnWrite s port.val en)
def execSeamClrcnt (port : Fin 16) (s : State) : Host.Outcome State Fault Refusal := .next (seamClear s port.val)
def execLaneAlignmentLost (port : Fin 16) (lane : Fin 5) (s : State) : Host.Outcome State Fault Refusal :=
  .next (laneLost s port.val lane.val)

end Sys2Proof.Machine
end

