-- ==== Sys2Proof/Machine/Cuff.lean ====
section
/-! DEFINITION. The Cuff's blocks (08): its frames, trees, banks, speed bridges with their bindings and moves, transactor
ports, and the shared-line exclusion. -/

namespace Sys2Proof.Machine

/-! ## Frames (R217, R244) -/

/-- A frame address (R244). -/
def frameAddr (target col row frame : Nat) : Nat := target * 2 ^ 28 + col * 2 ^ 22 + row * 2 ^ 17 + frame

/-- `n` bytes of a set of frames, at byte `b` of frame address `fa`, little-endian. -/
def frameLE (m : List Host.Cell) (fa b n : Nat) : Nat := sreadLE memDefault m (fa * 4096 + b) n

/-- The cell word of cell `n` of a tile (R219). -/
def cellWord (m : List Host.Cell) (col row n : Nat) : Nat := frameLE m (frameAddr 4 col row 0) (8 * n) 8

/-- Routing entry `n` of a tile (R222). -/
def routeEntry (m : List Host.Cell) (col row n : Nat) : Nat := frameLE m (frameAddr 4 col row 1) (2 * n) 2

/-- The pin word of pin `k` of a tile (R229). -/
def pinWord (m : List Host.Cell) (col row k : Nat) : Nat := frameLE m (frameAddr 4 col row 2) (4 * k) 4

/-- Word `w` of the control block of slot `i` (R233). -/
def slotCtl (m : List Host.Cell) (i w : Nat) : Nat := frameLE m (frameAddr 4 16 i 0x100) (4 * w) 4

/-- Channel-table entry `n` of slot `i` (R240). -/
def chanEntry (m : List Host.Cell) (i n : Nat) : Nat := frameLE m (frameAddr 4 16 i (0x101 + n / 512)) (8 * (n % 512)) 8

/-- Word `w` of the tree word of tree `n` (R226). -/
def treeWord (m : List Host.Cell) (n w : Nat) : Nat := frameLE m (frameAddr 4 0 0 (0x10000 + n)) (4 * w) 4

/-- Bits `[hi:lo]` of a number. -/
def nbits (v hi lo : Nat) : Nat := v >>> lo % 2 ^ (hi + 1 - lo)

/-- The fields of a control block (R233). -/
def ctlMode (m : List Host.Cell) (i : Nat) : Nat := nbits (slotCtl m i 0) 31 30
def ctlCksel (m : List Host.Cell) (i : Nat) : Nat := nbits (slotCtl m i 0) 29 27
def ctlPolicy (m : List Host.Cell) (i : Nat) : Nat := nbits (slotCtl m i 0) 26 25
def ctlOutPause (m : List Host.Cell) (i : Nat) : Bool := nbits (slotCtl m i 0) 24 24 == 1
def ctlQueue (m : List Host.Cell) (i : Nat) : Bool := nbits (slotCtl m i 0) 23 23 == 1
def ctlAllow (m : List Host.Cell) (i : Nat) : Bool := nbits (slotCtl m i 0) 22 22 == 1
def ctlInWidth (m : List Host.Cell) (i : Nat) : Nat := nbits (slotCtl m i 0) 21 15 + 1
def ctlOutWidth (m : List Host.Cell) (i : Nat) : Nat := nbits (slotCtl m i 0) 14 8 + 1
def ctlBindMax (m : List Host.Cell) (i : Nat) : Nat := nbits (slotCtl m i 0) 7 2 + 1
def ctlHigh (m : List Host.Cell) (i : Nat) : Nat := nbits (slotCtl m i 1) 28 16
def ctlLow (m : List Host.Cell) (i : Nat) : Nat := nbits (slotCtl m i 1) 12 0
def ctlOutQueue (m : List Host.Cell) (i : Nat) : Bool := nbits (slotCtl m i 2) 15 15 == 1
def ctlOutMax (m : List Host.Cell) (i : Nat) : Nat := nbits (slotCtl m i 2) 13 8 + 1
def ctlTxq (m : List Host.Cell) (i : Nat) : Nat := nbits (slotCtl m i 3) 25 16
def ctlRxq (m : List Host.Cell) (i : Nat) : Nat := nbits (slotCtl m i 3) 9 0

/-- Entries bound per ecycle at most, and moved at most: 1 where the queue form is off (R240). -/
def bindK (m : List Host.Cell) (i : Nat) : Nat := if ctlQueue m i then ctlBindMax m i else 1
def outK (m : List Host.Cell) (i : Nat) : Nat := if ctlOutQueue m i then ctlOutMax m i else 1

/-- ⌈log₂(k + 1)⌉ for k up to 64. -/
def countBits (k : Nat) : Nat := ((List.range 8).find? fun n => decide (k + 1 ≤ 2 ^ n)).getD 7

/-- The valid channel-table entries of a slot in one direction, as (CHAN, TAG_STITCH, POS) (R240). -/
def slotChans (m : List Host.Cell) (i dir : Nat) : List (Nat × Nat × Nat) :=
  (List.range 1024).filterMap fun n =>
    let e := chanEntry m i n
    if nbits e 63 63 = 1 ∧ nbits e 62 62 = dir then some (nbits e 59 48, nbits e 44 32, nbits e 9 0) else none

/-! ## Slots and trees -/

/-- A slot's mode as committed. -/
def slotMode (s : State) (i : Nat) : Nat := fget s (Reg.CUFF_FP_STATUS i) F.CUFF_FP_STATUS_MODE

/-- The partition that owns a Cuff region (OD 6p04.0A). -/
def regionPart (s : State) (r : Nat) : Option Nat :=
  (List.range 16).find? fun p => decide (oget s (Od.PART_STATE p) ≠ 0) && decide (oget s (Od.REGIONS p) / 2 ^ r % 2 = 1)

/-- The partition of a slot (R232). -/
def slotPart (s : State) (i : Nat) : Option Nat := regionPart s (i / 2)

/-- A region is in hold (R265). -/
def regionHeld (s : State) (r : Nat) : Bool := decide (fget s Reg.CFG_REGION F.CFG_REGION_HOLD / 2 ^ r % 2 = 1)

/-- A slot asks its tree to pause (R236, R237). -/
def slotAsks (s : State) (i : Nat) : Bool :=
  decide (slotMode s i = 1) &&
  ((decide (ctlPolicy s.frames i = 2) && fbit s (Reg.CUFF_FP_STATUS i) F.CUFF_FP_STATUS_FULL) ||
   (ctlOutPause s.frames i && (getSlot s i).outFifo.isEmpty))

/-- A tree is paused: its source is its synthesiser, and a slot of its PAUSE_MASK asks (R227). -/
def treePaused (s : State) (n : Nat) : Bool :=
  decide (nbits (treeWord s.frames n 0) 30 28 = 0) &&
  (List.range 32).any fun i => decide (nbits (treeWord s.frames n 3) i i = 1) && slotAsks s i

/-- The source of a tree: 0 its synthesiser, 1 a clock-capable pin, 2 a cell, 3 constant 0 (R226). -/
def treeSrc (s : State) (n : Nat) : Nat := nbits (treeWord s.frames n 0) 30 28

/-- A tree stands still for a region in hold: it is being written, or its root pin or cell lies in a region whose reset is not yet
released (R265, R266). -/
def treeStopped (s : State) (n : Nat) : Bool :=
  let held := fun (r : Nat) => decide (s.resetRegions / 2 ^ r % 2 = 1)
  decide (s.treesHeld / 2 ^ n % 2 = 1) ||
  (decide (treeSrc s n = 1) && held (nbits (treeWord s.frames n 0) 27 22 / 4)) ||
  (decide (treeSrc s n = 2) && held (nbits (treeWord s.frames n 2) 15 11 / 2))

/-- A tree runs: enabled and driven, neither paused nor stopped (R226, R227, R265). -/
def treeRuns (s : State) (n : Nat) : Bool :=
  decide (nbits (treeWord s.frames n 0) 31 31 = 1) && decide (treeSrc s n < 3) && !treePaused s n && !treeStopped s n

/-- The fabric side of a slot sees an edge: its tree is neither paused nor stopped, its region not in hold and no integrity halt
stands (R227, R265, R282). -/
def slotLive (s : State) (i : Nat) : Bool :=
  !s.pinsHeld && !treePaused s (ctlCksel s.frames i) && !treeStopped s (ctlCksel s.frames i) && !regionHeld s (i / 2)

/-- A slot's fill registers and its IN_FULL and PAUSING levels (R236, R237). -/
def refreshSlot (s : State) (i : Nat) : State :=
  let x := getSlot s i
  let n := x.inFifo.length
  let full :=
    if ctlQueue s.frames i then
      (if ctlHigh s.frames i ≤ n then true
       else if n ≤ ctlLow s.frames i then false
       else fbit s (Reg.CUFF_FP_STATUS i) F.CUFF_FP_STATUS_FULL)
    else false
  let s := fsets s (Reg.CUFF_FP_STATUS i)
    [(F.CUFF_FP_STATUS_IN_FILL, n), (F.CUFF_FP_STATUS_FULL, if full then 1 else 0)]
  let s := fset s (Reg.CUFF_FP_OUT_FILL i) F.CUFF_FP_OUT_FILL_OUT_FILL x.outFifo.length
  fset s (Reg.CUFF_FP_STATUS i) F.CUFF_FP_STATUS_PAUSING (if slotAsks s i then 1 else 0)

/-- An entry or message discarded: OVF, and a record at the first event of its kind since the bit was clear (R236). -/
def slotOvf (s : State) (i kind : Nat) : State :=
  let x := getSlot s i
  let seen := if fbit s (Reg.CUFF_FP_STATUS i) F.CUFF_FP_STATUS_OVF then x.ovfKinds else 0
  let s := setSlot (fset s (Reg.CUFF_FP_STATUS i) F.CUFF_FP_STATUS_OVF 1) i { x with ovfKinds := seen ||| 2 ^ kind }
  if seen / 2 ^ kind % 2 = 1 then s
  else logRecord s 9 (Config.severity (Config.code 236)).val ((slotPart s i).getD modulePart) (Config.code 236)
    (Reg.CUFF_FP_STATUS i) []

/-! ## Captures and takes (R235, R236) -/

/-- An edge at which IN_VALID is 1, with IN_DATA `data`: the bridge captures an entry (R235, R236). -/
def capture (s : State) (i data : Nat) : State :=
  if slotMode s i ≠ 1 ∨ slotLive s i = false then s
  else
    let x := getSlot s i
    let d := data % 2 ^ ctlInWidth s.frames i
    if x.inFifo.length < 4096 then refreshSlot (setSlot s i { x with inFifo := x.inFifo ++ [d] }) i
    else if ctlQueue s.frames i then
      slotOvf (fadd s (Reg.CUFF_FP_DROP_CNT i) F.CUFF_FP_DROP_CNT_COUNT 1) i 0
    else
      let s := slotOvf (fadd s (Reg.CUFF_FP_SUPERSEDED_CNT i) F.CUFF_FP_SUPERSEDED_CNT_COUNT 1) i 1
      refreshSlot (setSlot s i { getSlot s i with inFifo := x.inFifo.tail ++ [d] }) i

/-- An edge at which OUT_TAKE is 1 (R235). -/
def outTake (s : State) (i : Nat) : State :=
  if slotMode s i ≠ 1 ∨ slotLive s i = false then s
  else
    let x := getSlot s i
    match x.outFifo with
    | v :: rest => refreshSlot (setSlot s i { x with outFifo := rest, shown := v }) i
    | [] =>
      fset (fadd s (Reg.CUFF_FP_UNDER_CNT i) F.CUFF_FP_UNDER_CNT_COUNT 1) (Reg.CUFF_FP_STATUS i)
        F.CUFF_FP_STATUS_UNDERRUN 1

/-! ## Binding (R238 to R240) -/

/-- The value of one position of the inbound layout (R240). -/
def layoutBit (w k count : Nat) (entries : List Nat) (pos : Nat) : Bool :=
  if pos < k * w then decide (entries.getD (pos / w) 0 / 2 ^ (pos % w) % 2 = 1)
  else if pos < k * w + countBits k then decide (count / 2 ^ (pos - k * w) % 2 = 1)
  else false

/-- A binding's values queued on their inbound channels (R240). -/
def bindValues (s : State) (i x count : Nat) (entries : List Nat) : State :=
  (slotChans s.frames i 0).foldl (fun s c =>
    let v := layoutBit (ctlInWidth s.frames i) (bindK s.frames i) count entries c.2.2
    let ring := sget (fun _ => []) s.rings c.1
    { s with rings := sset (fun _ => []) s.rings c.1 (ring ++ [⟨x, c.2.1, v⟩]) }) s

/-- The outbound values of ecycle `e` that have arrived at the positions `keep` names, by position; none while one is missing. -/
def outValuesAt (s : State) (i e : Nat) (keep : Nat → Bool) : Option (List (Nat × Bool)) :=
  ((slotChans s.frames i 1).filter fun c => keep c.2.2).foldl (fun acc c =>
    match acc, (arrived s c.1 e).head? with
    | some l, some v => some ((c.2.2, v) :: l)
    | _, _ => none) (some [])

/-- All outbound values of ecycle `e` (R242). -/
def outValues (s : State) (i e : Nat) : Option (List (Nat × Bool)) := outValuesAt s i e fun _ => true

/-- The number at `n` positions from `a` of the arrived values; positions with no entry read 0. -/
def posNat (l : List (Nat × Bool)) (a n : Nat) : Nat :=
  ((List.range n).map fun j => if (l.find? fun v => decide (v.1 = a + j)).any (fun v => v.2) then 2 ^ j else 0).sum

/-- The first position of the allowance in the outbound layout (R240). -/
def allowPos (s : State) (i : Nat) : Nat :=
  outK s.frames i * ctlOutWidth s.frames i + (if ctlOutQueue s.frames i then countBits (outK s.frames i) else 0)

/-- The allowance in force for ecycle `x`, once its value of ecycle `x` − 2 has arrived, whatever else of that ecycle has (R238). -/
def allowance (s : State) (i x : Nat) : Option Nat :=
  if x < 2 then some 0
  else
    match sget (fun _ => none) (getSlot s i).allow (x - 2) with
    | some n => some n
    | none =>
      (outValuesAt s i (x - 2) fun q => decide (allowPos s i ≤ q) && decide (q < allowPos s i + 7)).map
        fun l => posNat l (allowPos s i) 7

/-- The binding of ecycle `x` is in the input log (R239). -/
def loggedBinding (s : State) (p i x : Nat) : Option InRecord :=
  (getPart s p).inlog.find? fun r => decide (r.slot = i) && decide (r.ecycle = x)

/-- The bytes of one binding record in the input log: an ecycle, a count and its entries. -/
def inlogBytes (w : Nat) (r : InRecord) : Nat := 16 + roundUp (r.entries.length * ((w + 7) / 8)) 8

/-- What a binding of ecycle `x` takes from the FIFO: the FIFO left, the count, the entries, and the entries superseded
(R238). -/
def bindTake (s : State) (i x : Nat) : List Nat × Nat × List Nat × Nat :=
  let y := getSlot s i
  if ctlQueue s.frames i then
    let c := min (min y.inFifo.length (ctlBindMax s.frames i))
      (if ctlAllow s.frames i then (allowance s i x).getD 0 else ctlBindMax s.frames i)
    (y.inFifo.drop c, c, y.inFifo.take c, 0)
  else
    match y.inFifo.getLast? with
    | some v => ([], 1, [v], y.inFifo.length - 1)
    | none => ([], 0, [y.last.getD 0], 0)

/-- BRIDGE_BIND: the bridge binds its next ecycle once the completed count and the allowance permit (R238), from the input
log while that holds the ecycle (R239). -/
def bind (s : State) (i : Nat) : State :=
  match slotPart s i with
  | none => s
  | some p =>
    let y := getSlot s i
    let x := y.bound
    if slotMode s i ≠ 1 ∨ s.pinsHeld = true ∨ (getPart s p).completed + 1 < x ∨ x < 2 ∧ oget s (Od.RUN_STATE p) ≠ 2 then s
    else
      let show_ := fun (s : State) => rset s (Reg.CUFF_FP_BOUND i) (BitVec.ofNat 32 x)
      match loggedBinding s p i x with
      | some r =>
        let s := bindValues s i x r.count r.entries
        show_ (setSlot s i { getSlot s i with bound := x + 1, last := some (r.entries.getLastD 0) })
      | none =>
        if ctlAllow s.frames i && (allowance s i x).isNone then s
        else
          let t := bindTake s i x
          let q := getPart s p
          let used := ((⟨i, x, t.2.1, t.2.2.1⟩ :: q.inlog).map fun r => inlogBytes (ctlInWidth s.frames r.slot) r).sum
          let room := oget s (Od.INLOG_MIB p) * 0x100000
          if room < used then s
          else
          let s := if room * 3 ≤ used * 4 then clearStoppedRun (askCkpt s p) p else s
          let s := fset s (Reg.CUFF_FP_STATUS i) F.CUFF_FP_STATUS_REPLAY 0
          let q := getPart s p
          let s := setPart s p { q with inlog := q.inlog ++ [⟨i, x, t.2.1, t.2.2.1⟩] }
          let s := fadd s (Reg.CUFF_FP_SUPERSEDED_CNT i) F.CUFF_FP_SUPERSEDED_CNT_COUNT t.2.2.2
          let s := if t.2.2.2 = 0 then s else slotOvf s i 1
          let s := bindValues s i x t.2.1 t.2.2.1
          let y := getSlot s i
          show_ (refreshSlot (setSlot s i { y with
            inFifo := t.1, bound := x + 1, last := if t.2.2.1.isEmpty then y.last else some (t.2.2.1.getLastD 0) }) i)

/-! ## Moves (R242) -/

/-- BRIDGE_MOVE: the output entries of the next ecycle enter the output FIFO once every value has arrived and they all have
room; a replayed ecycle at or below the mark is discarded (R242). Its allowance is kept for the bindings (R238). -/
def move (s : State) (i : Nat) : State :=
  let y := getSlot s i
  let e := y.moved
  if slotMode s i ≠ 1 ∨ s.pinsHeld = true then s
  else
    match outValues s i e with
    | none => s
    | some l =>
      let w := ctlOutWidth s.frames i
      let k := outK s.frames i
      let cb := if ctlOutQueue s.frames i then countBits k else 0
      let n := if ctlOutQueue s.frames i then min (posNat l (k * w) cb) k else 1
      let entries := (List.range n).map fun j => posNat l (j * w) w
      let replayed := decide (e < y.moveMark)
      if !replayed && decide (4096 < y.outFifo.length + n) then s
      else
        let s := (slotChans s.frames i 1).foldl (fun s c =>
          let q := (sget (fun _ => []) s.outbound c.1).filter fun v => decide (e < v.1)
          { s with outbound := sset (fun _ => []) s.outbound c.1 q }) s
        let s := setSlot s i { y with
          outFifo := if replayed then y.outFifo else y.outFifo ++ entries,
          moved := e + 1, moveMark := max y.moveMark (e + 1),
          allow := if ctlAllow s.frames i then
              sset (fun _ => none) (y.allow.filter fun a => decide (e < a.1 + 3)) e (some (posNat l (allowPos s i) 7))
            else [] }
        refreshSlot (rset s (Reg.CUFF_FP_MOVED i) (BitVec.ofNat 32 (max y.moveMark (e + 1) - 1))) i

/-! ## Transactor ports (R243) -/

/-- An edge with RX_READY at 1 takes the head beat of the queue. -/
def rxBeat (s : State) (i : Nat) : State :=
  if slotMode s i ≠ 2 ∨ slotLive s i = false then s
  else
    let q := ctlRxq s.frames i
    if !dmaServes s q 2 0 then s
    else { s with fromHost := sset (fun _ => []) s.fromHost q (sget (fun _ => []) s.fromHost q).tail }

/-- TX_READY: the host-bound queue runs and has a buffer posted (R243). -/
def txReady (s : State) (i : Nat) : Bool :=
  dmaServes s (ctlTxq s.frames i) 2 1 && decide (dmaPending s (ctlTxq s.frames i) ≠ 0)

/-- An edge with TX_VALID at 1: the beat is taken while TX_READY is 1. A message of more than 4,096 beats is
discarded whole, to its LAST. -/
def txBeat (s : State) (i data : Nat) (last : Bool) : State :=
  if slotMode s i ≠ 2 ∨ slotLive s i = false then s
  else
    let q := ctlTxq s.frames i
    if !txReady s i then s
    else
      let x := getSlot s i
      if x.txBad then setSlot s i { x with txBad := !last }
      else if x.txBeats.length = 4096 then
        slotOvf (fadd (setSlot s i { x with txBeats := [], txBad := !last }) (Reg.CUFF_FP_DROP_CNT i)
          F.CUFF_FP_DROP_CNT_COUNT 1) i 2
      else if last then
        sendHost (setSlot s i { x with txBeats := [] }) q ⟨(x.txBeats ++ [data]).flatMap (leBytes 16), true⟩
      else setSlot s i { x with txBeats := x.txBeats ++ [data] }

/-! ## Shared lines and counters (R225) -/

/-- The drivers of a shared line as an upset has left them: exactly those in `enabled` (R225). -/
def upsetDrivers (m : List Host.Cell) (row span line enabled : Nat) : List Host.Cell :=
  (List.range 12).foldl (fun m t =>
    let e := routeEntry m (12 * span + t) row (128 + line) % 0x8000
    swriteLE memDefault m (frameAddr 4 (12 * span + t) row 1 * 4096 + 2 * (128 + line)) 2
      (e + (if enabled / 2 ^ t % 2 = 1 then 0x8000 else 0))) m

/-- DRIVER_CONFLICT: two or more drivers of one shared line are enabled by an upset; the line takes the lowest of them until the
scrubber restores the frame (R225). -/
def driverConflict (s : State) (row span line enabled : Nat) : State :=
  let ds := (List.range 12).filter fun t => decide (enabled / 2 ^ t % 2 = 1)
  match ds with
  | d :: _ :: _ =>
    let s := { s with frames := upsetDrivers s.frames row span line enabled }
    let s := fadd s Reg.CUFF_DRVX_CNT F.CUFF_DRVX_CNT_COUNT 1
    let s := fset s Reg.CUFF_STATUS F.CUFF_STATUS_DRVX 1
    let s := if fbit s Reg.CUFF_DRVX_CAP F.CUFF_DRVX_CAP_VALID then s else
      fsets s Reg.CUFF_DRVX_CAP
        [(F.CUFF_DRVX_CAP_VALID, 1), (F.CUFF_DRVX_CAP_ROW, row), (F.CUFF_DRVX_CAP_SPAN, span),
         (F.CUFF_DRVX_CAP_LINE, line), (F.CUFF_DRVX_CAP_CONNECTED, d), (F.CUFF_DRVX_CAP_ENABLED, enabled)]
    logRecord s 9 (Config.severity (Config.code 225)).val ((regionPart s (row / 2)).getD modulePart) (Config.code 225)
      (frameAddr 4 (12 * span) row 1) []
  | _ => s

/-- CUFF_CTRL.CLRCNT written 1. -/
def cuffClear (s : State) : State :=
  (List.range 32).foldl (fun s i =>
    rset (rset (rset s (Reg.CUFF_FP_DROP_CNT i) 0) (Reg.CUFF_FP_UNDER_CNT i) 0) (Reg.CUFF_FP_SUPERSEDED_CNT i) 0)
    (rset s Reg.CUFF_DRVX_CNT 0)

/-! ## The commands -/

def execCuffClrcnt (s : State) : Host.Outcome State Fault Refusal := .next (cuffClear s)

end Sys2Proof.Machine
end

