-- ==== Sys2Proof/Machine/Fabric.lean ====
section
/-! DEFINITION. The Cuff's logic (R218 to R230): mux cells, routing, shared lines, isolation latches, global trees as clocks,
and the target pins. -/

namespace Sys2Proof.Machine

/-- A tile's number. -/
def tileNo (col row : Nat) : Nat := row * 48 + col

/-- Flip-flop Q of a cell. -/
def cellQ (s : State) (col row n : Nat) : Bool := sget (fun _ => false) s.cellQ (tileNo col row * 256 + n)

/-- The first commit of a region has been made (CFG_REGION.FIRST). -/
def regionLive (s : State) (r : Nat) : Bool := decide (fget s Reg.CFG_REGION F.CFG_REGION_FIRST / 2 ^ r % 2 = 1)

/-- Pin `k` of tile (`col`, `row`) as a pin number (R228), and the tile and index of a pin number. -/
def pinNo (col row k : Nat) : Nat := 40 * (row / 2) + 10 * ((if col = 0 then 0 else 2) + row % 2) + k
def pinTile (pin : Nat) : Nat × Nat × Nat :=
  let q := pin % 40 / 10
  (if q < 2 then 0 else 47, 2 * (pin / 40) + q % 2, pin % 10)

/-- A pin's word as committed. -/
def pinCfg (s : State) (pin : Nat) : Nat := pinWord s.frames (pinTile pin).1 (pinTile pin).2.1 (pinTile pin).2.2

/-- A pin register. -/
def pinReg (s : State) (pin i : Nat) : Bool := sget (fun _ => false) s.pinReg (8 * pin + i)

/-- The level at a pin as its input buffer gives it. -/
def pinLevel (s : State) (pin : Nat) : Bool := sget (fun _ => false) s.pinIn pin

/-- Signal `i` from slot `k` to the fabric (R234, R235, R243). -/
def slotSignal (s : State) (k i : Nat) : Bool :=
  let x := getSlot s k
  if slotMode s k = 1 then
    if i < 128 then decide ((x.outFifo.headD x.shown) / 2 ^ i % 2 = 1)
    else if i = 128 then !x.outFifo.isEmpty
    else if i = 129 then fbit s (Reg.CUFF_FP_STATUS k) F.CUFF_FP_STATUS_FULL
    else false
  else if slotMode s k = 2 then
    if i = 130 then txReady s k
    else
      match sget (fun _ => []) s.fromHost (ctlRxq s.frames k) with
      | [] => false
      | b :: _ => if i < 128 then decide (b.1 / 2 ^ i % 2 = 1) else if i = 128 then true else if i = 129 then b.2 else false
  else false

/-- Port input `i` of a tile (R228, R234). -/
def portInput (s : State) (col row i : Nat) : Bool :=
  if col = 0 ∨ col = 47 then
    if i < 20 then
      let pin := pinNo col row (i / 2)
      let ireg := nbits (pinCfg s pin) 24 23
      if ireg = 0 then (if i % 2 = 0 then pinLevel s pin else false)
      else if i % 2 = 0 then pinReg s pin 0
      else if ireg = 2 then pinReg s pin 1 else false
    else false
  else if 16 ≤ col ∧ col < 24 then slotSignal s row (64 * (col - 16) + i)
  else false

/-- A place of the fabric that has a value: the output of a cell, or the destination of a routing entry. -/
inductive Node where
  | cell (col row n : Nat)
  | entry (col row n : Nat)
deriving DecidableEq, Repr

/-- The tile `dist` positions away on a side, or none where it lies off the fabric. -/
def tileBeside (col row side dist : Nat) : Option (Nat × Nat) :=
  match side with
  | 0 => if dist ≤ row then some (col, row - dist) else none
  | 1 => if col + dist < 48 then some (col + dist, row) else none
  | 2 => if row + dist < 32 then some (col, row + dist) else none
  | _ => if dist ≤ col then some (col - dist, row) else none

/-- The value of the wire that arrives at a tile on side `d`, track `t`, from `dist` positions away; `val` gives nodes their
values. Where a border latch holds, the latched value (R221, R223). -/
def incoming (s : State) (val : Node → Bool) (col row d t dist : Nat) : Bool :=
  match tileBeside col row d dist with
  | some (c, r) =>
    let n := (if dist = 1 then 64 else 96) + 8 * ((d + 2) % 4) + t
    match sget (fun _ => none) s.latches (tileNo c r * 256 + n) with
    | some v => v
    | none => val (.entry c r n)
  | none => false

/-- The value of shared line `l` of a tile's span: that of the enabled driver with the lowest number (R224, R225). -/
def sharedLine (s : State) (val : Node → Bool) (col row l : Nat) : Bool :=
  match (List.range 12).find? fun i => decide (routeEntry s.frames (col / 12 * 12 + i) row (128 + l) / 0x8000 = 1) with
  | some i => val (.entry (col / 12 * 12 + i) row (128 + l))
  | none => false

/-- Bit `n` of a mask, and the mask with that bit set or clear. -/
def maskHas (m n : Nat) : Bool := decide (m / 2 ^ n % 2 = 1)
def maskPut (m n : Nat) (b : Bool) : Nat := m - m / 2 ^ n % 2 * 2 ^ n + (if b then 2 ^ n else 0)

/-- The level of a tree where the fabric reads it as data (R221): that of a running synthesiser's tree is a free value (R226). -/
def treeData (s : State) (n : Nat) : Bool :=
  if treeSrc s n = 0 then treeRuns s n && Config.treeLevel n s.ticks
  else decide (nbits (treeWord s.frames n 0) 31 31 = 1) && maskHas s.treeHigh n

/-- The value that a cell input selector names (R221); a reserved one reads 0. -/
def selValue (s : State) (val : Node → Bool) (col row n code : Nat) : Bool :=
  if code < 0x10 then val (.cell col row (16 * (n / 16) + code))
  else if code < 0x50 then val (.entry col row (code - 0x10))
  else if code < 0x70 then incoming s val col row ((code - 0x50) / 8) ((code - 0x50) % 8) 1
  else if code < 0x90 then incoming s val col row ((code - 0x70) / 8) ((code - 0x70) % 8) 4
  else if code < 0xA0 then sharedLine s val col row (code - 0x90)
  else if code < 0xA8 then treeData s (code - 0xA0)
  else if code = 0xA9 then true
  else if 0xC0 ≤ code then portInput s col row (code - 0xC0)
  else false

/-- The value that a routing source names (R222). -/
def srcValue (s : State) (val : Node → Bool) (col row src : Nat) : Bool :=
  if src < 0x100 then val (.cell col row src)
  else if src < 0x120 then incoming s val col row ((src - 0x100) / 8) ((src - 0x100) % 8) 1
  else if src < 0x140 then incoming s val col row ((src - 0x120) / 8) ((src - 0x120) % 8) 4
  else if src < 0x150 then sharedLine s val col row (src - 0x140)
  else if src < 0x190 then portInput s col row (src - 0x150)
  else decide (src = 0x191)

/-- O of a cell with word `w` (R218). -/
def cellO (s : State) (val : Node → Bool) (col row n w : Nat) : Bool :=
  let a := selValue s val col row n (nbits w 63 56) != (nbits w 31 31 == 1)
  let b := selValue s val col row n (nbits w 55 48) != (nbits w 30 30 == 1)
  if selValue s val col row n (nbits w 47 40) != (nbits w 29 29 == 1) then b else a

/-- The value of a node, followed through at most `fuel` cells and wires. -/
def nodeVal (s : State) (fuel : Nat) (x : Node) : Bool :=
  match fuel with
  | 0 => false
  | fuel + 1 =>
    match x with
    | .cell col row n =>
      let w := cellWord s.frames col row n
      if w = 0 then false
      else if nbits w 28 28 = 1 then cellQ s col row n
      else cellO s (nodeVal s fuel) col row n w
    | .entry col row n =>
      let e := routeEntry s.frames col row n
      if e / 0x8000 = 0 then false else srcValue s (nodeVal s fuel) col row (e % 0x400)

/-- A path visits each cell and each routing entry at most once. -/
def fabricFuel : Nat := 1536 * (256 + 208)

/-- The value of a node of the fabric. -/
def fabricVal (s : State) (x : Node) : Bool := nodeVal s fabricFuel x

/-! ## Clock edges (R218, R226, R228, R234) -/

/-- The next Q of a cell at an edge of its tree (R218). -/
def nextQ (s : State) (col row n w : Nat) : Bool :=
  let o := cellO s (fabricVal s) col row n w
  let e := selValue s (fabricVal s) col row n (nbits w 39 32)
  let init := nbits w 22 22 == 1
  match nbits w 24 23 with
  | 1 => if e then o else cellQ s col row n
  | 2 => if e then init else o
  | _ => o

/-- The cells that the frames use: tile column and row, and cell, of each non-zero cell word. -/
def usedCells (s : State) : List (Nat × Nat × Nat) :=
  ((s.frames.filterMap fun c =>
    let fa := c.1 / 4096
    if fa / 2 ^ 28 = 4 ∧ fa % 2 ^ 17 = 0 ∧ c.1 % 4096 < 2048 then
      some (fa / 2 ^ 22 % 64, fa / 2 ^ 17 % 32, c.1 % 4096 / 8) else none)).eraseDups

/-- Every pin: 640. -/
def allPins : List Nat := List.range 640

/-- Signal `i` from the fabric to slot `k` (R234). -/
def fabricSignal (s : State) (k i : Nat) : Bool := fabricVal s (.entry (16 + i / 64) k (144 + i % 64))

/-- The 128 data signals from the fabric to a slot: IN_DATA or TX_DATA (R234). -/
def fabricData (s : State) (k : Nat) : Nat := ((List.range 128).map fun i => if fabricSignal s k i then 2 ^ i else 0).sum

/-- The edges of a slot's tree at which one of its signals from the fabric acts: IN_VALID, OUT_TAKE, RX_READY, TX_VALID (R234, R235,
R243). -/
def captureEdge (s : State) (k : Nat) : State := if fabricSignal s k 128 then capture s k (fabricData s k) else s
def takeEdge (s : State) (k : Nat) : State := if fabricSignal s k 129 then outTake s k else s
def rxEdge (s : State) (k : Nat) : State := if fabricSignal s k 130 then rxBeat s k else s
def txEdge (s : State) (k : Nat) : State :=
  if fabricSignal s k 128 then txBeat s k (fabricData s k) (fabricSignal s k 129) else s

/-- A slot at an edge of its tree, by the signals that `before` gives it. -/
def slotEdge (before s : State) (k : Nat) : State :=
  match slotMode s k with
  | 1 =>
    let s := if fabricSignal before k 128 then capture s k (fabricData before k) else s
    if fabricSignal before k 129 then outTake s k else s
  | 2 =>
    let s := if fabricSignal before k 130 then rxBeat s k else s
    if fabricSignal before k 128 then txBeat s k (fabricData before k) (fabricSignal before k 129) else s
  | _ => s

/-- A region's cells and pin registers see edges: it is committed and its reset is released (R218, R266, R267). -/
def regionClocked (s : State) (r : Nat) : Bool := regionLive s r && !maskHas s.resetRegions r

/-- One rising edge of tree `n`: cells, pin registers and slots on it, all at once. An input register takes its rising-edge sample, an
output register the data of both edges and the output enable (R218, R228, R229, R234). -/
def treeEdge (s : State) (n : Nat) : State :=
  let qs := (usedCells s).filterMap fun c =>
    let w := cellWord s.frames c.1 c.2.1 c.2.2
    if nbits w 27 25 = n ∧ regionClocked s (c.2.1 / 2) = true then
      some (tileNo c.1 c.2.1 * 256 + c.2.2, nextQ s c.1 c.2.1 c.2.2 w) else none
  let ps := allPins.flatMap fun pin =>
    let t := pinTile pin
    let w := pinCfg s pin
    if nbits w 20 18 = n ∧ regionClocked s (pin / 40) = true then
      (if nbits w 24 23 = 0 then [] else [(8 * pin, pinLevel s pin)]) ++
      (if nbits w 22 21 = 0 then [] else (List.range 3).map fun i =>
        (8 * pin + 2 + i, fabricVal s (.entry t.1 t.2.1 (144 + 3 * t.2.2 + i))))
    else []
  let t := { s with cellQ := qs.foldl (fun m q => sset (fun _ => false) m q.1 q.2) s.cellQ,
                    pinReg := ps.foldl (fun m q => sset (fun _ => false) m q.1 q.2) s.pinReg }
  ((List.range 32).filter fun k => decide (ctlCksel s.frames k = n) && slotLive s k).foldl (slotEdge s) t

/-- The falling edge of tree `n`: double-data-rate inputs take their falling-edge sample (R228, R229). -/
def treeFall (s : State) (n : Nat) : State :=
  let ps := allPins.filter fun pin =>
    decide (nbits (pinCfg s pin) 20 18 = n) && decide (nbits (pinCfg s pin) 24 23 = 2) && regionClocked s (pin / 40)
  { s with pinReg := ps.foldl (fun m pin => sset (fun _ => false) m (8 * pin + 1) (pinLevel s pin)) s.pinReg }

/-- The level of a tree's source: its synthesiser's phase, its clock-capable pin, or its root cell (R226, R228). -/
def sourceLevel (s : State) (n : Nat) : Bool :=
  match treeSrc s n with
  | 0 => maskHas s.treeRaw n
  | 1 => pinLevel s (nbits (treeWord s.frames n 0) 27 22 * 10)
  | 2 => fabricVal s (.cell (nbits (treeWord s.frames n 2) 21 16) (nbits (treeWord s.frames n 2) 15 11) (nbits (treeWord s.frames n 2) 7 0))
  | _ => false

/-- The source of a tree goes to level `v`: a running tree rises with it, and a tree that is high falls with it, so that it stops low
after a complete high phase and starts again at a rising edge of its source (R227, R265, R266). -/
def sourceStep (s : State) (n : Nat) (v : Bool) : State :=
  let runs := treeRuns s n
  let s := { s with treeRaw := maskPut s.treeRaw n v }
  if v then
    if runs then treeEdge { s with treeHigh := maskPut s.treeHigh n true } n else s
  else if maskHas s.treeHigh n then treeFall { s with treeHigh := maskPut s.treeHigh n false } n
  else s

/-- Trees on pins and cells follow their sources: the lowest that has changed, at most `fuel` times. -/
def settleTrees (s : State) (fuel : Nat) : State :=
  match fuel with
  | 0 => s
  | fuel + 1 =>
    match (List.range 8).find? fun n =>
      (decide (treeSrc s n = 1) || decide (treeSrc s n = 2)) && (sourceLevel s n != maskHas s.treeRaw n) with
    | some n => settleTrees (sourceStep s n (sourceLevel s n)) fuel
    | none => s

/-! ## Pins (R228 to R231) -/

/-- What a pin's configuration drives: data and output enable. Under double data rate the data of the phase its tree is in (R229). -/
def pinDrive (s : State) (pin : Nat) : Bool × Bool :=
  let t := pinTile pin
  let w := pinCfg s pin
  let port := fun (i : Nat) => fabricVal s (.entry t.1 t.2.1 (144 + 3 * t.2.2 + i))
  let data := match nbits w 22 21 with
    | 0 => port 0
    | 2 => if maskHas s.treeHigh (nbits w 20 18) then pinReg s pin 2 else pinReg s pin 3
    | _ => pinReg s pin 2
  match nbits w 31 30 with
  | 1 => (data, true)
  | 2 => (data, if nbits w 22 21 = 0 then port 2 else pinReg s pin 4)
  | _ => (false, false)

/-- A bank holds its pins high-impedance with no pull: its supply does not match, or it is declared unused (R231, R246). -/
def bankOff (s : State) (b : Nat) : Bool :=
  fbit s (Reg.CUFF_BANK b) F.CUFF_BANK_HELD || decide (fget s (Reg.CUFF_BANK b) F.CUFF_BANK_VIO_SEL = 0)

/-- What a pin last drove. -/
def pinNow (s : State) (pin : Nat) : Bool × Bool := sget (fun _ => (false, false)) s.pinOut pin

/-- The hold state of an output or bidirectional pin, by the committed configuration, which is the one in force before a stream commits
(R230, R265); a pin of a bank that is off drives nothing, and others keep what they drive. -/
def heldDrive (s : State) (pin : Nat) : Bool × Bool :=
  let w := pinWord s.goldenFrames (pinTile pin).1 (pinTile pin).2.1 (pinTile pin).2.2
  if bankOff s (pin / 40) then (false, false)
  else if nbits w 31 30 = 1 ∨ nbits w 31 30 = 2 then
    match nbits w 11 10 with
    | 0 => pinNow s pin
    | 1 => ((pinNow s pin).1, false)
    | 2 => (false, true)
    | _ => (true, true)
  else pinNow s pin

/-- A pin of a committed region follows the fabric; in a region in hold, or from an integrity halt on, it keeps what it drives, unless its
bank is off (R230, R231, R265, R282). -/
def refreshPin (s : State) (pin : Nat) : State :=
  if !regionLive s (pin / 40) then s
  else
    let v := if bankOff s (pin / 40) then (false, false)
      else if s.pinsHeld || regionHeld s (pin / 40) then pinNow s pin else pinDrive s pin
    { s with pinOut := sset (fun _ => (false, false)) s.pinOut pin v }

/-- Every pin of every committed region brought up to date. -/
def refreshPins (s : State) : State := allPins.foldl refreshPin s

/-- Output and bidirectional pins of the regions in a mask go to their hold states (R230); those of a region without a first
commit keep the state of R267. -/
def holdPins (s : State) (regions : Nat) : State :=
  allPins.foldl (fun s pin =>
    if maskHas regions (pin / 40) && regionLive s (pin / 40) then
      { s with pinOut := sset (fun _ => (false, false)) s.pinOut pin (heldDrive s pin) } else s) s

/-- The fabric comes to rest after a change: trees on pins and cells follow, then the pins (at most 64 tree edges, assumption 90). -/
def settleFabric (s : State) : State := refreshPins (settleTrees s 64)

/-- The level that an input buffer sees at a pin in the present REFCLK period: the one party that drives it, else its pull, else a
free value (R229, R231, R267). Where both drive it and differ, the level is a free value too. -/
def pinSample (s : State) (pin : Nat) : Bool :=
  let b := pin / 40
  let own := if (pinNow s pin).2 then some (pinNow s pin).1 else none
  let float := Config.pinFloat pin s.ticks
  match Config.pinDriven pin s.ticks, own with
  | some a, none => a
  | none, some v => v
  | some a, some v => if a = v then a else float
  | none, none =>
    if !regionLive s b then (if fbit s (Reg.CUFF_BANK b) F.CUFF_BANK_PREPULL then false else float)
    else if bankOff s b then float
    else match nbits (pinCfg s pin) 29 28 with
      | 1 => false
      | 2 => true
      | 3 => pinLevel s pin
      | _ => float

/-- The target's levels taken at every pin. -/
def samplePins (s : State) : State :=
  { s with pinIn := allPins.foldl (fun m pin => sset (fun _ => false) m pin (pinSample s pin)) s.pinIn }

/-! ## Supplies (R231, R246) -/

/-- A bank's supply against its declaration (R231, R246). -/
def bankCheck (s : State) (b : Nat) : State :=
  let r := Reg.CUFF_BANK b
  let ok := decide (fget s r F.CUFF_BANK_VIO_SEL = fget s r F.CUFF_BANK_VIO_MEAS)
  let s := fset s r F.CUFF_BANK_VIO_OK (if ok then 1 else 0)
  if ok || decide (fget s r F.CUFF_BANK_VIO_SEL = 0) then s
  else
    let was := fbit s r F.CUFF_BANK_HELD
    let s := fset (fset s r F.CUFF_BANK_HELD 1) Reg.CUFF_STATUS F.CUFF_STATUS_VIO_FAULT 1
    if was then s
    else logRecord s 9 (Config.severity (Config.code 231)).val ((regionPart s b).getD modulePart) (Config.code 231) r []

/-- VIO_CHANGE: a bank's measured supply changes, and its pins with it (R231). -/
def vioChange (s : State) (b meas : Nat) : State :=
  settleFabric (bankCheck (fset s (Reg.CUFF_BANK b) F.CUFF_BANK_VIO_MEAS meas) b)

/-- BANK_CONFIG_TAKE: the bank takes its configuration once its supply matches: in a hold, that of the hold (R230, R231). -/
def bankTake (s : State) (b : Nat) : State :=
  if fbit s (Reg.CUFF_BANK b) F.CUFF_BANK_VIO_OK then
    let s := fset s (Reg.CUFF_BANK b) F.CUFF_BANK_HELD 0
    settleFabric (if s.pinsHeld || regionHeld s b then holdPins s (2 ^ b) else s)
  else s

/-! ## Isolation latches and INIT (R218, R223, R265) -/

/-- The outgoing wires that cross the border of a region: tile, entry and the landing tile's row. -/
def borderWires : List (Nat × Nat × Nat × Nat) :=
  (List.range 48).flatMap fun c => (List.range 32).flatMap fun r =>
    (([(0, 1), (2, 1), (0, 4), (2, 4)] : List (Nat × Nat)).flatMap fun sd =>
      match tileBeside c r sd.1 sd.2 with
      | some (_, r') =>
        if r / 2 = r' / 2 then []
        else (List.range 8).map fun t => (c, r, (if sd.2 = 1 then 64 else 96) + 8 * sd.1 + t, r')
      | none => [])

/-- Border latches of the regions in a mask hold the values that last crossed. -/
def closeLatches (s : State) (regions : Nat) : State :=
  let l := (borderWires.filter fun w => decide (regions / 2 ^ (w.2.1 / 2) % 2 = 1) || decide (regions / 2 ^ (w.2.2.2 / 2) % 2 = 1)).filterMap
    fun w =>
      let k := tileNo w.1 w.2.1 * 256 + w.2.2.1
      if (sget (fun _ => none) s.latches k).isSome then none else some (k, fabricVal s (.entry w.1 w.2.1 w.2.2.1))
  { s with latches := l.foldl (fun m x => sset (fun _ => none) m x.1 (some x.2)) s.latches }

/-- Border latches become transparent where neither side is in hold. -/
def openLatches (s : State) : State :=
  let l := borderWires.filter fun w => !regionHeld s (w.2.1 / 2) && !regionHeld s (w.2.2.2 / 2)
  { s with latches := l.foldl (fun m w => sset (fun _ => none) m (tileNo w.1 w.2.1 * 256 + w.2.2.1) none) s.latches }

/-- Cell flip-flops of the regions in a mask at INIT (R218). -/
def initCells (s : State) (regions : Nat) : State :=
  let s := { s with cellQ := s.cellQ.filter fun c => decide (regions / 2 ^ (c.1 / 256 / 48 / 2) % 2 = 0) }
  (usedCells s).foldl (fun s c =>
    if regions / 2 ^ (c.2.1 / 2) % 2 = 1 then
      let v := nbits (cellWord s.frames c.1 c.2.1 c.2.2) 22 22 == 1
      { s with cellQ := sset (fun _ => false) s.cellQ (tileNo c.1 c.2.1 * 256 + c.2.2) v }
    else s) s

/-- One REFCLK period of the fabric: the target's levels are taken, every enabled synthesiser goes through half a period of its own,
then the trees on pins and cells follow, and the pins (assumption 1). -/
def fabricTick (s : State) : State :=
  if (List.range 16).all fun r => !regionLive s r then s
  else
    let s := samplePins s
    let run := (List.range 8).filter fun n => decide (nbits (treeWord s.frames n 0) 31 31 = 1) && decide (treeSrc s n = 0)
    settleFabric (run.foldl (fun s n => sourceStep s n (!maskHas s.treeRaw n)) s)

/-! ## The commands -/

def execBridgeCapture (slot : Fin 32) (s : State) : Host.Outcome State Fault Refusal :=
  .next (settleFabric (captureEdge s slot.val))
def execBridgeOutTake (slot : Fin 32) (s : State) : Host.Outcome State Fault Refusal :=
  .next (settleFabric (takeEdge s slot.val))
def execTransactorRxBeat (slot : Fin 32) (s : State) : Host.Outcome State Fault Refusal :=
  .next (settleFabric (rxEdge s slot.val))
def execTransactorTxBeat (slot : Fin 32) (s : State) : Host.Outcome State Fault Refusal :=
  .next (settleFabric (txEdge s slot.val))
def execDriverConflict (row : Fin 32) (span : Fin 4) (line : Fin 16) (enabled : BitVec 12) (s : State) :
    Host.Outcome State Fault Refusal := .next (settleFabric (driverConflict s row.val span.val line.val enabled.toNat))
def execVioChange (bank : Fin 16) (meas : Fin 4) (s : State) : Host.Outcome State Fault Refusal :=
  .next (vioChange s bank.val meas.val)
def execBankConfigTake (bank : Fin 16) (s : State) : Host.Outcome State Fault Refusal := .next (bankTake s bank.val)

end Sys2Proof.Machine
end

