-- ==== Sys2Proof/Machine/Cluster.lean ====
section
/-! DEFINITION. The cluster (02, 03): what one BP's instruction does at a stitch, the waits of R81, GO, sub-steps, completion
and the sweep's ends, and the cluster's and its die's registers. Every instruction's command and the STITCH command run the
same operation `runBp`: a stitch's instructions may be commanded one by one before STITCH completes it (assumption 8). -/

namespace Sys2Proof.Machine

/-! ## Admission (R90, R91) -/

/-- What a sweep starts with: a cleared window, WR and flags, pages and pointers from their bases (R41, R48, R49, R53, R61),
and the spare map as last written (R74). -/
def beginSweep (s : State) (c : ClusterId) : State :=
  let k := getCl s c.idx
  let ptr := fun f => (List.range 32).foldl
    (fun m b => sset (fun _ => 0) m b (fget s (Reg.BP_PTRBASE c b) f)) ([] : SMap Nat)
  let sp := rget s (Reg.BP_SPARE_MAP c)
  let s := setCl s c.idx { k with
    inSweep := true, win0 := 0, win1 := 0, win2 := 0, win3 := 0, cur := 0, ran := 0, dpage := [],
    dwptr := ptr F.BP_PTRBASE_DWBASE, swptr := ptr F.BP_PTRBASE_SWBASE,
    wr := 0, flags := {}, wrKey := none, znKey := none, cvKey := none,
    pend := k.pend.map fun p => { p with wr := false, zn := none, cv := none },
    popped := [], breakReq := false,
    spareFor := if fldGet sp F.BP_SPARE_MAP_ACTIVE = 1 then some (fldGet sp F.BP_SPARE_MAP_REPLACED) else none }
  fset s (Reg.BP_CL_STATUS c) F.BP_CL_STATUS_RUN 1

/-- A cluster at stitch 0 whose gate admits its ecycle begins the sweep (R79 order 1, R90). -/
def gateEnter (s : State) (c : ClusterId) : State :=
  let k := getCl s c.idx
  if k.inSweep then s
  else
    match partOf s c with
    | some p => if participating s c && gateAdmits s p k.ecycle && !k.hold then beginSweep s c else s
    | none => s

/-! ## The instructions of a stitch -/

/-- The instruction of logical BP `b` at the present stitch. -/
def instrAt (s : State) (c : ClusterId) (b : Nat) : BpInstr :=
  let k := getCl s c.idx
  decodeBp (slotWord s c (physBp k b) k.stitch)

/-- Logical BP `b` has run the present stitch. -/
def hasRun (k : Cluster) (b : Nat) : Bool := k.ran.getLsbD b

/-- The issue key of logical BP `b` at the present stitch (R64). -/
def keyOf (k : Cluster) (b : Nat) : IssueKey := ⟨k.ecycle, k.stitch, b⟩

/-- The address that a memory stitch's AWF entry holds (R137). -/
def awfAddr (s : State) (c : ClusterId) (awf : BitVec 10) : Nat := (wfGet s c awf.toNat).toNat

/-- A memory stitch is performed: WCOND is 0 or its condition bit is 1 (R66). -/
def condHolds (k : Cluster) (wcond : Bool) (wcbit : BitVec 7) : Bool := !wcond || windowBit k wcbit

/-- The credits one instruction costs (R179). -/
def creditCost (s : State) (c : ClusterId) (i : BpInstr) : Nat :=
  match i with
  | .word op _ => if op = .mulu ∨ op = .muls then 4 else 1
  | .drd desc _ _ _ _ => if descPocket (descGet s c.die.val desc.toNat) then 0 else 16
  | .dwr desc _ _ _ _ _ _ => if descPocket (descGet s c.die.val desc.toNat) then 0 else 24
  | _ => 0

/-- The credits the present stitch costs (R180). -/
def stitchCost (s : State) (c : ClusterId) : Nat :=
  ((List.range 32).map fun b => creditCost s c (instrAt s c b)).sum

/-- Die `d` is braked (R512). -/
def braked (s : State) (d : Nat) : Bool := fbit s (Reg.PWR_CREDIT d) F.PWR_CREDIT_BRAKE

/-- What a request of cost `n` is charged now: one credit more on a braked die (R512). -/
def chargeNow (s : State) (d n : Nat) : Nat := n + if braked s d then 1 else 0

/-- A credit request of the cluster stands in its die's queue. -/
def creditQueued (s : State) (c : ClusterId) : Bool := (getDie s c.die.val).credits.any fun r => decide (r.1 = c.idx)

/-- The present stitch still waits for credits (R79, R180, R512). -/
def creditWait (s : State) (c : ClusterId) : Bool :=
  (decide (chargeNow s c.die.val (stitchCost s c) ≠ 0) || creditQueued s c) && !(getCl s c.idx).credited

/-- The HBM operations the present stitch still has to launch: one for each DRD or DWR on an HBM descriptor whose condition
holds, as its stack (R144). -/
def hbmDemand (s : State) (c : ClusterId) : List Nat :=
  let k := getCl s c.idx
  (List.range 32).filterMap fun b =>
    if hasRun k b then none
    else
      match instrAt s c b with
      | .drd desc awf _ wc wb =>
        let d := descGet s c.die.val desc.toNat
        if descPocket d || !condHolds k wc wb then none
        else some (stackOf (descHbmBase d + awfAddr s c awf * descElemBits d / 8))
      | .dwr desc awf _ wc wb _ _ =>
        let d := descGet s c.die.val desc.toNat
        if descPocket d || !condHolds k wc wb then none
        else some (stackOf (descHbmBase d + awfAddr s c awf * descElemBits d / 8))
      | _ => none

/-- Every HBM operation of the stitch has room under every limit of R144. -/
def hbmRoom (s : State) (c : ClusterId) : Bool :=
  let l := hbmDemand s c
  l.isEmpty ||
  (decide (hbmOutCluster s c + l.length ≤ 128) && decide (hbmOutDie s c.die.val + l.length ≤ 1024) &&
   (List.range 4).all fun h =>
     decide (stackOut s h + (l.filter fun x => decide (x = h)).length ≤ 1024))

/-- Every partner's report lets the next stitch begin (R88). -/
def slackOk (s : State) (c : ClusterId) : Bool :=
  (getCl s c.idx).reports.all fun r =>
    match r.2 with
    | some n => decide (completedCount s c ≤ n + 7)
    | none => true

/-! ## Waits (R79 orders 1 to 3, R81) -/

/-- What one instruction's operands and destination wait on (R61, R62, R81, R137, R138, R140). -/
def instrWaits (s : State) (c : ClusterId) (i : BpInstr) : List Nat :=
  let k := getCl s c.idx
  let op := operandWaits s c k (slotFromSeam s c)
  match i with
  | .lut _ a b cc d _ _ => op a ++ op b ++ op cc ++ op d
  | .luts _ a b cc _ _ _ => op a ++ op b ++ op cc
  | .word o f =>
    (if f.asrc = 0 then wfWaits k f.af.toNat else if f.asrc = 2 ∧ wrBusy k = true then [causeWord] else []) ++
    (if usesB o then
       (if f.bsrc = 0 then wfWaits k f.bf.toNat else if f.bsrc = 2 ∧ wrBusy k = true then [causeWord] else [])
     else []) ++
    (if usesCarry o && cvBusy k then [causeWord] else []) ++
    (if f.nwb || decide (o = .cmp) then [] else destWaits k f.df.toNat)
  | .drd desc awf _ _ _ =>
    wfWaits k awf.toNat ++
    (if (getDie s c.die.val).badDesc.contains desc.toNat then [causeRepair] else [])
  | .dwr desc awf dwf _ _ mwf me =>
    wfWaits k awf.toNat ++ wfWaits k dwf.toNat ++ (if me then wfWaits k mwf.toNat else []) ++
    (if (getDie s c.die.val).badDesc.contains desc.toNat then [causeRepair] else [])
  | .ldsw _ dwf => destWaits k dwf.toNat
  | .stsw _ swf _ _ => wfWaits k swf.toNat
  | .dfence =>
    if k.pend.any (fun p => fromDmem p && decide (p.key.ecycle = k.ecycle) && decide (p.key.stitch < k.stitch)) ||
       (getDie s c.die.val).ops.any (fun o => decide (o.cluster = c.idx) && decide (o.key.ecycle = k.ecycle) &&
         decide (o.key.stitch < k.stitch))
    then [causeDmem] else []
  | _ => []

/-- What withholds GO from a whole partition: a rollback's hold (R386 order 2), and the integrity halt (R282 order 2). -/
def partWaits (s : State) (c : ClusterId) : List Nat :=
  match partOf s c with
  | some p =>
    (if (getPart s p).hold ≠ .none then [causeRepair] else []) ++ (if 3 ≤ oget s (Od.RUN_STATE p) then [causeGate] else [])
  | none => []

/-- A cluster at stitch 0 that its gate does not admit (R90). -/
def gateHolds (s : State) (c : ClusterId) : Bool :=
  !(getCl s c.idx).inSweep && (match partOf s c with
    | some p => !gateAdmits s p (getCl s c.idx).ecycle
    | none => true)

/-- What withholds GO: the Lining's hold, the gate, slack, credits and HBM room (R79 order 1). -/
def goWaits (s : State) (c : ClusterId) : List Nat :=
  let k := getCl s c.idx
  partWaits s c ++
  (if k.hold || !k.reloads.isEmpty || k.reloadWs then [causeRepair] else []) ++
  (if gateHolds s c then [causeGate] else []) ++
  (if slackOk s c then [] else [causeSlack]) ++
  (if creditWait s c then [causeCredit] else []) ++
  (if hbmRoom s c then [] else [causeDmem])

/-- The waits of the BPs that have not run, for their operands and destinations (R79 order 3, R81). -/
def operandsWait (s : State) (c : ClusterId) : List Nat :=
  (List.range 32).flatMap fun b => if hasRun (getCl s c.idx) b then [] else instrWaits s c (instrAt s c b)

/-- What holds the cluster now: GO's causes, and once GO is given those of its operands. A wait of any BP stalls the whole
cluster (R36). -/
def stitchWaits (s : State) (c : ClusterId) : List Nat :=
  if goWaits s c = [] then operandsWait s c else goWaits s c

/-- The first tag fault that an instruction's operands meet (R84). -/
def instrTagFault (s : State) (c : ClusterId) (i : BpInstr) : Option (Nat × Nat × Nat) :=
  let f := operandFault s c (getCl s c.idx)
  match i with
  | .lut _ a b cc d _ _ => (f a).or ((f b).or ((f cc).or (f d)))
  | .luts _ a b cc _ _ _ => (f a).or ((f b).or (f cc))
  | _ => none

/-- A stitch's credit request, made once (R180). -/
def requestCredit (s : State) (c : ClusterId) : State :=
  let x := getDie s c.die.val
  if creditWait s c && !creditQueued s c then
    setDie s c.die.val { x with credits := x.credits ++ [(c.idx, stitchCost s c)] }
  else s

/-- The lowest index of a list of causes. -/
def lowestCause (l : List Nat) : Nat := l.foldl min 7

/-- BP_PROGRESS shows the cluster's position and wait (R95). -/
def showProgress (s : State) (c : ClusterId) : State :=
  let k := getCl s c.idx
  fsets s (Reg.BP_PROGRESS c)
    [(F.BP_PROGRESS_STALLED, if k.waits.isEmpty then 0 else 1), (F.BP_PROGRESS_CAUSE, lowestCause k.waits),
     (F.BP_PROGRESS_EPAR, k.ecycle % 2), (F.BP_PROGRESS_STITCH, k.stitch)]

/-- The Lining holds the cluster's partition for a rollback (R386, orders 1 to 6). -/
def rollbackHeld (s : State) (c : ClusterId) : Bool :=
  match partOf s c with
  | some p => decide ((getPart s p).hold ≠ .none)
  | none => false

/-- The cluster waits on the causes `l` now: of those it waited on before, the ones gone released last, the lowest of them where
several released together; a wait that falls within a rollback's hold is marked for REPAIR (R95). -/
def setWaits (s : State) (c : ClusterId) (l : List Nat) : State :=
  let k := getCl s c.idx
  let gone := k.waits.filter fun x => !l.contains x
  showProgress (setCl s c.idx { k with
    waits := l, released := if gone.isEmpty then k.released else some (lowestCause gone),
    repairWait := k.repairWait || (rollbackHeld s c && decide (k.waits ≠ [] ∨ l ≠ [])) }) c

/-- A cluster that waits looks again at what holds it, after an event that may have released a cause (R95). -/
def review (s : State) (c : ClusterId) : State :=
  if (getCl s c.idx).waits = [] then s else setWaits s c (stitchWaits s c)

/-- Every waiting cluster of a partition looks again. -/
def reviewPart (s : State) (p : Nat) : State := (partClusters s p).foldl review s

/-- The clusters of a partition stop where they are: their ecycle in progress is abandoned (R91, R386 order 2). -/
def stopClusters (s : State) (p : Nat) : State := (partClusters s p).foldl clearRun s

/-- The stitch waits on `l`: its credits are asked for, and a stitch time passes at port W1. -/
def noteWaits (s : State) (c : ClusterId) (l : List Nat) : State :=
  let s := setWaits (requestCredit s c) c l
  setCl s c.idx { getCl s c.idx with waited := true, w1Used := false }

/-! ## Effects of one instruction -/

/-- BP_ILLEGAL captures the first illegal encoding executed since VALID was cleared, with one log record (R72). Where several BPs
of one stitch hold one, R72 does not say which is the first: it is the first that runs, under STITCH the lowest logical BP
(assumption 81). -/
def captureIllegal (s : State) (c : ClusterId) (b : Nat) : State :=
  let k := getCl s c.idx
  let s := fset s (Reg.BP_CL_STATUS c) F.BP_CL_STATUS_ILL 1
  if fbit s (Reg.BP_ILLEGAL c) F.BP_ILLEGAL_VALID then s
  else
    let s := fsets s (Reg.BP_ILLEGAL c)
      [(F.BP_ILLEGAL_VALID, 1), (F.BP_ILLEGAL_STITCH, k.stitch), (F.BP_ILLEGAL_BP, b)]
    logRecord s 1 (Config.severity Code.ILLEGAL_ENCODING).val ((partOf s c).getD modulePart) Code.ILLEGAL_ENCODING
      (clusterBase c) [0, b, k.stitch, 0]

/-- A write of one state bit (R54, R55): kept unless a later write of the ecycle already stands; a bit already marked adds 1
to BP_DUPW_CNT. -/
def writeStateBit (s : State) (c : ClusterId) (b a : Nat) (v : Bool) : State :=
  let k := getCl s c.idx
  let new : StateWrite := ⟨v, k.stitch, b⟩
  match sget (fun _ => none) k.written a with
  | none => setCl s c.idx { k with written := sset (fun _ => none) k.written a (some new) }
  | some old =>
    let s := fset (fadd s (Reg.BP_DUPW_CNT c) F.BP_DUPW_CNT_COUNT 1) (Reg.BP_CL_STATUS c) F.BP_CL_STATUS_DUPW 1
    if old.stitch < new.stitch ∨ (old.stitch = new.stitch ∧ old.bp ≤ new.bp) then
      setCl s c.idx { k with written := sset (fun _ => none) k.written a (some new) }
    else s

/-- An SW write: the result at SWPTR, which then moves on (R53). -/
def writeSw (s : State) (c : ClusterId) (b : Nat) (v : Bool) : State :=
  let a := sget (fun _ => 0) (getCl s c.idx).swptr b
  let s := writeStateBit s c b a v
  let k := getCl s c.idx
  setCl s c.idx { k with swptr := sset (fun _ => 0) k.swptr b ((a + 1) % 65536) }

/-- A DW write: the result at DWPTR, which then moves on (R49). -/
def writeDw (s : State) (c : ClusterId) (b : Nat) (v : Bool) : State :=
  let a := sget (fun _ => 0) (getCl s c.idx).dwptr b
  let s := setMemBit s (dataBase c b) a v
  let k := getCl s c.idx
  setCl s c.idx { k with dwptr := sset (fun _ => 0) k.dwptr b ((a + 1) % 16384) }

/-- The result bit of logical BP `b` for this stitch, and that it has run. -/
def setResult (s : State) (c : ClusterId) (b : Nat) (v : Bool) : State :=
  let k := getCl s c.idx
  let m : Word := BitVec.ofNat 32 (2 ^ b)
  setCl s c.idx { k with cur := if v then k.cur ||| m else k.cur &&& ~~~ m, ran := k.ran ||| m }

/-- Bit `8D + 4C + 2B + A` of a truth table (R44). -/
def lutBit (tt : BitVec 16) (a b c d : Bool) : Bool := tt.getLsbD (8 * d.toNat + 4 * c.toNat + 2 * b.toNat + a.toNat)

/-- A LUT or LUTS result: written where SW and DW say, and the BP's result bit (R45, R46). -/
def finishLut (s : State) (c : ClusterId) (b : Nat) (v sw dw : Bool) : State :=
  let s := if dw then writeDw s c b v else s
  let s := if sw then writeSw s c b v else s
  setResult s c b v

/-- A LUT stitch (R45). -/
def runLut (s : State) (c : ClusterId) (b : Nat) (tt : BitVec 16) (x y z w : BitVec 9) (sw dw : Bool) : State :=
  let o := operandBit s c (getCl s c.idx) b
  finishLut s c b (lutBit tt (o x) (o y) (o z) (o w)) sw dw

/-- A LUTS stitch (R46): operand D is the state bit as it stood at the end of the ecycle before (R16). -/
def runLuts (s : State) (c : ClusterId) (b : Nat) (tt : BitVec 16) (x y z : BitVec 9) (sw dw : Bool) (a : BitVec 16) :
    State :=
  let o := operandBit s c (getCl s c.idx) b
  finishLut s c b (lutBit tt (o x) (o y) (o z) (stateBit s c a.toNat)) sw dw

/-- Operand A of a word stitch (R57, R58, R72). -/
def wordA (s : State) (c : ClusterId) (f : WordFields) : Word :=
  let k := getCl s c.idx
  match f.asrc.toNat with
  | 0 => wfGet s c f.af.toNat
  | 1 => windowAge k (f.af.toNat % 4)
  | 2 => k.wr
  | _ => 0

/-- Operand B of a word stitch (R57, R58). -/
def wordB (s : State) (c : ClusterId) (f : WordFields) : Word :=
  let k := getCl s c.idx
  match f.bsrc.toNat with
  | 0 => wfGet s c f.bf.toNat
  | 1 => f.bf.setWidth 32
  | 2 => k.wr
  | _ => windowAge k (f.bf.toNat % 4)

/-- A word stitch: its result is computed at issue and waits for its latency (R59, R60). -/
def runWord (s : State) (c : ClusterId) (b : Nat) (op : WordOp) (f : WordFields) : State :=
  let k := getCl s c.idx
  let r := wordResult op (wordA s c f) (wordB s c f) k.flags.c f.imm5.toNat (windowBit k f.csel)
  let flags := f.fw || decide (op = .cmp)
  let p : PendingWrite :=
    { key := keyOf k b, port := .word,
      entry := if f.nwb || decide (op = .cmp) then none else some f.df.toNat,
      value := r.value, lat := wordLatency Config.stepping op, wr := decide (op ≠ .cmp),
      zn := if flags then some (znOf r.value) else none,
      cv := if flags then r.cv else none }
  setResult (addPending s c p) c b false

/-- A DRD stitch (R66, R135). -/
def runDrd (s : State) (c : ClusterId) (b : Nat) (desc : BitVec 16) (awf dwf : BitVec 10) (wc : Bool) (wb : BitVec 7) :
    State :=
  let k := getCl s c.idx
  let s := if condHolds k wc wb then issueRead s c (keyOf k b) desc.toNat (awfAddr s c awf) dwf.toNat else s
  setResult s c b false

/-- A DWR stitch (R66, R135). -/
def runDwr (s : State) (c : ClusterId) (b : Nat) (desc : BitVec 16) (awf dwf : BitVec 10) (wc : Bool) (wb : BitVec 7)
    (mwf : BitVec 10) (me : Bool) : State :=
  let k := getCl s c.idx
  let mask : Word := if me then wfGet s c mwf.toNat else BitVec.allOnes 32
  let s := if condHolds k wc wb then
      issueWrite s c (keyOf k b) desc.toNat (awfAddr s c awf) (wfGet s c dwf.toNat) mask else s
  setResult s c b false

/-- An LDSW stitch: the state word as LUTS would read it, on its way to the word file (R67). -/
def runLdsw (s : State) (c : ClusterId) (b : Nat) (swa : BitVec 11) (dwf : BitVec 10) : State :=
  let k := getCl s c.idx
  let p : PendingWrite :=
    { key := keyOf k b, port := .ldsw, entry := some dwf.toNat,
      value := BitVec.ofNat 32 (memLE s (stateBase c + 4 * swa.toNat) 4), wr := false, zn := none, cv := none }
  setResult (addPending s c p) c b false

/-- An STSW stitch: 32 state bits, bit by bit (R67). -/
def runStsw (s : State) (c : ClusterId) (b : Nat) (swa : BitVec 11) (swf : BitVec 10) (wc : Bool) (wb : BitVec 7) :
    State :=
  let w := wfGet s c swf.toNat
  let s := if condHolds (getCl s c.idx) wc wb then
      (List.range 32).foldl (fun s i => writeStateBit s c b (32 * swa.toNat + i) (w.getLsbD i)) s else s
  setResult s c b false

/-- A SETPG stitch (R68). -/
def runSetpg (s : State) (c : ClusterId) (b : Nat) (page : BitVec 6) : State :=
  let s := setResult s c b false
  let k := getCl s c.idx
  setCl s c.idx { k with dpage := sset (fun _ => 0) k.dpage b page.toNat }

/-- A BRK stitch: a break requested at the present ecycle, carried by the completion post (R68, R69). -/
def runBrk (s : State) (c : ClusterId) (b : Nat) (u : Bool) (i : BitVec 7) : State :=
  let s := setResult s c b false
  let k := getCl s c.idx
  if u || windowBit k i then
    fset (setCl s c.idx { k with breakReq := true }) (Reg.BP_CL_STATUS c) F.BP_CL_STATUS_BRK 1
  else s

/-- A MARK stitch: an event to the trigger engine and Hem (R68). -/
def runMark (s : State) (c : ClusterId) (b : Nat) (tag : BitVec 16) (u : Bool) (i : BitVec 7) : State :=
  let s := setResult s c b false
  let k := getCl s c.idx
  if u || windowBit k i then
    match partOf s c with
    | some p =>
      let x := getPart s p
      -- a replayed MARK acts again only beyond what was already acted on (R387)
      if k.ecycle < x.marksActed then hemMark s c k.ecycle k.stitch b tag.toNat
      else
        hemMark (setPart s p { x with marks := x.marks ++ [⟨k.ecycle, imageStitch s p k.stitch, tag.toNat⟩] })
          c k.ecycle k.stitch b tag.toNat
    | none => s
  else s

/-- Logical BP `b` runs its instruction of the present stitch. -/
def runBp (s : State) (c : ClusterId) (b : Nat) : State :=
  let w := slotWord s c (physBp (getCl s c.idx) b) (getCl s c.idx).stitch
  let s := if slotIllegal w then captureIllegal s c b else s
  match decodeBp w with
  | .lut tt x y z d sw dw => runLut s c b tt x y z d sw dw
  | .luts tt x y z sw dw a => runLuts s c b tt x y z sw dw a
  | .word op f => runWord s c b op f
  | .drd desc awf dwf wc wb => runDrd s c b desc awf dwf wc wb
  | .dwr desc awf dwf wc wb mwf me => runDwr s c b desc awf dwf wc wb mwf me
  | .ldsw swa dwf => runLdsw s c b swa dwf
  | .stsw swa swf wc wb => runStsw s c b swa swf wc wb
  | .setpg page => runSetpg s c b page
  | .brk u i => runBrk s c b u i
  | .mark tag u i => runMark s c b tag u i
  | .nop | .dfence | .reserved => setResult s c b false

/-! ## Sub-steps (R70, R141) -/

/-- ⌈n / d⌉. -/
def ceilDiv (n d : Nat) : Nat := (n + d - 1) / d

/-- The bank that a Pocket operation occupies, and whether it is a write (R141). -/
def bankDemand (s : State) (c : ClusterId) (i : BpInstr) : Option (Nat × Bool) :=
  let f := fun (desc : BitVec 16) (awf : BitVec 10) (w : Bool) =>
    let d := descGet s c.die.val desc.toNat
    let a := awfAddr s c awf
    if !descPocket d || decide (descDepthM1 d < a) || (descCheck s c d a).isSome then none
    else some (descBank d a, w)
  match i with
  | .drd desc awf _ _ _ => f desc awf false
  | .dwr desc awf _ _ _ _ _ => f desc awf true
  | _ => none

/-- The number of sub-steps of the present stitch: the largest demand over limit, rounded up (R70, R141). -/
def subSteps (s : State) (c : ClusterId) : Nat :=
  let is := (List.range 32).map fun b => instrAt s c b
  let cnt := fun (f : BpInstr → Bool) => (is.filter f).length
  let reads := cnt fun i => match i with | .luts .. => true | .ldsw .. => true | _ => false
  let writes := cnt fun i => match i with
    | .lut _ _ _ _ _ sw _ => sw | .luts _ _ _ _ sw _ _ => sw | .stsw .. => true | _ => false
  let words := cnt fun i => match i with | .word .. => true | _ => false
  let ldsw := cnt fun i => match i with | .ldsw .. => true | _ => false
  let mem := cnt fun i => match i with | .drd .. => true | .dwr .. => true | _ => false
  let banks := is.filterMap (bankDemand s c)
  let perBank := banks.map fun x => max (ceilDiv (banks.filter fun y => decide (y.1 = x.1)).length 2)
    (banks.filter fun y => decide (y.1 = x.1) && y.2).length
  (perBank ++ [ceilDiv reads 8, ceilDiv writes 4, words, ldsw, ceilDiv mem 2]).foldl max 1

/-! ## Completion (R79 orders 5 to 7) -/

/-- The group that output slot `j` sends for this stitch: its result where SEND says so, and the completed count (R108). -/
def groupFor (s : State) (c : ClusterId) (j : Nat) : Group :=
  let k := getCl s c.idx
  { value := if sendBit s c k.stitch j then some (k.cur.getLsbD j) else none,
    stitch := k.stitch, ecycle := k.ecycle, count := completedCount s c + 1 }

/-- The first stage of a route still holds a group that a value must wait for (R109, R124). -/
def routeBlocked (s : State) (c : ClusterId) : Bool :=
  (List.range 32).any fun j =>
    !(branchesOf s c j).isEmpty && sendBit s c (getCl s c.idx).stitch j &&
    (getStage s (stageKey c j)).isSome

/-- Every route that starts in the cluster takes its group; a value with no route is discarded at the switch (R108, R123). -/
def sendGroups (s : State) (c : ClusterId) : State :=
  (List.range 32).foldl (fun s' j =>
    if (branchesOf s c j).isEmpty then s' else enterStage s' (stageKey c j) (groupFor s c j)) s

/-- The heads that POP names are removed at the end of the stitch (R111). A POP bit met while its queue is empty removes nothing and
leaves the POP history alone: R111 does not say (assumption 82). -/
def popHeads (s : State) (c : ClusterId) : State :=
  let k := getCl s c.idx
  let js := (List.range 32).filter fun j => popBit s c k.stitch j && !(queueOf k j).isEmpty
  setCl s c.idx (js.foldl (fun k j => { k with
    queues := sset (fun _ => []) k.queues j (queueOf k j).tail,
    popped := sset (fun _ => 0) k.popped j (sget (fun _ => 0) k.popped j + 1) }) k)

/-- The stall of this stitch, counted once: under REPAIR where part of it fell in a rollback's hold, otherwise under the cause
that released last (R95). -/
def stallCause (k : Cluster) : Option Nat :=
  if !k.waited then none else if k.repairWait then some causeRepair else some (k.released.getD (lowestCause k.waits))

/-- The stitch completes: window, counters, groups and the next stitch (R79 orders 5 to 7). -/
def completeStitch (s : State) (c : ClusterId) : State :=
  let n := subSteps s c
  let k := getCl s c.idx
  let s := hemStitch s c k k.cur (n - 1) (stallCause k)
  let s := match stallCause k with
    | some x => fadd s (Reg.BP_STALL_CNT c x) F.BP_STALL_CNT_COUNT 1
    | none => s
  let s := fadd s (Reg.BP_SPLIT_CNT c) F.BP_SPLIT_CNT_COUNT (n - 1)
  let s := popHeads (sendGroups s c) c
  let k := getCl s c.idx
  let s := setCl s c.idx { k with
    win0 := k.cur, win1 := k.win0, win2 := k.win1, win3 := k.win2, cur := 0, ran := 0,
    stitch := k.stitch + 1, waits := [], waited := false, released := none, repairWait := false, credited := false,
    sendWait := false, noProgress := false, w1Used := false }
  showProgress s c

/-! ## Faults inside a stitch (R73, R84, R372) -/

/-- The cluster holds under REPAIR; the fault's place is kept for the recurrence tests (R84, R372, R373). -/
def holdFor (s : State) (c : ClusterId) (kind : Nat) : State :=
  let k := getCl s c.idx
  showProgress (setCl s c.idx { k with
    hold := true, waits := [causeRepair], waited := true, faultAt := ⟨kind, k.ecycle, k.stitch, 0⟩ :: k.faultAt }) c

/-- The tag faults of the BPs that have not run (R84). -/
def stitchTagFault (s : State) (c : ClusterId) : Option (Nat × Nat × Nat) :=
  (List.range 32).foldl (fun r b =>
    r.or (if hasRun (getCl s c.idx) b then none else instrTagFault s c (instrAt s c b))) none

/-- A physical BP runs in this cluster: a logical BP's own, unless the spare runs for it, and the spare where it runs for one
or checks (R74, R372). -/
def physInUse (k : Cluster) (phys : Nat) : Bool :=
  if phys = 32 then k.spareFor.isSome else decide (k.spareFor ≠ some phys)

/-- The cluster is ready to look at its present stitch: it takes part, its gate is asked at stitch 0, what is due has been written,
and its waits are looked at again. -/
def approach (s : State) (c : ClusterId) : State := review (landDue (gateEnter s c) c) c

/-- Every BP of the present stitch that has not run runs. -/
def runRest (s : State) (c : ClusterId) : State :=
  (List.range 32).foldl (fun s b => if hasRun (getCl s c.idx) b then s else runBp s c b) s

/-- The cluster has no stitch to execute: it takes no part, or it has completed the last stitch of its sweep. -/
def noStitch (s : State) (c : ClusterId) : Bool :=
  !participating s c || (partOf s c).isNone ||
  ((getCl s c.idx).inSweep && decide (sweepLen s c ≤ (getCl s c.idx).stitch))

/-- The end of a stitch whose BPs have all run: a fault found in it holds the cluster, a route that still holds a group
lengthens step 6, or it completes. -/
def endStitch (s : State) (c : ClusterId) (f : StitchFaults) : State :=
  let k := getCl s c.idx
  if f.spareMismatch && k.spareFor.isNone && !k.spareBad then holdFor s c 0
  else if f.residue then holdFor s c 2
  else if routeBlocked s c then
    if k.sendWait then s
    else
      setCl (fadd s (Reg.WRP_BP_CNT c) F.WRP_BP_CNT_COUNT 1) c.idx { getCl s c.idx with sendWait := true }
  else completeStitch s c

/-- STITCH: the cluster's present stitch, as far as it can go (R79). It waits, holds for a fault, or runs every BP that has
not run and completes. -/
def stitch (s : State) (c : ClusterId) (f : StitchFaults) : State :=
  if noStitch s c then s
  else
    let s := approach s c
    let k := getCl s c.idx
    match f.instrEcc with
    | some phys =>
      if physInUse k phys.val && k.inSweep then
        noteWaits (setCl s c.idx { k with reloads := (phys.val * 8192 + k.stitch) :: k.reloads }) c [causeRepair]
      else s
    | none =>
      if goWaits s c ≠ [] then noteWaits s c (goWaits s c)
      else
        match stitchTagFault s c with
        | some (j, e, r) => holdFor (markTagFault s c j e r) c 1
        | none => if stitchWaits s c ≠ [] then noteWaits s c (stitchWaits s c) else endStitch (runRest s c) c f

/-- A memory stitch that goes to design memory. -/
def isMemOp (i : BpInstr) : Bool :=
  match i with
  | .drd .. => true
  | .dwr .. => true
  | _ => false

/-- The descriptor entry that an instruction names, read with an uncorrectable error: it awaits its reload (R134). -/
def spoilDesc (s : State) (c : ClusterId) (i : BpInstr) : State :=
  let bad := fun (n : Nat) =>
    let x := getDie s c.die.val
    setDie s c.die.val { x with badDesc := (n :: x.badDesc).eraseDups }
  match i with
  | .drd desc .. => bad desc.toNat
  | .dwr desc .. => bad desc.toNat
  | _ => s

/-- The command of one instruction: logical BP `b` runs its part of the present stitch, when its instruction is the one
commanded, it has not run, and the whole stitch has GO and its operands: a wait or a tag fault of any BP stalls them all (R36).
Memory stitches issue in ascending logical BP order (R135). A DRD or DWR that meets a descriptor entry with an uncorrectable
error holds the cluster for its reload (R134). -/
def runOne (s : State) (c : ClusterId) (b : Nat) (is : BpInstr → Bool) (badEntry : Bool) : State :=
  if noStitch s c || !is (instrAt s c b) || hasRun (getCl s c.idx) b then s
  else
    let s := if badEntry then spoilDesc s c (instrAt s c b) else s
    let s := approach s c
    let before := isMemOp (instrAt s c b) && (List.range b).any fun a => !hasRun (getCl s c.idx) a && isMemOp (instrAt s c a)
    if goWaits s c ≠ [] then noteWaits s c (goWaits s c)
    else
      match stitchTagFault s c with
      | some (j, e, r) => holdFor (markTagFault s c j e r) c 1
      | none => if stitchWaits s c ≠ [] then noteWaits s c (stitchWaits s c) else if before then s else runBp s c b

/-! ## Results (R60 to R64) -/

/-- WORD_RESULT_WRITE: the word stitch with this key completes: at its latency, or while the cluster waits or stands between
sweeps (R60, R61, R64). -/
def wordResultWrite (s : State) (c : ClusterId) (key : IssueKey) : State :=
  match findPending (getCl s c.idx) .word key with
  | some p => if mayComplete s c p then review (landWrite s c p) c else s
  | none => s

/-- LDSW_RESULT_WRITE: the LDSW with this key is written through W1 (R63, R64). -/
def ldswResultWrite (s : State) (c : ClusterId) (key : IssueKey) : State :=
  match findPending (getCl s c.idx) .ldsw key with
  | some p => review (commandW1 s c p) c
  | none => s

/-! ## The sweep's end and the ecycle (R54, R89, R90) -/

/-- The written bits of the ecycle enter the visible plane, and the written map is cleared (R54). -/
def swapPlanes (s : State) (c : ClusterId) : State :=
  let k := getCl s c.idx
  let s := k.written.foldl (fun s kv =>
    match kv.2 with
    | some w => setMemBit s (stateBase c) kv.1 w.value
    | none => s) s
  setCl s c.idx { getCl s c.idx with written := [] }

/-- SWEEP_END: a cluster that has completed stitch L - 1 posts its ecycle's completion; its state writes become visible, and
RUN clears where the gate is closed for the next ecycle (R54, R69, R89, R91). -/
def sweepEnd (s : State) (c : ClusterId) : State :=
  let k := getCl s c.idx
  if k.inSweep && decide (sweepLen s c ≤ k.stitch) && participating s c then
    let s := swapPlanes s c
    let k := getCl s c.idx
    let s := match partOf s c with
      | some p =>
        let x := getPart s p
        if k.breakReq && decide (x.breaksActed ≤ k.ecycle) && !x.posted.contains k.ecycle then
          setPart s p { x with posted := x.posted ++ [k.ecycle] }
        else s
      | none => s
    let s := setCl s c.idx { k with
      stitch := 0, ecycle := k.ecycle + 1, inSweep := false, breakReq := false, popped := [], w1Used := false }
    let s := match partOf s c with
      | some p =>
        if gateClosed s p (k.ecycle + 1) then clearRun s c else s
      | none => s
    showProgress s c
  else s

/-- STALL_WATCHDOG_EXPIRY: a cluster with RUN 1 has made no progress for STALL_WATCHDOG; Collar records it once per wait, with the
cause that holds the cluster now (R94). A cluster that nothing holds is in no wait. -/
def watchdog (s : State) (c : ClusterId) : State :=
  let k := getCl s c.idx
  let l := stitchWaits s c
  if clRun s c && !k.noProgress && (k.sendWait || decide (l ≠ [])) then
    let cause := if k.sendWait then 8 else lowestCause l
    logRecord (setCl s c.idx { k with noProgress := true }) 1 5 ((partOf s c).getD modulePart) Code.NO_PROGRESS
      (clusterBase c) [cause, 0, k.stitch, 0]
  else s

/-- The credits that come in within `ns`: at PWR_CREDIT_d.REFILL, and on a braked die at the floor of 64 per ns (R511, R512). -/
def refillOf (s : State) (d ns : Nat) : Nat :=
  ns * if braked s d then 64 else fget s (Reg.PWR_CREDIT d) F.PWR_CREDIT_REFILL

/-- CREDIT_GRANT: `ns` have passed since the last event, and the oldest request is granted whole once the bucket holds its
cost (R180). -/
def creditGrant (s : State) (d ns : Nat) : State :=
  let x := getDie s d
  let b := min 16384 (x.bucket + refillOf s d ns)
  match x.credits with
  | (i, n) :: rest =>
    let cost := chargeNow s d n
    if cost ≤ b then
      review (setCl (setDie s d { x with bucket := b - cost, credits := rest, spent := x.spent + cost }) i
        { getCl s i with credited := true }) (clusterOf i)
    else setDie s d { x with bucket := b }
  | [] => setDie s d { x with bucket := b }

/-! ## Registers (R76, R96) -/

/-- The stitch that a cluster is executing completes (R76): its BPs that have not run run, and its results are written. A stitch of
which nothing has run, or that a fault holds, is not one. -/
def completeExecuting (s : State) (c : ClusterId) : State :=
  let k := getCl s c.idx
  if k.inSweep && !k.hold && decide (k.ran ≠ 0) && decide (k.stitch < sweepLen s c) then completeStitch (runRest s c) c else s

/-- The cluster is withdrawn: it completes the stitch it is executing, abandons the rest of its ecycle, clears RUN, and its
partners drop it (R76). -/
def withdraw (s : State) (c : ClusterId) : State :=
  let s := completeExecuting s c
  let s := clearRun (fset s (Reg.BP_SWEEP_LEN c) F.BP_SWEEP_LEN_LEN 0) c
  let s := setCl s c.idx { getCl s c.idx with
    inSweep := false, stitch := 0, cur := 0, ran := 0, written := [], waits := [], waited := false, released := none,
    repairWait := false, sendWait := false, credited := false, breakReq := false }
  let x := getDie s c.die.val
  let s := setDie s c.die.val { x with credits := x.credits.filter fun r => decide (r.1 ≠ c.idx) }
  let s := { s with clusters := s.clusters.map fun kv =>
    (kv.1, { kv.2 with reports := kv.2.reports.filter fun r => decide (r.1 ≠ c.idx) }) }
  showProgress s c

/-- The clusters at the far ends of the routes that start or end in a cluster (R88). -/
def partnersOf (s : State) (c : ClusterId) : List Nat :=
  ((List.range 32).flatMap fun j =>
    (fedSlots s routeFuel c j).map (fun x => x.1.idx) ++
    (match routeStart s c j with
     | .cluster i => [i]
     | _ => [])).eraseDups

/-- The first report that two partners that take part have of each other (R87, R88). -/
def linkPair (s : State) (c d : ClusterId) : State :=
  if participating s c && participating s d then
    let s := setCl s c.idx { getCl s c.idx with
      reports := sset (fun _ => none) (getCl s c.idx).reports d.idx (some (completedCount s d)) }
    setCl s d.idx { getCl s d.idx with
      reports := sset (fun _ => none) (getCl s d.idx).reports c.idx (some (completedCount s c)) }
  else s

/-- The ecycle that a cluster joins when it takes part again: the first that no other cluster of the partition has begun, and
none below the completed count. R76 names "the next ecycle that the sweep gate admits" and not which it is where the partners
have begun one (assumption 83). -/
def joinAt (s : State) (p : Nat) (c : ClusterId) : Nat :=
  ((partClusters s p).filter fun d => decide (d ≠ c) && participating s d).foldl
    (fun n d => max n ((getCl s d.idx).ecycle + if (getCl s d.idx).inSweep then 1 else 0)) (getPart s p).completed

/-- BP_SWEEP_LEN written (R76). -/
def sweepLenWrite (s : State) (c : ClusterId) (w : Word) : State :=
  let n := fldGet w F.BP_SWEEP_LEN_LEN
  if n = 0 then withdraw s c
  else if 8192 < n ∨ clRun s c = true then fset s (Reg.BP_CL_STATUS c) F.BP_CL_STATUS_WERR 1
  else
    let away := !participating s c
    let s := fset s (Reg.BP_SWEEP_LEN c) F.BP_SWEEP_LEN_LEN n
    match partOf s c with
    | some p =>
      if away then
        let s := setCl s c.idx { getCl s c.idx with stitch := 0, inSweep := false, ecycle := joinAt s p c }
        showProgress ((partnersOf s c).foldl (fun s i => linkPair s c (clusterOf i)) s) c
      else s
    | none => s

/-- BP_PTRBASE_k written (R76). -/
def ptrBaseWrite (s : State) (c : ClusterId) (b : Nat) (w : Word) : State :=
  if clRun s c then fset s (Reg.BP_CL_STATUS c) F.BP_CL_STATUS_WERR 1
  else
    fsets s (Reg.BP_PTRBASE c b)
      [(F.BP_PTRBASE_SWBASE, fldGet w F.BP_PTRBASE_SWBASE), (F.BP_PTRBASE_DWBASE, fldGet w F.BP_PTRBASE_DWBASE)]

/-- BP_SPARE_MAP written: it takes effect at the next sweep boundary (R74). -/
def spareMapWrite (s : State) (c : ClusterId) (w : Word) : State :=
  let s := fsets s (Reg.BP_SPARE_MAP c)
    [(F.BP_SPARE_MAP_ACTIVE, fldGet w F.BP_SPARE_MAP_ACTIVE), (F.BP_SPARE_MAP_REPLACED, fldGet w F.BP_SPARE_MAP_REPLACED)]
  oset s Od.SPARE_BP_USED
    ((List.range 4224).filter fun i => fbit s (Reg.BP_SPARE_MAP (clusterOf i)) F.BP_SPARE_MAP_ACTIVE).length

/-- BP_CL_CTRL.CLRCNT written 1. -/
def clearCounts (s : State) (c : ClusterId) : State := rset (rset s (Reg.BP_SPLIT_CNT c) 0) (Reg.BP_DUPW_CNT c) 0

/-- BP_STALL_CLR.CLR written 1 (R96). -/
def clearStalls (s : State) (c : ClusterId) : State :=
  (List.range 8).foldl (fun s x => rset s (Reg.BP_STALL_CNT c x) 0) s

/-! ## The commands -/

def isLut (i : BpInstr) : Bool :=
  match i with
  | .lut .. => true
  | _ => false

def isLuts (i : BpInstr) : Bool :=
  match i with
  | .luts .. => true
  | _ => false

def isDrd (i : BpInstr) : Bool :=
  match i with
  | .drd .. => true
  | _ => false

def isDwr (i : BpInstr) : Bool :=
  match i with
  | .dwr .. => true
  | _ => false

def isLdsw (i : BpInstr) : Bool :=
  match i with
  | .ldsw .. => true
  | _ => false

def isStsw (i : BpInstr) : Bool :=
  match i with
  | .stsw .. => true
  | _ => false

def isSetpg (i : BpInstr) : Bool :=
  match i with
  | .setpg _ => true
  | _ => false

def isBrk (i : BpInstr) : Bool :=
  match i with
  | .brk .. => true
  | _ => false

def isMark (i : BpInstr) : Bool :=
  match i with
  | .mark .. => true
  | _ => false

def isDfence (i : BpInstr) : Bool :=
  match i with
  | .dfence => true
  | _ => false

/-- NOP, or a reserved operation, which runs as NOP (R72). -/
def isNop (i : BpInstr) : Bool :=
  match i with
  | .nop => true
  | .reserved => true
  | _ => false

def execStitch (c : ClusterId) (f : StitchFaults) (s : State) : Host.Outcome State Fault Refusal := .next (stitch s c f)

def execLut (c : ClusterId) (bp : Fin 32) (s : State) : Host.Outcome State Fault Refusal :=
  .next (runOne s c bp.val isLut false)

def execLuts (c : ClusterId) (bp : Fin 32) (s : State) : Host.Outcome State Fault Refusal :=
  .next (runOne s c bp.val isLuts false)

/-- The instruction is the word operation `op`. -/
def isWord (op : WordOp) (i : BpInstr) : Bool :=
  match i with
  | .word o _ => decide (o = op)
  | _ => false

def execAdd (c : ClusterId) (bp : Fin 32) (s : State) : Host.Outcome State Fault Refusal := .next (runOne s c bp.val (isWord .add) false)
def execAddc (c : ClusterId) (bp : Fin 32) (s : State) : Host.Outcome State Fault Refusal := .next (runOne s c bp.val (isWord .addc) false)
def execSub (c : ClusterId) (bp : Fin 32) (s : State) : Host.Outcome State Fault Refusal := .next (runOne s c bp.val (isWord .sub) false)
def execSubb (c : ClusterId) (bp : Fin 32) (s : State) : Host.Outcome State Fault Refusal := .next (runOne s c bp.val (isWord .subb) false)
def execCmp (c : ClusterId) (bp : Fin 32) (s : State) : Host.Outcome State Fault Refusal := .next (runOne s c bp.val (isWord .cmp) false)
def execSll (c : ClusterId) (bp : Fin 32) (s : State) : Host.Outcome State Fault Refusal := .next (runOne s c bp.val (isWord .sll) false)
def execSrl (c : ClusterId) (bp : Fin 32) (s : State) : Host.Outcome State Fault Refusal := .next (runOne s c bp.val (isWord .srl) false)
def execSra (c : ClusterId) (bp : Fin 32) (s : State) : Host.Outcome State Fault Refusal := .next (runOne s c bp.val (isWord .sra) false)
def execRol (c : ClusterId) (bp : Fin 32) (s : State) : Host.Outcome State Fault Refusal := .next (runOne s c bp.val (isWord .rol) false)
def execSllv (c : ClusterId) (bp : Fin 32) (s : State) : Host.Outcome State Fault Refusal := .next (runOne s c bp.val (isWord .sllv) false)
def execSrlv (c : ClusterId) (bp : Fin 32) (s : State) : Host.Outcome State Fault Refusal := .next (runOne s c bp.val (isWord .srlv) false)
def execSrav (c : ClusterId) (bp : Fin 32) (s : State) : Host.Outcome State Fault Refusal := .next (runOne s c bp.val (isWord .srav) false)
def execSel (c : ClusterId) (bp : Fin 32) (s : State) : Host.Outcome State Fault Refusal := .next (runOne s c bp.val (isWord .sel) false)
def execMov (c : ClusterId) (bp : Fin 32) (s : State) : Host.Outcome State Fault Refusal := .next (runOne s c bp.val (isWord .mov) false)
def execMulu (c : ClusterId) (bp : Fin 32) (s : State) : Host.Outcome State Fault Refusal := .next (runOne s c bp.val (isWord .mulu) false)
def execMuls (c : ClusterId) (bp : Fin 32) (s : State) : Host.Outcome State Fault Refusal := .next (runOne s c bp.val (isWord .muls) false)

def execWordResultWrite (c : ClusterId) (key : IssueKey) (s : State) : Host.Outcome State Fault Refusal :=
  .next (wordResultWrite s c key)

def execDrd (c : ClusterId) (bp : Fin 32) (badEntry : Bool) (s : State) : Host.Outcome State Fault Refusal :=
  .next (runOne s c bp.val isDrd badEntry)

def execDwr (c : ClusterId) (bp : Fin 32) (badEntry : Bool) (s : State) : Host.Outcome State Fault Refusal :=
  .next (runOne s c bp.val isDwr badEntry)

def execLdsw (c : ClusterId) (bp : Fin 32) (s : State) : Host.Outcome State Fault Refusal :=
  .next (runOne s c bp.val isLdsw false)

def execStsw (c : ClusterId) (bp : Fin 32) (s : State) : Host.Outcome State Fault Refusal :=
  .next (runOne s c bp.val isStsw false)

/-- A reserved operation runs as NOP (R72), so the NOP command runs it too. -/
def execNop (c : ClusterId) (bp : Fin 32) (s : State) : Host.Outcome State Fault Refusal :=
  .next (runOne s c bp.val isNop false)

def execSetpg (c : ClusterId) (bp : Fin 32) (s : State) : Host.Outcome State Fault Refusal :=
  .next (runOne s c bp.val isSetpg false)

def execBrk (c : ClusterId) (bp : Fin 32) (s : State) : Host.Outcome State Fault Refusal :=
  .next (runOne s c bp.val isBrk false)

def execMark (c : ClusterId) (bp : Fin 32) (s : State) : Host.Outcome State Fault Refusal :=
  .next (runOne s c bp.val isMark false)

def execDfence (c : ClusterId) (bp : Fin 32) (s : State) : Host.Outcome State Fault Refusal :=
  .next (runOne s c bp.val isDfence false)

def execLdswResultWrite (c : ClusterId) (key : IssueKey) (s : State) : Host.Outcome State Fault Refusal :=
  .next (ldswResultWrite s c key)

def execCreditGrant (die : Fin 4) (ns : Nat) (s : State) : Host.Outcome State Fault Refusal :=
  .next (creditGrant s die.val ns)

def execSweepEnd (c : ClusterId) (s : State) : Host.Outcome State Fault Refusal := .next (sweepEnd s c)
def execStallWatchdogExpiry (c : ClusterId) (s : State) : Host.Outcome State Fault Refusal := .next (watchdog s c)
def execBpClCtrlClrcnt (c : ClusterId) (s : State) : Host.Outcome State Fault Refusal := .next (clearCounts s c)
def execBpSweepLenWrite (c : ClusterId) (w : Word) (s : State) : Host.Outcome State Fault Refusal :=
  .next (sweepLenWrite s c w)
def execBpPtrbaseWrite (c : ClusterId) (bp : Fin 32) (w : Word) (s : State) : Host.Outcome State Fault Refusal :=
  .next (ptrBaseWrite s c bp.val w)
def execBpSpareMapWrite (c : ClusterId) (w : Word) (s : State) : Host.Outcome State Fault Refusal :=
  .next (spareMapWrite s c w)
def execBpStallClr (c : ClusterId) (s : State) : Host.Outcome State Fault Refusal := .next (clearStalls s c)

def execWarpGroupArrive (c : ClusterId) (slot : Fin 32) (s : State) : Host.Outcome State Fault Refusal :=
  .next (review (groupArrive s c slot.val) c)

def execProgressReport (c partner : ClusterId) (count : Nat) (s : State) : Host.Outcome State Fault Refusal :=
  .next (review (progressReport s c partner count) c)

def execPocketReturn (c : ClusterId) (key : IssueKey) (s : State) : Host.Outcome State Fault Refusal :=
  .next (review (pocketReturn s c key) c)

def execDmemErrorResponse (c : ClusterId) (key : IssueKey) (uncorrectable : Bool) (s : State) :
    Host.Outcome State Fault Refusal :=
  .next (review (dmemError s c key uncorrectable) c)

end Sys2Proof.Machine
end

