-- ==== Sys2Proof/Machine/Report.lean ====
section
/-! DEFINITION. Clamp reports and the answers of dictionary accesses (R429 to R432). -/

namespace Sys2Proof.Machine

/-- The PARTITION of a path in a clamp report (R430). -/
def pathPart (w : Path) : Nat :=
  match w.part with
  | some p => p.val
  | none => 31

/-- Clamp reasons of R429. -/
def belowMin : Nat := 1
def aboveMax : Nat := 2
def notInSet : Nat := 3
def alignClamp : Nat := 4
def dependentLimit : Nat := 5

/-- A clamp report made: in the ring, in CLAMP_TOTAL, and as a record of severity 4 whose DETAIL is bytes 0x00 to 0x17 of
the report (R430, R432). -/
def clampReport (s : State) (w : Path) (key reason written applied : Nat) : State :=
  let r : ClampReport :=
    ⟨key / 256, key % 256, reason, pathPart w, w.origin.val, written % 2 ^ 64, applied % 2 ^ 64, time80 s.timeA⟩
  let n := min (sget (fun _ => 0) s.clampCount r.part + 1) 0xFFFFFFFF
  let s := { s with clampCount := sset (fun _ => 0) s.clampCount r.part n }
  let s := oinc { s with clamps := (s.clamps ++ [r]).drop (s.clamps.length + 1 - 256) } Od.CLAMP_TOTAL
  logRecord s 14 4 (pathPart w) Code.VALUE_CLAMPED
    (r.index + r.sub * 2 ^ 16 + reason * 2 ^ 24 + r.part * 2 ^ 32 + r.origin * 2 ^ 40) [r.written, r.applied]

/-- An access or command answered with a code. -/
def answer (s : State) (code : Nat) : State := { s with result := code }

/-- The path of Collar firmware itself. -/
def firmwarePath : Path := ⟨5, none, false⟩

end Sys2Proof.Machine
end

