-- ==== Sys2Proof/Machine/RunControl.lean ====
section
/-! DEFINITION. The sweep-end wavefront at the Yoke die (R89 to R91, R207) and run control (R438, R439). -/

namespace Sys2Proof.Machine

/-! ## Stops -/

/-- A stop entry of all ones: none. -/
def noStop : Nat := 0xFFFFFFFFFFFFFFFF

/-- The stops of a partition: the ecycle that does not begin, and the PAUSE_REASON (R207, R270, R439). -/
def stopsOf (s : State) (p : Nat) : List (Nat × Nat) :=
  let x := getPart s p
  (x.breaks.map fun b => (b.1 + 2 + x.diameter, b.2)) ++
  (if oget s (Od.STOP_ECYCLE p) = noStop then [] else [(oget s (Od.STOP_ECYCLE p), if x.stepStop then 4 else 3)]) ++
  (match x.doneFall with
   | some g => [(g, 5)]
   | none => [])

/-- RUN_STATE (R438). -/
def runState (s : State) (p : Nat) : Nat := oget s (Od.RUN_STATE p)

/-- The partition pauses where a stop holds its gate (R439). -/
def pauseIfDue (s : State) (p : Nat) : State :=
  let n := (getPart s p).completed
  let due := (stopsOf s p).filter fun t => decide (t.1 ≤ n)
  if runState s p = 2 ∧ due ≠ [] then
    let reason := due.foldl (fun m t => min m t.2) 7
    let s := oset (osetTell s p (Od.RUN_STATE p) 1) (Od.PAUSE_REASON p) reason
    let x := getPart s p
    let s := match (x.breaks.filter fun b => decide (b.1 + 2 + x.diameter ≤ n)).map fun b => b.1 with
      | e :: es =>
        let last := es.foldl max e
        setPart (oset s (Od.BREAK_ECYCLE p) last) p { x with breaksActed := max x.breaksActed (last + 1) }
      | [] => s
    let s := if oget s (Od.STOP_ECYCLE p) ≤ n then
        setPart (oset s (Od.STOP_ECYCLE p) noStop) p { getPart s p with stepStop := false }
      else s
    clearStoppedRun s p
  else s

/-! ## The completed ecycle count (R89) -/

/-- Every participating cluster of the partition has completed ecycle `n`. -/
def allCompleted (s : State) (p n : Nat) : Bool :=
  let cs := (partClusters s p).filter (participating s)
  !cs.isEmpty && cs.all fun c => decide (n < (getCl s c.idx).ecycle)

/-- The ports of a partition's links. -/
def partPorts (s : State) (p : Nat) : List Nat := (seamMapOf s p).links.map fun l => linkPort s l.link

/-- ECYCLE_COMPLETE: every participating cluster has completed the next ecycle; the count rises, the breaks and MARK events
of the ecycle are decided, and a stop that is reached pauses the partition (R68, R69, R89 to R91, R329, R439). -/
def ecycleComplete (s : State) (p : Nat) : State :=
  let x := getPart s p
  let n := x.completed
  if decide (x.hold ≠ .none) || !allCompleted s p n then s
  else
    let marks := x.marks.filter fun m => decide (m.ecycle = n)
    let new := (x.posted.filter fun b => decide (b ≤ n) && decide (x.breaksActed ≤ b)).map fun b => (b, 1)
    let s := setPart s p { x with
      completed := n + 1, posted := x.posted.filter fun b => decide (n < b),
      breaks := x.breaks.filter (fun b => !new.any fun c => decide (c.1 = b.1)) ++ new,
      marksActed := max x.marksActed (n + 1) }
    let sched := match x.seamMap with
      | some m => decide (m.module = 0) && decide ((n + 3 + x.diameter) % max (oget s Od.CKPT_INTERVAL) 1 = 0)
      | none => false
    let s := if sched then askCkpt s p else s
    let s := hemCompleted s p marks
    let s := if acqActive s p then s else
      setPart s p { getPart s p with
        taken := n + 1, acqMark := max x.acqMark (n + 1),
        marks := (getPart s p).marks.filter (fun m => decide (n < m.ecycle)) }
    let s := (partPorts s p).foldl (fun s i => unpackWaiting s i 64) s
    let s := oset s (Od.RUN_ECYCLE p) (n + 1)
    reviewPart (clearStoppedRun (pauseIfDue s p) p) p

/-! ## Run control (R439) -/

/-- The earliest ecycle a stop can still hold: n + 2 + D. -/
def earliestStop (s : State) (p : Nat) : Nat := (getPart s p).completed + 2 + (getPart s p).diameter

/-- STOP_ECYCLE set to `v`, with its break entered on every link where v - 2 - D is at least n (R439). -/
def enterStop (s : State) (p v : Nat) : State :=
  let x := getPart s p
  let s := oset s (Od.STOP_ECYCLE p) v
  clearStoppedRun (setPart s p { x with
    entered := if earliestStop s p ≤ v ∧ v ≠ noStop then some (v - 2 - x.diameter) else none }) p

/-- A paused partition's gate opens: stops already served no longer stand (R439). -/
def resumeRun (s : State) (p : Nat) : State :=
  let x := getPart s p
  let s := setPart s p { x with
    breaks := x.breaks.filter fun b => decide (x.completed < b.1 + 2 + x.diameter),
    entered := match x.entered with
      | some e => if x.completed < e + 2 + x.diameter then some e else none
      | none => none }
  reviewPart (pauseIfDue (oset (osetTell s p (Od.RUN_STATE p) 2) (Od.PAUSE_REASON p) 0) p) p

/-- RUN: opens the sweep gate of a PAUSED partition (R439). -/
def runCmd (s : State) (p : Nat) : State :=
  if runState s p = 1 then answer (resumeRun s p) 0
  else if runState s p = 2 then answer s 0
  else answer s Code.WRONG_STATE

/-- PAUSE: STOP_ECYCLE becomes n + 2 + D unless it is lower (R439). -/
def pauseCmd (s : State) (p : Nat) : State :=
  if runState s p = 2 then
    if oget s (Od.STOP_ECYCLE p) ≤ earliestStop s p then answer s 0
    else answer (setPart (enterStop s p (earliestStop s p)) p
      { getPart (enterStop s p (earliestStop s p)) p with stepStop := false }) 0
  else if runState s p = 1 then answer s 0
  else answer s Code.WRONG_STATE

/-- STEP: in PAUSED, S = n + STEP_COUNT and then RUN (R439). -/
def stepCmd (s : State) (p : Nat) : State :=
  if runState s p = 1 then
    let s := enterStop s p ((getPart s p).completed + oget s (Od.STEP_COUNT p))
    answer (resumeRun (setPart s p { getPart s p with stepStop := true }) p) 0
  else answer s Code.WRONG_STATE

/-- A write of STOP_ECYCLE (R439). -/
def stopWrite (s : State) (p v : Nat) (w : Path) : State :=
  if runState s p = 1 ∨ runState s p = 2 then
    let low := if runState s p = 2 then earliestStop s p else (getPart s p).completed
    let s := enterStop s p (max v low)
    let s := setPart s p { getPart s p with stepStop := false }
    if v < low then answer (clampReport s w (Od.STOP_ECYCLE p) dependentLimit v low) Code.VALUE_CLAMPED
    else answer s 0
  else answer s Code.WRONG_STATE

/-! ## The commands -/

def execEcycleComplete (p : Fin 16) (s : State) : Host.Outcome State Fault Refusal := .next (ecycleComplete s p.val)
def execRun (p : Fin 16) (s : State) : Host.Outcome State Fault Refusal := .next (served s fun s => runCmd s p.val)
def execPause (p : Fin 16) (s : State) : Host.Outcome State Fault Refusal := .next (served s fun s => pauseCmd s p.val)
def execStep (p : Fin 16) (s : State) : Host.Outcome State Fault Refusal := .next (served s fun s => stepCmd s p.val)
def execStopEcycleWrite (p : Fin 16) (v : BitVec 64) (w : Path) (s : State) : Host.Outcome State Fault Refusal :=
  .next (served s fun s => stopWrite s p.val v.toNat w)

/-! ## Bridges: an event that may end a wait of the partition's clusters (R95, R238, R242) -/

/-- Every waiting cluster of a slot's partition looks again. -/
def reviewSlot (s : State) (i : Nat) : State :=
  match slotPart s i with
  | some p => reviewPart s p
  | none => s

def execBridgeBind (slot : Fin 32) (s : State) : Host.Outcome State Fault Refusal :=
  .next (reviewSlot (settleFabric (bind s slot.val)) slot.val)
def execBridgeMove (slot : Fin 32) (s : State) : Host.Outcome State Fault Refusal :=
  .next (reviewSlot (settleFabric (move s slot.val)) slot.val)

/-! ## Frames of a Seam port and the engine's takes: events that may end a wait of the partition's clusters (R95, R205, R341) -/

/-- A frame of one type received, and every waiting cluster of the link's partition looks again. -/
def received (s : State) (i lane : Nat) (word : BitVec 20) (ws : List (BitVec 64)) (fec : Bool) (is : SeamFrame → Bool) : State :=
  let s := receiveIf s i lane word ws fec is
  match portLink s i with
  | some (p, _) => reviewPart s p
  | none => s

def execDataFrame (port : Fin 16) (lane : Fin 5) (word : BitVec 20) (ws : List (BitVec 64)) (fec : Bool) (s : State) :
    Host.Outcome State Fault Refusal := .next (received s port.val lane.val word ws fec (isType 1))
def execIdleFrame (port : Fin 16) (lane : Fin 5) (word : BitVec 20) (ws : List (BitVec 64)) (fec : Bool) (s : State) :
    Host.Outcome State Fault Refusal := .next (received s port.val lane.val word ws fec (isType 2))
def execNak (port : Fin 16) (lane : Fin 5) (word : BitVec 20) (ws : List (BitVec 64)) (fec : Bool) (s : State) :
    Host.Outcome State Fault Refusal :=
  .next (received s port.val lane.val word ws fec fun f => decide (frameBits f 0 27 27 = 1))
def execMapchk (port : Fin 16) (lane : Fin 5) (word : BitVec 20) (ws : List (BitVec 64)) (fec : Bool) (s : State) :
    Host.Outcome State Fault Refusal := .next (received s port.val lane.val word ws fec (isCtrl 1))
def execResume (port : Fin 16) (lane : Fin 5) (word : BitVec 20) (ws : List (BitVec 64)) (fec : Bool) (s : State) :
    Host.Outcome State Fault Refusal := .next (received s port.val lane.val word ws fec (isCtrl 2))
def execResumePoint (port : Fin 16) (lane : Fin 5) (word : BitVec 20) (ws : List (BitVec 64)) (fec : Bool) (s : State) :
    Host.Outcome State Fault Refusal := .next (received s port.val lane.val word ws fec (isCtrl 3))
def execResumeEnd (port : Fin 16) (lane : Fin 5) (word : BitVec 20) (ws : List (BitVec 64)) (fec : Bool) (s : State) :
    Host.Outcome State Fault Refusal := .next (received s port.val lane.val word ws fec (isCtrl 4))
def execHaltFrame (port : Fin 16) (lane : Fin 5) (word : BitVec 20) (ws : List (BitVec 64)) (fec : Bool) (s : State) :
    Host.Outcome State Fault Refusal := .next (received s port.val lane.val word ws fec (isType 4))
def execPeerHaltFrame (port : Fin 16) (lane : Fin 5) (word : BitVec 20) (ws : List (BitVec 64)) (fec : Bool) (s : State) :
    Host.Outcome State Fault Refusal := .next (received s port.val lane.val word ws fec (isType 5))
def execAcqTakeEcycle (p : Fin 16) (s : State) : Host.Outcome State Fault Refusal := .next (reviewPart (takeEcycle s p.val) p.val)

end Sys2Proof.Machine
end

