-- ==== Sys2Proof/Machine/HostBase.lean ====
section
/-! DEFINITION. The host interface's queues and channels (18): enabling and aborting DMA queues (R484 to R486, R491), mailbox
directions, doorbells and posts (R492 to R499), peer windows and function-level resets (R480, R481). -/

namespace Sys2Proof.Machine

/-! ## DMA queues -/

/-- A DMA queue's own state. -/
def getDma (s : State) (q : Nat) : DmaQueue := sget (fun _ => {}) s.dmaQ q

/-- A DMA queue's own state replaced. -/
def setDma (s : State) (q : Nat) (x : DmaQueue) : State := { s with dmaQ := sset (fun _ => {}) s.dmaQ q x }

/-- Registers of queue `q` (R484). -/
def qCfg (q : Nat) : Nat := Reg.DMAQ_CFG (q / 64) (q % 64)
def qStatus (q : Nat) : Nat := Reg.DMAQ_STATUS (q / 64) (q % 64)
def qHead (q : Nat) : Nat := Reg.DMAQ_HEAD (q / 64) (q % 64)
def qTail (q : Nat) : Nat := Reg.DMAQ_TAIL (q / 64) (q % 64)
def qCode (q : Nat) : Nat := Reg.DMAQ_CODE (q / 64) (q % 64)

/-- STATE of a queue: 0 off, 1 running, 2 error, 3 aborting. -/
def qState (s : State) (q : Nat) : Nat := fget s (qStatus q) F.DMAQ_STATUS_STATE

/-- WERR of a queue. -/
def qWerr (s : State) (q : Nat) : State := fset s (qStatus q) F.DMAQ_STATUS_WERR 1

/-- CLIENT and the ring's base of a queue. -/
def qClient (s : State) (q : Nat) : Nat := fget s (qCfg q) F.DMAQ_CFG_CLIENT
def qBase (s : State) (q : Nat) : Nat :=
  (rget s (Reg.DMAQ_BASE_LO (q / 64) (q % 64))).toNat / 32 * 32 +
  2 ^ 32 * fget s (Reg.DMAQ_BASE_HI (q / 64) (q % 64)) F.DMAQ_BASE_HI_ADDR

/-- The client table of R485 admits CLIENT and DIR. -/
def clientDirOk (client dir : Nat) : Bool :=
  match client with
  | 0 => true
  | 1 => decide (dir = 0)
  | 2 => true
  | 3 => decide (dir = 1)
  | 4 => decide (dir = 1)
  | 5 => decide (dir = 0)
  | 6 => true
  | _ => false

/-- A DMAQ_CFG value that the queue accepts in STATE 0, written through function `fn` (R482, R485). -/
def qCfgOk (q fn : Nat) (w : Word) : Bool :=
  let client := fldGet w F.DMAQ_CFG_CLIENT
  let ring := fldGet w F.DMAQ_CFG_RING_LOG2
  decide (3 ≤ ring) && decide (ring ≤ 16) && clientDirOk client (fldGet w F.DMAQ_CFG_DIR) &&
  decide ((client = 1) = (q % 64 = 0)) && (decide (fn = 0) || decide (fldGet w F.DMAQ_CFG_VEC < 16))

/-- The reserved bits of DMAQ_CFG cleared. -/
def qCfgBits (w : Word) : Word := w &&& 0xFFC000FF#32

/-- The descriptor in progress completes (R487, R488): its write-back, HEAD, the interrupt where IRQ is 1, and the queue's
error. -/
def dmaComplete (s : State) (q : Nat) (d : DmaDone) : State :=
  let a := hostBase + qBase s q + 32 * d.index + 0x18
  let status := 2 ^ 31 + (if d.eom then 2 ^ 30 else 0) + d.actual
  let s := setMemLE s a 8 (d.code + status * 2 ^ 32)
  let s := fset s (qHead q) F.DMAQ_HEAD_HEAD (fget s (qHead q) F.DMAQ_HEAD_HEAD + 1)
  let s := setDma s q { getDma s q with current := none }
  let s := if d.irq then irq s (getDma s q).fn (fget s (qCfg q) F.DMAQ_CFG_VEC) else s
  if d.error then fset (rset s (qCode q) (BitVec.ofNat 32 d.code)) (qStatus q) F.DMAQ_STATUS_STATE 2 else s

/-- A write of EN = 0 (R491): the descriptor in progress completes with QUEUE_ABORTED and the bytes moved so far, a partial
message toward the module is discarded, and STATE passes through 3 to 0. -/
def dmaAbort (s : State) (q : Nat) : State :=
  if qState s q = 0 then fset s (qCfg q) F.DMAQ_CFG_EN 0
  else
    let s := match (getDma s q).current with
      | some d => dmaComplete s q { d with code := Code.QUEUE_ABORTED, error := false }
      | none => s
    let s := setDma s q { getDma s q with message := [], discard := false }
    fset (fset s (qCfg q) F.DMAQ_CFG_EN 0) (qStatus q) F.DMAQ_STATUS_STATE 0

/-- A write of DMAQ_CFG through function `fn` (R485, R486, R491). -/
def dmaCfgWrite (s : State) (q fn : Nat) (w : Word) : State :=
  if qState s q ≠ 0 then
    if fldGet w F.DMAQ_CFG_EN = 0 then dmaAbort s q else qWerr s q
  else if !qCfgOk q fn w then qWerr s q
  else
    let s := rset s (qCfg q) (qCfgBits w)
    if fldGet w F.DMAQ_CFG_EN = 1 then
      let s := setDma s q { getDma s q with fn := fn, current := none, message := [], discard := false }
      fset (rset (rset s (qHead q) 0) (qTail q) 0) (qStatus q) F.DMAQ_STATUS_STATE 1
    else s

/-- A write of DMAQ_BASE_LO or _HI (R485). -/
def dmaBaseWrite (s : State) (q : Nat) (high : Bool) (w : Word) : State :=
  if qState s q ≠ 0 then qWerr s q
  else if high then rset s (Reg.DMAQ_BASE_HI (q / 64) (q % 64)) (w &&& 0xFF#32)
  else rset s (Reg.DMAQ_BASE_LO (q / 64) (q % 64)) (w &&& 0xFFFFFFE0#32)

/-- A write of DMAQ_TAIL (R486, R491). -/
def dmaTailWrite (s : State) (q tail : Nat) : State :=
  if qState s q = 3 then s
  else if 2 ^ fget s (qCfg q) F.DMAQ_CFG_RING_LOG2 <
      (tail % 2 ^ 17 + 2 ^ 17 - fget s (qHead q) F.DMAQ_HEAD_HEAD) % 2 ^ 17 then qWerr s q
  else fset s (qTail q) F.DMAQ_TAIL_TAIL tail

/-- DESCRIPTOR_WRITEBACK: the descriptor whose bytes have moved completes (R487, R488). -/
def dmaWriteback (s : State) (q : Nat) : State :=
  match (getDma s q).current with
  | some d => dmaComplete s q d
  | none => s

/-! ## Mailbox channels -/

/-- A mailbox channel's own state. -/
def getMbx (s : State) (c : Nat) : Mailbox := sget (fun _ => {}) s.mbx c

/-- A mailbox channel's own state replaced. -/
def setMbx (s : State) (c : Nat) (x : Mailbox) : State := { s with mbx := sset (fun _ => {}) s.mbx c x }

/-- The function that a channel interrupts: its virtual function, or the physical function (R482, R492). -/
def chanFn (c : Nat) : Nat :=
  match chanPart c with
  | some p => p + 1
  | none => 0

/-- CTRL, LOCK and data word `i` of a direction. -/
def mbxCtrl (c : Nat) (d : MbxDir) : Nat :=
  match d with
  | .h2m => Reg.MBX_H2M_CTRL c
  | .m2h => Reg.MBX_M2H_CTRL c
def mbxLock (c : Nat) (d : MbxDir) : Nat :=
  match d with
  | .h2m => Reg.MBX_H2M_LOCK c
  | .m2h => Reg.MBX_M2H_LOCK c
def mbxData (c : Nat) (d : MbxDir) (i : Nat) : Nat :=
  match d with
  | .h2m => Reg.MBX_H2M_DATA c i
  | .m2h => Reg.MBX_M2H_DATA c i

/-- FULL and HELD of a direction. The two CTRL registers share one layout, and so do the two locks. -/
def mbxFull (s : State) (c : Nat) (d : MbxDir) : Bool := fbit s (mbxCtrl c d) F.MBX_H2M_CTRL_FULL
def mbxHeld (s : State) (c : Nat) (d : MbxDir) : Bool := fbit s (mbxLock c d) F.MBX_H2M_LOCK_HELD

/-- The sender of a direction (R492). -/
def mbxSender (d : MbxDir) : MbxSide :=
  match d with
  | .h2m => .host
  | .m2h => .module

/-- The receiver of a direction (R492). -/
def mbxReceiver (d : MbxDir) : MbxSide :=
  match d with
  | .h2m => .module
  | .m2h => .host

/-- An ignored write: counted, and shown in STATUS (R496). -/
def mbxIgnored (s : State) (c : Nat) : State :=
  fset (fadd s (Reg.MBX_IGNORED_CNT c) F.MBX_IGNORED_CNT_COUNT 1) (Reg.MBX_STATUS c) F.MBX_STATUS_IGNORED 1

/-- A doorbell register and its mask, of the side that it tells. -/
def dbReg (c : Nat) (dst : MbxSide) : Nat :=
  match dst with
  | .host => Reg.MBX_DB_TO_HOST c
  | .module => Reg.MBX_DB_TO_MODULE c
def dbMask (c : Nat) (dst : MbxSide) : Nat :=
  match dst with
  | .host => Reg.MBX_DB_TO_HOST_MASK c
  | .module => Reg.MBX_DB_TO_MODULE_MASK c

/-- The interrupt of a doorbell register (R497). -/
def dbInterrupt (s : State) (c : Nat) (dst : MbxSide) : State :=
  match dst with
  | .host => irq s (chanFn c) (fget s (Reg.MBX_VEC c) F.MBX_VEC_VEC)
  | .module => { s with colIrq := s.colIrq ++ [c] }

/-- Doorbell bits set: a message where a bit becomes 1 while its mask bit is 1 (R497). -/
def dbSet (s : State) (c : Nat) (dst : MbxSide) (w : Word) : State :=
  let old := rget s (dbReg c dst)
  let s := rset s (dbReg c dst) (old ||| w)
  if w &&& ~~~ old &&& rget s (dbMask c dst) = 0 then s else dbInterrupt s c dst

/-- Doorbell bits cleared by the receiving side (R497). -/
def dbClear (s : State) (c : Nat) (dst : MbxSide) (w : Word) : State := rset s (dbReg c dst) (rget s (dbReg c dst) &&& ~~~ w)

/-- A mask written: a message where a mask bit becomes 1 while its bit is 1 (R497). -/
def dbMaskWrite (s : State) (c : Nat) (dst : MbxSide) (w : Word) : State :=
  let old := rget s (dbMask c dst)
  let s := rset s (dbMask c dst) w
  if w &&& ~~~ old &&& rget s (dbReg c dst) = 0 then s else dbInterrupt s c dst

/-- A claim: a non-zero token written while HELD is 0 (R493). -/
def mbxClaim (s : State) (c : Nat) (d : MbxDir) (token : Nat) (side : MbxSide) : State :=
  if side ≠ mbxSender d then mbxIgnored s c
  else if token = 0 ∨ mbxHeld s c d = true then s
  else fsets s (mbxLock c d) [(F.MBX_H2M_LOCK_HELD, 1), (F.MBX_H2M_LOCK_TOKEN, token)]

/-- The claim of a direction released. -/
def mbxFree (s : State) (c : Nat) (d : MbxDir) : State :=
  fsets s (mbxLock c d) [(F.MBX_H2M_LOCK_HELD, 0), (F.MBX_H2M_LOCK_TOKEN, 0)]

/-- RELEASE written with the holder's token (R492). -/
def mbxRelease (s : State) (c : Nat) (d : MbxDir) (token : Nat) (side : MbxSide) : State :=
  if side ≠ mbxSender d then mbxIgnored s c
  else if mbxHeld s c d ∧ fget s (mbxLock c d) F.MBX_H2M_LOCK_TOKEN = token then mbxFree s c d
  else s

/-- A direction is locked: FULL is 1 or HELD is 0 (R496). -/
def mbxLocked (s : State) (c : Nat) (d : MbxDir) : Bool := mbxFull s c d || !mbxHeld s c d

/-- When a post is made. -/
def mbxStamp (s : State) (c : Nat) (d : MbxDir) (t : Option Nat) : State :=
  setMbx s c (match d with
    | .h2m => { getMbx s c with h2mAt := t }
    | .m2h => { getMbx s c with m2hAt := t })

/-- The post itself: FULL, and POSTED at the receiver (R493). -/
def mbxPostNow (s : State) (c : Nat) (d : MbxDir) (countM1 : Nat) : State :=
  let s := fsets s (mbxCtrl c d) [(F.MBX_H2M_CTRL_COUNT_M1, countM1), (F.MBX_H2M_CTRL_FULL, 1)]
  dbSet (mbxStamp s c d (some s.ticks)) c (mbxReceiver d) 1

/-- POST with COUNT_M1 (R493, R496). -/
def mbxPost (s : State) (c : Nat) (d : MbxDir) (countM1 : Nat) (side : MbxSide) : State :=
  if side ≠ mbxSender d ∨ mbxLocked s c d = true then mbxIgnored s c else mbxPostNow s c d countM1

/-- A data word written (R496). -/
def mbxDataWrite (s : State) (c : Nat) (d : MbxDir) (i : Nat) (w : Word) (side : MbxSide) : State :=
  if side ≠ mbxSender d ∨ mbxLocked s c d = true then mbxIgnored s c else rset s (mbxData c d i) w

/-- COUNT_M1 written without POST (R496). -/
def mbxCountWrite (s : State) (c : Nat) (d : MbxDir) (countM1 : Nat) (side : MbxSide) : State :=
  if side ≠ mbxSender d ∨ mbxLocked s c d = true then mbxIgnored s c
  else fset s (mbxCtrl c d) F.MBX_H2M_CTRL_COUNT_M1 countM1

/-- ACK: takes the post that is FULL, releases the claim, clears CROSSED and rings EMPTY at the sender (R493, R499). -/
def mbxAck (s : State) (c : Nat) (d : MbxDir) (side : MbxSide) : State :=
  if side ≠ mbxReceiver d then mbxIgnored s c
  else if mbxFull s c d then
    let s := fset s (mbxCtrl c d) F.MBX_H2M_CTRL_FULL 0
    let s := fset (mbxFree (mbxStamp s c d none) c d) (Reg.MBX_STATUS c) F.MBX_STATUS_CROSSED 0
    dbSet s c (mbxSender d) 2
  else s

/-- Data words written in turn. -/
def mbxFill (s : State) (c : Nat) (d : MbxDir) (i : Nat) (ws : List Word) : State :=
  match ws with
  | [] => s
  | w :: rest => mbxFill (rset s (mbxData c d i) w) c d (i + 1) rest

/-- A peer post (R494): taken whole with TOKEN 0xFFFF, or discarded whole and counted. -/
def mbxPeerPost (s : State) (c : Nat) (ws : List Word) (countM1 : Nat) : State :=
  if mbxHeld s c .h2m ∨ mbxFull s c .h2m then mbxIgnored s c
  else
    let s := fsets s (mbxLock c .h2m) [(F.MBX_H2M_LOCK_HELD, 1), (F.MBX_H2M_LOCK_TOKEN, 0xFFFF)]
    mbxPostNow (mbxFill s c .h2m 0 ((ws ++ List.replicate 16 0).take 16)) c .h2m countM1

/-- CROSSED: both directions have been FULL together for 1 ms (R499). -/
def mbxCrossed (s : State) (c : Nat) : State :=
  if mbxFull s c .h2m ∧ mbxFull s c .m2h ∧ ¬ fbit s (Reg.MBX_STATUS c) F.MBX_STATUS_CROSSED then
    let s := fset s (Reg.MBX_STATUS c) F.MBX_STATUS_CROSSED 1
    let s := dbSet (dbSet s c .host 4) c .module 4
    logRecord s 13 4 ((chanPart c).getD modulePart) (Config.code 499) c []
  else s

/-- A direction emptied (R496). -/
def mbxEmptyDir (s : State) (c : Nat) (d : MbxDir) : State :=
  let s := fset s (mbxCtrl c d) F.MBX_H2M_CTRL_FULL 0
  mbxFill (mbxFree (mbxStamp s c d none) c d) c d 0 (List.replicate 16 0)

/-- A channel emptied: FULL, HELD, the data words, the doorbells and the masks of both directions (R496). -/
def mbxEmpty (s : State) (c : Nat) : State :=
  let s := mbxEmptyDir (mbxEmptyDir s c .h2m) c .m2h
  rset (rset (rset (rset s (dbReg c .host) 0) (dbMask c .host) 0) (dbReg c .module) 0) (dbMask c .module) 0

/-- The secure-channel session of a channel closes (R502). -/
def mbxCloseSession (s : State) (c : Nat) : State :=
  let s := setMbx s c { getMbx s c with session := none, challenge := none }
  fset s (Reg.MBX_STATUS c) F.MBX_STATUS_SESSION 0

/-- AGE_MS: time since the oldest post still FULL, in ms of 156,250 REFCLK periods. -/
def mbxAge (s : State) (c : Nat) : Nat :=
  let x := getMbx s c
  let age := fun (t : Option Nat) => match t with
    | some t => min ((s.ticks - t) / 156250) 0xFFFF
    | none => 0
  max (age x.h2mAt) (age x.m2hAt)

/-! ## Function-level reset (R480) -/

/-- A reset of virtual function `p`: its queues abort and its non-secure channels empty. -/
def flrVirtual (s : State) (p : Nat) : State :=
  let s := (List.range 64).foldl (fun s j => dmaAbort s (64 * p + j)) s
  (List.range 3).foldl (fun s k => mbxEmpty s (8 + 3 * p + k)) s

/-- A reset of the physical function: every queue and every channel, and every secure-channel session closes. -/
def flrPhysical (s : State) : State :=
  let s := (List.range 1024).foldl (fun s q => dmaAbort s q) s
  (List.range 64).foldl (fun s c => mbxCloseSession (mbxEmpty s c) c) s

/-- A reset of function `fn`: 0 the physical function, p + 1 virtual function p. -/
def flr (s : State) (fn : Nat) : State := if fn = 0 then flrPhysical s else flrVirtual s (fn - 1)

/-! ## Peer windows (R481) -/

/-- The identity word of the module (R483). -/
def identityWord : Nat := 0x3036353239424156

/-- A write of PCI_PEER_k_LO: EN becomes 1 only where the word read at the peer's identity page is the identity word. -/
def peerWrite (s : State) (k : Nat) (w : Word) (idWord : Nat) : State :=
  let a := Reg.PCI_PEER_LO k
  let s := fset s a F.PCI_PEER_LO_BASE (fldGet w F.PCI_PEER_LO_BASE)
  let s := if fldGet w F.PCI_PEER_LO_WERR = 1 then fset s a F.PCI_PEER_LO_WERR 0 else s
  if fldGet w F.PCI_PEER_LO_EN = 0 then fset s a F.PCI_PEER_LO_EN 0
  else if idWord = identityWord then fset s a F.PCI_PEER_LO_EN 1
  else fset (fset s a F.PCI_PEER_LO_EN 0) a F.PCI_PEER_LO_WERR 1

/-- The first failure of R479 captured. `bar` is 0 or 2 (BAR4). -/
def hostError (s : State) (write : Bool) (bar off code : Nat) : State :=
  if fbit s Reg.PCI_HOSTERR F.PCI_HOSTERR_VALID then s
  else
    let s := fsets s Reg.PCI_HOSTERR
      [(F.PCI_HOSTERR_VALID, 1), (F.PCI_HOSTERR_WRITE, if write then 1 else 0), (F.PCI_HOSTERR_BAR, bar),
       (F.PCI_HOSTERR_OFFSET, off)]
    rset s Reg.PCI_HOSTERR_CODE (BitVec.ofNat 32 code)

/-- PCIE_LINK_ERROR: an error reported through AER, logged with severity 4 or 6 (R478). -/
def linkError (s : State) (uncorrectable : Bool) : State :=
  logRecord s 13 (if uncorrectable then 6 else 4) modulePart (Config.code 478) 0 []

/-! ## The commands -/

def execDmaqEnable (q : Fin 1024) (fn : Fin 17) (w : Word) (s : State) : Host.Outcome State Fault Refusal :=
  .next (dmaCfgWrite s q.val fn.val (fldSet w F.DMAQ_CFG_EN 1))
def execDmaqAbort (q : Fin 1024) (s : State) : Host.Outcome State Fault Refusal := .next (dmaAbort s q.val)
def execDmaqTailWrite (q : Fin 1024) (tail : BitVec 17) (s : State) : Host.Outcome State Fault Refusal :=
  .next (dmaTailWrite s q.val tail.toNat)
def execDescriptorWriteback (q : Fin 1024) (s : State) : Host.Outcome State Fault Refusal := .next (dmaWriteback s q.val)
def execFunctionLevelReset (fn : Fin 17) (s : State) : Host.Outcome State Fault Refusal := .next (flr s fn.val)
def execPeerWindowEnable (k : Fin 8) (base : BitVec 22) (idWord : BitVec 64) (s : State) :
    Host.Outcome State Fault Refusal :=
  .next (peerWrite s k.val (0x80000000#32 ||| base.setWidth 32) idWord.toNat)
def execMbxLockClaim (c : Fin 64) (d : MbxDir) (token : BitVec 16) (side : MbxSide) (s : State) :
    Host.Outcome State Fault Refusal :=
  .next (mbxClaim s c.val d token.toNat side)
def execMbxLockRelease (c : Fin 64) (d : MbxDir) (token : BitVec 16) (side : MbxSide) (s : State) :
    Host.Outcome State Fault Refusal :=
  .next (mbxRelease s c.val d token.toNat side)
def execPost (c : Fin 64) (d : MbxDir) (countM1 : BitVec 4) (side : MbxSide) (s : State) :
    Host.Outcome State Fault Refusal :=
  .next (mbxPost s c.val d countM1.toNat side)
def execAck (c : Fin 64) (d : MbxDir) (side : MbxSide) (s : State) : Host.Outcome State Fault Refusal :=
  .next (mbxAck s c.val d side)
def execPeerPost (c : Fin 8) (ws : List Word) (countM1 : BitVec 4) (s : State) : Host.Outcome State Fault Refusal :=
  .next (mbxPeerPost s (56 + c.val) ws countM1.toNat)
def execDoorbellSet (c : Fin 64) (dst : MbxSide) (w : Word) (s : State) : Host.Outcome State Fault Refusal :=
  .next (dbSet s c.val dst (w &&& 0xFFFFFFF8#32))
def execDoorbellClear (c : Fin 64) (dst : MbxSide) (w : Word) (s : State) : Host.Outcome State Fault Refusal :=
  .next (dbClear s c.val dst w)
def execDoorbellMaskWrite (c : Fin 64) (dst : MbxSide) (w : Word) (s : State) : Host.Outcome State Fault Refusal :=
  .next (dbMaskWrite s c.val dst w)
def execMbxCrossed (c : Fin 64) (s : State) : Host.Outcome State Fault Refusal := .next (mbxCrossed s c.val)
def execMbxSessionTimeout (c : Fin 8) (s : State) : Host.Outcome State Fault Refusal := .next (mbxCloseSession s c.val)
def execPcieLinkError (uncorrectable : Bool) (s : State) : Host.Outcome State Fault Refusal :=
  .next (linkError s uncorrectable)

end Sys2Proof.Machine
end

