-- ==== Sys2Proof/Machine/Sessions.lean ====
section
/-! DEFINITION. Sessions of PAP (R450, R454, R455, R460): slots, challenges, messages sent, and the closing of a session. -/

namespace Sys2Proof.Machine

/-- A PAP session slot. -/
def getSession (s : State) (k : Nat) : Option Session := sget (fun _ => none) s.sessions k

/-- A PAP session slot set, with the count of open sessions in PAP_SESSIONS (R462). -/
def setSession (s : State) (k : Nat) (x : Option Session) : State :=
  let m := sset (fun _ => none) s.sessions k x
  oset { s with sessions := m } Od.PAP_SESSIONS m.length

/-- The slot of an open session by its number. -/
def sessionSlot (s : State) (n : Nat) : Option Nat :=
  (List.range 16).find? fun k => match getSession s k with
    | some x => decide (x.number = n)
    | none => false

/-- Sessions and challenges held (R454). -/
def sessionsHeld (s : State) : Nat := s.sessions.length + s.challenges.length

/-- A fresh session number: not 0 and not in use, and otherwise free (R454). -/
def freshNumber (s : State) : Nat × State :=
  let n := drawNat s
  let used := (s.sessions.filterMap fun e => e.2.map fun x => x.number) ++ s.challenges.map fun c => c.number
  (((List.range (used.length + 1)).map (fun i => (n.1 + i) % (2 ^ 32 - 1) + 1)).find? (fun v => !used.contains v) |>.getD 1, n.2)

/-- A message sent (R450). -/
def papSend (s : State) (m : PapSent) : State := { s with papSent := s.papSent ++ [m] }

/-! ## Datagrams (R450, R451) -/

/-- The 16-byte header. -/
def papHead (type length session seq ref : Nat) : List Nat :=
  [1, type % 256] ++ natBE 2 length ++ natBE 4 session ++ natBE 4 seq ++ natBE 4 ref

/-- The IV: SESSION, then DIR, which is 0 toward the module and 1 toward the client, then SEQ. -/
def papIv (session dir seq : Nat) : List Nat := natBE 4 session ++ natBE 4 dir ++ natBE 4 seq

/-- The key of a session, in bytes. -/
def sessionKey (x : Session) : List Nat := natBE 32 x.key.toNat

/-- A datagram sealed in a session: header, ciphertext and tag. -/
def sealed (x : Session) (dir type seq ref : Nat) (body : List Byte) : List Nat :=
  let head := papHead type body.length x.number seq ref
  let iv := papIv x.number dir seq
  let c := gcmDecrypt (sessionKey x) iv (ofBytes body)
  head ++ c ++ gcmTag (sessionKey x) iv head c

/-- The tag that a client's datagram of a session carries when it is authentic. -/
def requestTag (x : Session) (seq type : Nat) (body : List Byte) : BitVec 128 :=
  BitVec.ofNat 128 (beNat ((sealed x 0 type seq 0 body).drop (16 + body.length)))

/-- A message of a session under its own SEQ `own`. -/
def sessionMessage (x : Session) (own type ref : Nat) (body : List Byte) : PapSent :=
  ⟨x.addr, type, x.number, own, ref, body, toBytes (sealed x 1 type own ref body)⟩

/-- A message outside a session. -/
def plainMessage (dest type ref : Nat) (body : List Byte) : PapSent :=
  ⟨dest, type, 0, 0, ref, body, toBytes (papHead type body.length 0 0 ref) ++ body⟩

/-- A message of a session sent, with its next SEQ. -/
def sessionSend (s : State) (k : Nat) (x : Session) (type ref : Nat) (body : List Byte) : State :=
  papSend (setSession s k (some { x with next := x.next + 1 })) (sessionMessage x x.next type ref body)

/-- The session in a slot closes; the module sends CLOSE where R455 says so. -/
def sessionClose (s : State) (k : Nat) (tell : Bool) : State :=
  match getSession s k with
  | some x =>
    let s := if tell then sessionSend s k x 0x05 0 [] else s
    setSession s k none
  | none => s

/-- Every session bound to partition `p` closes, for its DESTROY (R455). -/
def closeBound (s : State) (p : Nat) : State :=
  (List.range 16).foldl (fun s k =>
    match getSession s k with
    | some x => if x.part = some p then sessionClose s k true else s
    | none => s) s

end Sys2Proof.Machine
end

