-- ==== Sys2Proof/Machine/Partition.lean ====
section
/-! DEFINITION. HBM, keys and partitions (10): key slots and sessions, line-key rolls, the integrity halt, pseudo-channels,
creating and destroying partitions; and the stop of R391. -/

namespace Sys2Proof.Machine

/-! ## States of a partition -/

/-- PART_STATE set, with its mirror register (R291). -/
def setPartState (s : State) (p n : Nat) : State :=
  fset (osetTell s p (Od.PART_STATE p) n) (Reg.PART_STATE p) F.PART_STATE_STATE n

/-- A module-owner path (R424). -/
def ownerPath (w : Path) : Bool := w.part.isNone

/-- A path that reaches a SEC entry of partition `p` (R423). -/
def secPath (w : Path) (p : Nat) : Bool :=
  w.secure || (match w.part with
    | some q => decide (q.val = p)
    | none => false)

/-! ## Health and stops (R391, R392) -/

/-- A stop (R391): the gate closes at once, LAST_STOP is set, Collar logs it with severity 6. `row` is the row of R391's
table, counted from 1 (R445). -/
def stopPart (s : State) (p code row : Nat) : State :=
  let s := osetTell (osetTell s p (Od.RUN_STATE p) 3) p (Od.LAST_STOP p) code
  let s := setPart s p { getPart s p with hold := .none, causes := [], tested := [], retire := [] }
  let s := raiseHealth (fset (clearStoppedRun s p) Reg.LNG_STATUS F.LNG_STATUS_BEYOND 1) 2
  logRecord s 17 6 p code 0 [row]

/-! ## HBM carves (R291) -/

/-- MiB of a carve outside its design-memory parts, in stack `d`. -/
def spareMib (s : State) (p d : Nat) : Nat := (carveCount s p d - carveDm s p d) * 256

/-- An area of `mib` MiB that Collar places in a partition's carve, outside the design-memory parts (R292, R342, R379): where
is a free value, within a stack that has room (assumption 9). -/
def areaIn (s : State) (p d mib n : Nat) : Nat :=
  unitAddr d (carveFirst s p d + carveDm s p d) + n % (spareMib s p d - mib + 1) * 0x100000

/-- The stacks with room for an area of `mib` MiB in the partition's carve. -/
def roomyStacks (s : State) (p mib : Nat) : List Nat :=
  (List.range 4).filter fun d => decide (mib ≤ spareMib s p d) && decide (0 < spareMib s p d)

/-- An area of `mib` MiB in one of those stacks. -/
def placeArea (s : State) (p mib : Nat) : Nat × State :=
  let n := drawNat s
  match roomyStacks s p mib with
  | [] => (0, n.2)
  | d0 :: ds => (areaIn s p ((d0 :: ds).getD (n.1 % (d0 :: ds).length) d0) mib (n.1 / 4), n.2)

/-- Two copies of an area of `mib` MiB, in two different stacks where the carve has two (R370). -/
def placeTwo (s : State) (p mib : Nat) : (Nat × Nat) × State :=
  let n := drawNat s
  match roomyStacks s p mib with
  | [] => ((0, 0), n.2)
  | d0 :: ds =>
    let l := d0 :: ds
    ((areaIn s p (l.getD (n.1 % l.length) d0) mib (n.1 / 4), areaIn s p (l.getD ((n.1 + 1) % l.length) d0) mib (n.1 / 4)), n.2)

/-! ## Key slots (R286, R287) -/

/-- XTS_IDS.LIVE follows the slots. -/
def countLive (s : State) : State :=
  fset s Reg.XTS_IDS F.XTS_IDS_LIVE ((List.range 64).filter (slotLiveKey s)).length

/-- A slot zeroised and freed. -/
def zeroise (s : State) (k : Nat) : State :=
  countLive (rset { s with keys := sset (fun _ => 0) s.keys k 0 } (Reg.XTS_SLOT k) 0)

/-- Several slots zeroised and freed. -/
def zeroiseAll (s : State) (l : List Nat) : State := l.foldl zeroise s

/-- Key slots that a stream's KEY_ROLL has reserved (R258). -/
def reservedSlots (s : State) : List Nat :=
  (List.range 16).filterMap fun p => match (getPart s p).stream with
    | some x => x.keySlot.map fun k => k.1
    | none => none

/-- Slots neither live nor reserved. -/
def freeSlots (s : State) : List Nat := (List.range 64).filter fun k => !slotLiveKey s k && !(reservedSlots s).contains k

/-- Why no key can be loaded now (R286, R287). -/
def keyRefusal (s : State) : Option Nat :=
  if (freeSlots s).isEmpty then some Code.KEY_SLOTS_FULL
  else if 4095 ≤ fget s Reg.XTS_IDS F.XTS_IDS_ISSUED then some Code.KEY_IDS_EXHAUSTED
  else none

/-- A free slot and the next key ID taken (R286, R287). Which free slot it is is a free value. -/
def keyTake (s : State) : (Nat × Nat) × State :=
  let n := drawNat s
  let k := (freeSlots s).getD (n.1 % max (freeSlots s).length 1) 0
  let id := fget s Reg.XTS_IDS F.XTS_IDS_ISSUED + 1
  ((k, id), fsets n.2 Reg.XTS_IDS [(F.XTS_IDS_ISSUED, id), (F.XTS_IDS_EXHAUSTED, if id = 4095 then 1 else 0)])

/-- A key loaded into a slot with an ID: 768 bits of a LINE or SECTOR key, 256 of a KEK or CFG key (R286). -/
def keyPut (s : State) (p cls : Nat) (key : BitVec 768) (slot id : Nat) : State :=
  let s := fsets s (Reg.XTS_SLOT slot)
    [(F.XTS_SLOT_LIVE, 1), (F.XTS_SLOT_CLASS, cls), (F.XTS_SLOT_PARTITION, p), (F.XTS_SLOT_PREVIOUS, 0), (F.XTS_SLOT_KEY_ID, id)]
  countLive { s with keys := sset (fun _ => 0) s.keys slot (BitVec.ofNat 768 (beNat (keyBytes cls key))) }

/-- A key loaded into a free slot with the next key ID (R286, R287). The answer's first part is the ID. -/
def keyLoad (s : State) (p cls : Nat) (key : BitVec 768) : Nat × State :=
  let t := keyTake s
  (t.1.2, keyPut t.2 p cls key t.1.1 t.1.2)

/-- The key whose bytes these are. -/
def keyOfBytes (l : List Nat) : BitVec 768 := BitVec.ofNat 768 (beNat l)

/-- A key that the module's random bit generator makes inside it (R286): a free value. -/
def generateKey (s : State) (p cls : Nat) : Nat × State :=
  let n := drawNat s
  keyLoad n.2 p cls (BitVec.ofNat 768 n.1)

/-! ## Key sessions (R288, R290) -/

/-- A session is open: its KEK is live. -/
def ksOpen (s : State) (p : Nat) : Bool := !(keySlots s p classKek 0).isEmpty

/-- The session closes: the KEK slot is zeroised and freed. -/
def ksClose (s : State) (p : Nat) : State :=
  fset (zeroiseAll s (keySlots s p classKek 0)) (Reg.PART_STATE p) F.PART_STATE_SESSION 0

/-- A key-session command is turned away (R283, R400): after the halt, and where the partition is not OPEN. -/
def ksState (s : State) (p : Nat) : Option Nat := if partState s p = 2 then none else some Code.WRONG_STATE

/-- KS_NONCE read: a fresh value, which voids any earlier one. -/
def ksNonceRead (s : State) (p : Nat) : State :=
  let n := drawNat s
  let v := n.1 % 2 ^ 128
  { answer (oset (setPart n.2 p { getPart n.2 p with ksNonce := some v }) (Od.KS_NONCE p) v) 0 with reply := leBytes 16 v }

/-- The 12 bytes of the module's SERIAL (R417). -/
def serialBytes (s : State) : List Nat := natLE 12 (oget s Od.SERIAL)

/-- A private P-384 key or a per-signature number, from a free value. -/
def scalarOf (n : Nat) : Nat := 1 + n % (p384N - 1)

/-- A message of a domain signed with the module's identity key (R416): ECDSA over SHA-384 of the domain byte and the message. -/
def identitySign (s : State) (domain : Nat) (m : List Nat) : List Nat × State :=
  let k := drawNat s
  (ecdsaSign Config.identityKey (scalarOf k.1) (sha384 (domain :: m)), k.2)

/-- The owner's signature of KS_OPEN verifies under its static key, over SHA-384 of nonce, module serial, partition number and
ephemeral key. The partition number is one byte, which R288 does not say (assumption 79). -/
def ownerSigned (s : State) (p nonce : Nat) (bytes : List Nat) : Bool :=
  match ecExpand (bytes.take 49) with
  | some q => ecdsaVerify q (sha384 (natLE 16 nonce ++ serialBytes s ++ [p] ++ (bytes.drop 49).take 49)) (bytes.drop 98)
  | none => false

/-- Steps 4 and 5 of R288: the module's ephemeral key signed and published in KS_MODULE, and the KEK derived from the shared
secret. -/
def ksAccept (s : State) (p nonce : Nat) (eph : List Nat) (q : Nat × Nat × Nat) : State :=
  let d := drawNat s
  let own := ecCompress (ecTimes (scalarOf d.1) p384G)
  let sig := identitySign d.2 1 (natLE 16 nonce ++ eph ++ own)
  let s := oset sig.2 (Od.KS_MODULE p) (leNumber (own ++ sig.1))
  (keyLoad s p classKek (keyOfBytes (deriveKey (ecdhSecret (scalarOf d.1) q) (natLE 16 nonce ++ [p])))).2

/-- KS_OPEN written: 194 bytes, the static key, the ephemeral key and the signature (R288 steps 2 to 5). An ephemeral key that is
no point of the curve is refused as the signature is (assumption 79). -/
def ksOpenWrite (s : State) (p : Nat) (bytes : List Byte) (w : Path) : State :=
  if !leased s then s
  else if !secPath w p then answer s Code.ACCESS_DENIED
  else if 194 < bytes.length then answer s Code.LENGTH_EXCEEDS_BUFFER
  else if bytes.length < 194 then answer s Code.ACCESS_DENIED
  else
    match ksState s p with
    | some code => answer s code
    | none =>
      let b := ofBytes bytes
      let eph := (b.drop 49).take 49
      let s := ksClose s p
      let live := (getPart s p).ksNonce
      let s := setPart s p { getPart s p with ksNonce := none }
      if keyHash (b.take 49) ≠ oget s (Od.OWNER_KEY_HASH p) then answer s Code.ACCESS_DENIED
      else
        match live, ecExpand eph with
        | some nonce, some q =>
          if !ownerSigned s p nonce b then answer s Code.ACCESS_DENIED
          else
            match keyRefusal s with
            | some code => answer s code
            | none => answer (fset (ksAccept s p nonce eph q) (Reg.PART_STATE p) F.PART_STATE_SESSION 1) 0
        | _, _ => answer s Code.ACCESS_DENIED

/-- What a wrapped key unwraps to under the partition's KEK, or none (R288 step 6). -/
def ksUnwrap (s : State) (p : Nat) (bytes : List Byte) : Option (BitVec 768) :=
  match liveKey s p classKek 0 with
  | some k => (keyUnwrap (keyBytes classKek k.1) (ofBytes bytes)).map keyOfBytes
  | none => none

/-- Why a wrapped key of `len` bytes is refused, or none (R288 step 6, R295). -/
def ksWrapped (s : State) (p : Nat) (bytes : List Byte) (len : Nat) (w : Path) : Option Nat :=
  if !secPath w p then some Code.ACCESS_DENIED
  else if len < bytes.length then some Code.LENGTH_EXCEEDS_BUFFER
  else if bytes.length < len then some Code.ACCESS_DENIED
  else
    match ksState s p with
    | some code => some code
    | none => if (ksUnwrap s p bytes).isNone then some Code.CFG_AUTH_FAIL else none

/-- A CFG key provisioned (R288): it replaces the previous one and sets STREAM_SEQ_LAST to 0 (R257). -/
def ksWrapCfg (s : State) (p : Nat) (bytes : List Byte) (w : Path) : State :=
  if !leased s then s
  else
    match (ksWrapped s p bytes 40 w).or (keyRefusal s) with
    | some code => answer s code
    | none =>
      let old := keySlots s p classCfg 0
      let k := keyLoad s p classCfg ((ksUnwrap s p bytes).getD 0)
      let s := zeroiseAll k.2 old
      answer (oset (oset s (Od.CFG_KEY_ID p) k.1) (Od.STREAM_SEQ_LAST p) 0) 0

/-- SECTOR_KEY_ID shows the two SECTOR keys (R295). -/
def showSector (s : State) (p : Nat) : State :=
  let id := fun (l : List Nat) => match l with
    | k :: _ => fget s (Reg.XTS_SLOT k) F.XTS_SLOT_KEY_ID
    | [] => 0
  oset s (Od.SECTOR_KEY_ID p) (id (keySlots s p classSector 0) + 2 ^ 16 * id (keySlots s p classSector 1))

/-- A SECTOR key provisioned (R290): it becomes current and the earlier one previous. -/
def ksWrapSector (s : State) (p : Nat) (bytes : List Byte) (w : Path) : State :=
  if !leased s then s
  else
    match (ksWrapped s p bytes 104 w).or
        (if keySlots s p classSector 1 ≠ [] then some Code.KEY_SLOTS_FULL else keyRefusal s) with
    | some code => answer s code
    | none =>
      let old := keySlots s p classSector 0
      let key := (ksUnwrap s p bytes).getD 0
      let s := old.foldl (fun s k => fset s (Reg.XTS_SLOT k) F.XTS_SLOT_PREVIOUS 1) s
      answer (showSector (keyLoad s p classSector key).2 p) 0

/-- KS_CLOSE written (R288 step 7). -/
def ksCloseWrite (s : State) (p : Nat) (w : Path) : State :=
  if !leased s then s
  else if !secPath w p then answer s Code.ACCESS_DENIED
  else
    match ksState s p with
    | some code => answer s code
    | none => answer (ksClose s p) 0

/-- SECTOR_RETIRE written (R290): the previous SECTOR key is zeroised and freed. -/
def sectorRetire (s : State) (p : Nat) (w : Path) : State :=
  if !leased s then s
  else if !secPath w p then answer s Code.ACCESS_DENIED
  else
    match ksState s p with
    | some code => answer s code
    | none => answer (showSector (zeroiseAll s (keySlots s p classSector 1)) p) 0

/-! ## Line-key rolls (R289) -/

/-- LINE_ROLL written: a new line key becomes current and the re-key sweep begins (R289 orders 1 to 4). -/
def lineRoll (s : State) (p : Nat) (w : Path) : State :=
  if !leased s then s
  else if !secPath w p then answer s Code.ACCESS_DENIED
  else
    match ksState s p with
    | some code => answer s code
    | none =>
      if fbit s (Reg.PART_STATE p) F.PART_STATE_ROLLING then answer s Code.NOT_IDLE
      else
        match keyRefusal s with
        | some code => answer s code
        | none =>
          let old := keySlots s p classLine 0
          let s := old.foldl (fun s k => fset s (Reg.XTS_SLOT k) F.XTS_SLOT_PREVIOUS 1) s
          let k := generateKey s p classLine
          let s := fset (oset k.2 (Od.LINE_KEY_ID p) k.1) (Reg.PART_STATE p) F.PART_STATE_ROLLING 1
          let x := getPart s p
          let s := setPart s p { x with lineGen := x.lineGen + 1, undoOld := !x.undo.isEmpty, swept := 0, fresh := [] }
          answer ((carveStacks s p).foldl (fun s d => fset s (Reg.HBM_STATUS d) F.HBM_STATUS_REKEY 1) s) 0

/-- A stack is swept for some partition's roll. -/
def sweeping (s : State) (d : Nat) : Bool := (List.range 16).any fun p => rolling s p && (carveStacks s p).contains d

/-- Every line of partition `p`'s carve shows the current generation: the re-key sweep has passed them all (R289 order 4). -/
def sweepDone (s : State) (p : Nat) : Bool := decide (sweepLines s p ≤ (getPart s p).swept)

/-- LINE_KEY_RETIRE: every line of the carve shows the current generation; the previous key is zeroised and freed once no undo
record holds a line of its generation (R289 order 5, R382). -/
def lineKeyRetire (s : State) (p : Nat) : State :=
  if !rolling s p || !sweepDone s p || (getPart s p).undoOld then s
  else
    let s := zeroiseAll s (keySlots s p classLine 1)
    let s := fset s (Reg.PART_STATE p) F.PART_STATE_ROLLING 0
    let s := setPart s p { getPart s p with swept := 0, fresh := [] }
    (List.range 4).foldl (fun s d => fset s (Reg.HBM_STATUS d) F.HBM_STATUS_REKEY (if sweeping s d then 1 else 0)) s

/-! ## The integrity halt (R282, R283) -/

/-- Every partition shows HALTED: its gate closes, its run state is 4, its load or stream and key session end (R282, R283,
R294, R438). -/
def haltPart (s : State) (p : Nat) : State :=
  let s := setPartState (osetTell s p (Od.RUN_STATE p) 4) p 4
  let s := fsets s (Reg.PART_STATE p) [(F.PART_STATE_ROLLING, 0), (F.PART_STATE_SESSION, 0)]
  let s := setPart s p { getPart s p with stream := none, staged := 0, surplus := [], hold := .none, causes := [] }
  acqHalt (clearStoppedRun s p) p

/-- The integrity halt: the controller of stack `d` found line `n` bad (R282, R296). A further detection counts only. -/
def integrityHalt (s : State) (d n : Nat) : State :=
  if halted s then oinc s Od.HALT_EXTRA
  else
    let a := d * 0x1000000000 + 64 * n
    let owner := (carveOwner s a).getD 255
    let s := sendHalt (captureTag s d n true) Code.INTEGRITY_FAIL
    let s := { holdPins s 0xFFFF with pinsHeld := true }
    let s := zeroiseAll s (List.range 64)
    let s := (List.range 4).foldl (fun s d => fset s (Reg.HBM_STATUS d) F.HBM_STATUS_REKEY 0) s
    let s := oset (oset (oset s Od.INTEGRITY_HALT 1) Od.HALT_STACK d) Od.HALT_LINE n
    let s := oset (oset s Od.HALT_PARTITION owner) Od.HALT_TIME (now80 s)
    let s := hemStop ((List.range 16).foldl haltPart s)
    let s := fset s Reg.CFG_STATUS F.CFG_STATUS_BUSY 0
    logRecord (pciEvent s F.PCI_EVENT_HALT) 6 7 (if owner = 255 then modulePart else owner) Code.INTEGRITY_FAIL a []

/-! ## The read of a range of lines (R274, R279) -/

/-- How an access event says that the read of line `i` of an access goes. -/
def lineEvent (e : AccessEvent) (i : Nat) : LineRead :=
  match e with
  | .lines l => ((l.find? fun x => decide (x.1 = i)).map fun x => x.2).getD .clean
  | _ => .clean

/-- What the reads of an access's lines come to: the state, the lines with an uncorrectable error, and the line at which the
module halts. -/
structure LinesRead where
  state : State
  bad   : List Nat := []
  halt  : Option Nat := none

/-- The lines of `n` bytes from HBM address `a` that satisfy `needs`, read in ascending order up to one that halts (R274, R279). -/
def readLines (s : State) (a n : Nat) (needs : Nat → Bool) (e : AccessEvent) : LinesRead :=
  (List.range ((a % 64 + n + 63) / 64)).foldl (fun t i =>
    if t.halt.isSome || !needs i then t
    else
      match lineRead t.state (lineOf a + 64 * i) (lineEvent e i) with
      | (s, .ok) => { t with state := s }
      | (s, .uncorrectable) => { t with state := s, bad := t.bad ++ [i] }
      | (s, .halt) => { t with state := s, halt := some i }) { state := s }

/-- The integrity halt at line `i` of an access to HBM address `a`. -/
def haltAt (s : State) (a i : Nat) : State := integrityHalt s (stackOf a) (lineNo (lineOf a + 64 * i))

/-- A read of `n` bytes at HBM address `a` by one of the module's own readers: the loader, the Lining, DMA (R274, R279, R282,
R283). The answer is the state and the code, 0 where every line is delivered. -/
def engineRead (s : State) (a n : Nat) (e : AccessEvent) : State × Nat :=
  if halted s then (s, Code.DOMAIN_ASLEEP)
  else
    let r := readLines s a n (fun _ => true) e
    match r.halt with
    | some i => (haltAt r.state a i, Code.INTEGRITY_FAIL)
    | none => (r.state, if r.bad.isEmpty then 0 else Code.HBM_UNCORRECTABLE)

/-! ## Pseudo-channels and rows (R276, R389, R391) -/

/-- PC_RETIRE: a pseudo-channel of stack `d` is retired and its copy begins; a second one in the stack stops every partition
with a carve there, and the next restart maps the stack out (R276, R391). -/
def pcRetire (s : State) (d pc : Nat) : State :=
  if fbit s (Reg.HBM_STATUS d) F.HBM_STATUS_RETIRED then
    let s := { s with mapOut := s.mapOut ||| 2 ^ d }
    ((List.range 16).filter fun p => decide (partState s p ≠ 0) && decide (carveCount s p d ≠ 0)).foldl
      (fun s p => stopPart s p Code.ENVELOPE_EXCEEDED 9) s
  else
    let s := fsets s (Reg.HBM_STATUS d)
      [(F.HBM_STATUS_RETIRED, 1), (F.HBM_STATUS_RETIRED_PC, pc), (F.HBM_STATUS_COPYING, 1)]
    let s := { s with copied := sset (fun _ => 0) s.copied d 0 }
    raiseHealth (oset s Od.HBM_PC_RETIRED (oget s Od.HBM_PC_RETIRED ||| 2 ^ d)) 1

/-- PC_COPY_DONE: the copy of R276 is complete: every line is served from the reserves. -/
def pcCopyDone (s : State) (d : Nat) : State :=
  if fbit s (Reg.HBM_STATUS d) F.HBM_STATUS_COPYING then
    fset { s with copied := sset (fun _ => 0) s.copied d pcDataLines } (Reg.HBM_STATUS d) F.HBM_STATUS_COPYING 0
  else s

/-- PPR_REPAIR: a row is repaired; the row that needs a seventeenth repair row starts retirement (R389). -/
def pprRepair (s : State) (d pc : Nat) : State :=
  let k := 64 * d + pc
  let n := sget (fun _ => 0) s.pprUsed k
  if n < 16 then
    let s := { s with pprUsed := sset (fun _ => 0) s.pprUsed k (n + 1) }
    raiseHealth (oset s Od.PPR_ROWS_USED (oget s Od.PPR_ROWS_USED + 1)) 1
  else pcRetire s d pc

/-! ## The carve rules of R292 -/

/-- The other partitions that hold a carve. -/
def otherParts (s : State) (p : Nat) : List Nat :=
  (List.range 16).filter fun q => decide (q ≠ p) && decide (partState s q ≠ 0)

/-- Two ranges (first, count) meet. -/
def rangesMeet (a b : Nat × Nat) : Bool :=
  decide (a.2 ≠ 0) && decide (b.2 ≠ 0) && decide (a.1 < b.1 + b.2) && decide (b.1 < a.1 + a.2)

/-- A range entry of partition `p` meets another partition's. -/
def rangeClash (s : State) (p : Nat) (f : Nat → Nat × Nat) : Bool := (otherParts s p).any fun q => rangesMeet (f p) (f q)

/-- A mask entry of partition `p` meets another partition's. -/
def maskClash (s : State) (p : Nat) (f : Nat → Nat) : Bool := (otherParts s p).any fun q => decide (f p &&& f q ≠ 0)

/-- A row band as (first, count). -/
def bandOf (s : State) (d p : Nat) : Nat × Nat := (oget s (Od.ROWS_W p d) / 256, oget s (Od.ROWS_W p d) % 256)

/-- Rule 1 of R292: nothing is carved to two partitions. The key of the first entry that is. -/
def ruleShared (s : State) (p : Nat) : Option Nat :=
  let four := fun (key : Nat → Nat) (f : Nat → Nat → Nat × Nat) =>
    ((List.range 4).filter fun d => rangeClash s p (f d)).map key
  (four (Od.ROWS_W p) (bandOf s) ++
   four (Od.HBM_H p) (fun d q => (carveFirst s q d, carveCount s q d)) ++
   four (Od.DESC_FIRST_W p) (fun d q => (oget s (Od.DESC_FIRST_W q d), oget s (Od.DESC_COUNT_W q d))) ++
   four (Od.BANK_FIRST_W p) (fun d q => (oget s (Od.BANK_FIRST_W q d), oget s (Od.BANK_COUNT_W q d))) ++
   ((List.range 8).filter fun b => rangeClash s p (tracksOf s b)).map (Od.BRG_TRACK_CARVE p) ++
   (if oget s (Od.STORE_KBIT p) ≠ 0 ∧
      65536 < ((p :: otherParts s p).map fun q => oget s (Od.STORE_KBIT q)).sum then [Od.STORE_KBIT p] else []) ++
   (if maskClash s p (fun q => oget s (Od.REGIONS q)) then [Od.REGIONS p] else []) ++
   (if maskClash s p (fun q => oget s (Od.TREES q)) then [Od.TREES p] else []) ++
   (if maskClash s p (fun q => oget s (Od.LINKS q)) then [Od.LINKS p] else [])).head?

/-- The two Weave dies of bridge `b` of R117's table, or none for a Yoke bridge. -/
def bridgeDies (b : Nat) : Option (Nat × Nat) :=
  match b with
  | 0 => some (0, 1)
  | 1 => some (0, 2)
  | 5 => some (3, 1)
  | 6 => some (3, 2)
  | _ => none

/-- The die of a Yoke bridge of R117's table. -/
def yokeBridgeDie (b : Nat) : Nat :=
  match b with
  | 2 => 0
  | 3 => 1
  | 4 => 2
  | _ => 3

/-- Track `t` of Weave bridge `b` lands at rows of the partition's band on both dies (R292): a column-edge bridge, 0 or 6, at
row t / 8; a row-edge bridge at the edge rows. -/
def trackLands (s : State) (p b t : Nat) : Bool :=
  match b with
  | 0 => rowInBand s p 0 (t / 8) && rowInBand s p 1 (t / 8)
  | 6 => rowInBand s p 3 (t / 8) && rowInBand s p 2 (t / 8)
  | 1 => rowInBand s p 0 31 && rowInBand s p 2 0
  | 5 => rowInBand s p 3 0 && rowInBand s p 1 31
  | _ => rowInBand s p (yokeBridgeDie b) ((yokeSquare (yokeBridgeDie b)).2 + t / 12 / 8)

/-- Rules 2 and 3 of R292 for one bridge. The row band of the lowest die involved is the entry that a failure names. -/
def ruleTracks (s : State) (p : Nat) (bs : List Nat) : Option Nat :=
  (bs.filterMap fun b =>
    if (List.range (tracksOf s b p).2).all fun i => trackLands s p b ((tracksOf s b p).1 + i) then none
    else some (Od.ROWS_W p (match bridgeDies b with
      | some (x, y) => min x y
      | none => yokeBridgeDie b))).head?

/-- The region that a running tree's root cell or pin lies in, by its words 0 and 2 (R226). -/
def treeRegion (m : List Host.Cell) (n : Nat) : Option Nat :=
  let w := treeWord m n 0
  if nbits w 31 31 = 0 then none
  else if nbits w 30 28 = 1 then some (nbits w 27 22 / 4)
  else if nbits w 30 28 = 2 then some (nbits (treeWord m n 2) 15 11 / 2)
  else none

/-- Rule 4 of R292: another partition's tree has its root in a region of this one. -/
def ruleRegions (s : State) (p : Nat) : Option Nat :=
  if (otherParts s p).any fun q => (List.range 8).any fun n =>
      decide (oget s (Od.TREES q) / 2 ^ n % 2 = 1) &&
      (match treeRegion s.frames n with
       | some r => decide (oget s (Od.REGIONS p) / 2 ^ r % 2 = 1)
       | none => false)
  then some (Od.REGIONS p) else none

/-- Rules 5 and 6 of R292. -/
def ruleHbm (s : State) (p : Nat) : Option Nat :=
  match (List.range 4).find? fun d => decide (carveCount s p d < carveDm s p d) with
  | some d => some (Od.HBM_H p d)
  | none =>
    if ((List.range 4).map fun d => carveCount s p d - carveDm s p d).sum < 16 then some (Od.HBM_H p 0) else none

/-- A carve on a part that the start has mapped out (R522). -/
def ruleMappedOut (s : State) (p : Nat) : Option Nat :=
  let out := fun n => decide (oget s Od.START_FAULTS / 2 ^ n % 2 = 1)
  (((List.range 4).filter fun d => out d && decide ((bandOf s d p).2 ≠ 0)).map (Od.ROWS_W p) ++
   ((List.range 4).filter fun d => out (4 + d) && decide (carveCount s p d ≠ 0)).map (Od.HBM_H p)).head?

/-- The entry that the first broken rule of R292 names. -/
def carveConflict (s : State) (p : Nat) : Option Nat :=
  (ruleShared s p).or ((ruleTracks s p [0, 1, 5, 6]).or ((ruleTracks s p [2, 3, 4, 7]).or
    ((ruleRegions s p).or ((ruleHbm s p).or (ruleMappedOut s p)))))

/-! ## CREATE (R293) -/

/-- The outcome of a partition command (R291). -/
def partAnswer (s : State) (p code field : Nat) : State :=
  answer (oset (oset s (Od.PART_FAIL p) code) (Od.FAIL_FIELD p) field) code

/-- FAIL_FIELD of an entry key: bits [7:0] of the index and the sub-index. -/
def failField (key : Nat) : Nat := key / 256 % 256 * 256 + key % 256

/-- CREATE, orders 1 to 4 of R293: the carve checked, a line key generated, FILLING. -/
def createPart (s : State) (p : Nat) (w : Path) : State :=
  if !leased s then s
  else if !ownerPath w then answer s Code.ACCESS_DENIED
  else if fget s Reg.PWR_STATUS F.PWR_STATUS_STAGE < 2 then partAnswer s p Code.WRONG_STATE 0
  else if partState s p = 4 then partAnswer s p Code.WRONG_STATE 0
  else if partState s p ≠ 0 then partAnswer s p Code.NOT_IDLE 0
  else
    match carveConflict s p with
    | some key => partAnswer s p Code.CARVE_CONFLICT (failField key)
    | none =>
      match keyRefusal s with
      | some code => partAnswer s p code 0
      | none =>
        let k := generateKey s p classLine
        partAnswer (setPartState (oset k.2 (Od.LINE_KEY_ID p) k.1) p 1) p 0 0

/-- Frames without those of some Cuff regions, of their slots, and of some trees. -/
def framesLess (m : List Host.Cell) (regions trees : Nat) : List Host.Cell :=
  m.filter fun c =>
    let fa := c.1 / 4096
    let row := fa / 2 ^ 17 % 32
    let frame := fa % 2 ^ 17
    let tree := decide (fa / 2 ^ 28 = 4) && decide (0x10000 ≤ frame) && decide (frame < 0x10008)
    if tree then decide (trees / 2 ^ (frame - 0x10000) % 2 = 0)
    else if fa / 2 ^ 28 = 4 then decide (regions / 2 ^ (row / 2) % 2 = 0)
    else decide (regions / 2 ^ row % 2 = 0)

/-- The bits of a mask that another does not hold. -/
def maskLess (v m : Nat) : Nat := v - (v &&& m)

/-- Frames of a Cuff region and of its slots and trees are unwritten: the region is as before its first commit, with its pins
high-impedance and its trees at 0 (R267). -/
def dropFrames (s : State) (regions trees : Nat) : State :=
  { s with
    frames := framesLess s.frames regions trees, goldenFrames := framesLess s.goldenFrames regions trees,
    treeRaw := maskLess s.treeRaw trees, treeHigh := maskLess s.treeHigh trees, treesHeld := maskLess s.treesHeld trees,
    resetRegions := maskLess s.resetRegions regions,
    pinOut := s.pinOut.filter fun x => decide (regions / 2 ^ (x.1 / 40) % 2 = 0),
    latches := s.latches.filter fun x => decide (regions / 2 ^ (x.1 / 256 / 48 / 2) % 2 = 0),
    cellQ := s.cellQ.filter fun c => decide (regions / 2 ^ (c.1 / 256 / 48 / 2) % 2 = 0) }

/-- The regions in a mask enter the state of R267: their pins high-impedance, their slots off. -/
def regionsOff (s : State) (regions trees : Nat) : State :=
  let s := dropFrames s regions trees
  let s := (List.range 32).foldl (fun s i =>
    if regions / 2 ^ (i / 2) % 2 = 1 then rset (setSlot s i {}) (Reg.CUFF_FP_STATUS i) 0 else s) s
  let s := (List.range 16).foldl (fun s b =>
    if regions / 2 ^ b % 2 = 1 then fset s (Reg.CUFF_BANK b) F.CUFF_BANK_VIO_SEL 0 else s) s
  let keep := fun (v : Nat) => maskLess v regions
  let s := fset s Reg.CFG_REGION F.CFG_REGION_FIRST (keep (fget s Reg.CFG_REGION F.CFG_REGION_FIRST))
  let s := fset s Reg.CFG_REGION F.CFG_REGION_HOLD (keep (fget s Reg.CFG_REGION F.CFG_REGION_HOLD))
  fset s Reg.CUFF_STATUS F.CUFF_STATUS_RECONF (keep (fget s Reg.CUFF_STATUS F.CUFF_STATUS_RECONF))

/-- The NoC bytes of a partition's HBM carve set to 0 (R293 order 4). -/
def zeroCarve (s : State) (p : Nat) : State :=
  (List.range 4).foldl (fun s d =>
    zeroMem s (unitAddr d (carveFirst s p d)) (unitAddr d (carveFirst s p d + carveCount s p d))) s

/-- A partition's descriptors on die `d` made VALID 0. -/
def invalidateDescs (s : State) (p d : Nat) : State :=
  let x := getDie s d
  let lo := oget s (Od.DESC_FIRST_W p d)
  let hi := lo + oget s (Od.DESC_COUNT_W p d)
  setDie s d { x with
    descs := (sslice x.descs lo hi).foldl (fun m kv =>
      sset (fun _ => 0) m kv.1 (kv.2 &&& ~~~(0x80000000#128))) x.descs }

/-- The size of a checkpoint slot in bytes: 76 KiB for each virtual cluster the carve could hold, 32 KiB for each carved
Pocket bank (R379). -/
def ckptSlotBytes (s : State) (p : Nat) : Nat :=
  ((List.range 4).map fun d =>
    32 * (oget s (Od.ROWS_W p d) % 256) * 76 * 1024 + oget s (Od.BANK_COUNT_W p d) * 32 * 1024).sum

/-- CREATE_FILL_DONE, orders 4 to 6 of R293: the carve holds zeros, the resources are bound, the partition is OPEN. -/
def createFillDone (s : State) (p : Nat) : State :=
  if partState s p ≠ 1 then s
  else
    let s := zeroCarve s p
    let s := (List.range 4).foldl (fun s d => invalidateDescs s p d) s
    let s := (partClusters s p).foldl (fun s c => rset s (Reg.BP_SWEEP_LEN c) 0) s
    let s := regionsOff s (oget s (Od.REGIONS p)) (oget s (Od.TREES p))
    let a := placeArea s p ((2 * ckptSlotBytes s p + 0xFFFFF) / 0x100000)
    logRecord (setPartState (setPart a.2 p { ckptAt := a.1 }) p 2) 14 2 p Code.PART_CREATED 0 []

/-! ## DONE (R269) -/

/-- CFG_DONE_CTRL.RELEASE set: the module stops or resumes pulling DONE low, and DONE_STATE follows (R269, R271). -/
def setRelease (s : State) (b : Bool) : State :=
  let s := fset s Reg.CFG_DONE_CTRL F.CFG_DONE_CTRL_RELEASE (if b then 1 else 0)
  let s := fset s Reg.CFG_STATUS F.CFG_STATUS_DONE_PULL (if b then 0 else 1)
  let s := if b then s else fset s Reg.CFG_STATUS F.CFG_STATUS_DONE_IN 0
  oset s Od.DONE_STATE (if b then 1 + fget s Reg.CFG_STATUS F.CFG_STATUS_DONE_IN else 0)

/-- A DONE_GROUP partition loses its pattern: Collar clears RELEASE (R269). -/
def unloadDone (s : State) (p : Nat) : State :=
  if oget s (Od.DONE_GROUP p) = 1 ∧ oget s (Od.VMAP_FOLD p) ≠ 0 then setRelease s false else s

/-- Every DONE_GROUP partition lets DONE go: it has committed a pattern, and each Cuff region that it owns has had its first commit and is
not in hold (R269). -/
def doneReady (s : State) : Bool :=
  (List.range 16).all fun p =>
    decide (oget s (Od.DONE_GROUP p) ≠ 1) ||
    (decide (oget s (Od.VMAP_FOLD p) ≠ 0) &&
     (List.range 16).all fun r => decide (oget s (Od.REGIONS p) / 2 ^ r % 2 = 0) || (regionLive s r && !regionHeld s r))

/-- DONE re-evaluated: Collar sets RELEASE once every DONE_GROUP partition is ready, at Fit (R260 order 7, R269). -/
def doneEval (s : State) : State :=
  if doneReady s && decide (2 ≤ fget s Reg.PWR_STATUS F.PWR_STATUS_STAGE) && leased s then setRelease s true else s

/-! ## DESTROY (R294) -/

/-- Clusters of the band at rest: nothing in flight, everything cleared but what repairs have left (R294 orders 2 and 6). -/
def clearClusters (s : State) (p : Nat) : State :=
  (partClusters s p).foldl (fun s c =>
    let k := getCl s c.idx
    let s := rset (fset s (Reg.BP_CL_STATUS c) F.BP_CL_STATUS_RUN 0) (Reg.BP_SWEEP_LEN c) 0
    let s := showProgress (setCl s c.idx { retired := k.retired, spareFor := k.spareFor, spareBad := k.spareBad }) c
    let s := zeroMem s (stateBase c) (clusterBase c + 0x330000)
    { s with wsched := sclear s.wsched (wsBase c) (wsBase c + 0x20000),
             stages := sclear s.stages (c.idx * 512) (c.idx * 512 + 512) }) s

/-- A partition's descriptors, Pocket banks and operations in flight on die `d` cleared (R294 order 6). -/
def clearDie (s : State) (p d : Nat) : State :=
  let x := getDie s d
  let lo := oget s (Od.DESC_FIRST_W p d)
  let hi := lo + oget s (Od.DESC_COUNT_W p d)
  let s := setDie s d { x with
    descs := sclear x.descs lo hi,
    badDesc := x.badDesc.filter (fun n => decide (n < lo) || decide (hi ≤ n)),
    ops := x.ops.filter (fun o => decide (partOf s (clusterOf o.cluster) ≠ some p)),
    credits := x.credits.filter (fun r => decide (partOf s (clusterOf r.1) ≠ some p)) }
  let b := oget s (Od.BANK_FIRST_W p d)
  zeroMem (refreshHbmOut s d) (pocketAddr d b) (pocketAddr d (b + oget s (Od.BANK_COUNT_W p d)))

/-- The channel-store share of a partition's SEAMMAP and bridges cleared (R294 order 6). -/
def clearChannels (s : State) (p : Nat) : State :=
  let m := seamMapOf s p
  let slots := (List.range 32).filter fun i => decide (slotPart s i = some p)
  let chans := (m.outs.map fun o => o.channel) ++ (m.ins.map fun i => i.channel) ++
    slots.flatMap (fun i => (slotChans s.frames i 0 ++ slotChans s.frames i 1).map fun c => c.1)
  chans.foldl (fun s c =>
    { s with rings := sset (fun _ => []) s.rings c [], inNext := sset (fun _ => (0, 0)) s.inNext c (0, 0),
             outNext := sset (fun _ => (0, 0)) s.outNext c (0, 0), fences := sset (fun _ => none) s.fences c none,
             outbound := sset (fun _ => []) s.outbound c [] }) s

/-- Every entry of 0x6p01 to 0x6pFF and of 0x3100 + p returns to its default (R294 order 7). -/
def defaultEntries (s : State) (p : Nat) : State :=
  let s := osetTell s p (Od.LAST_STOP p) 0
  let s := osetTell s p (Od.RUN_STATE p) 0
  { s with od := s.od.filter fun e =>
      let i := e.1 / 256
      !(decide (0x6001 + 0x100 * p ≤ i) && decide (i ≤ 0x60FF + 0x100 * p)) && decide (i ≠ 0x3100 + p) }

/-- The links of a partition lose their image: MAP_OK and PEER_HALT clear (R204, R294). -/
def dropLinks (s : State) (p : Nat) : State :=
  (partPorts s p).foldl (fun s i =>
    fsets s (Reg.SEAM_STATUS i) [(F.SEAM_STATUS_MAP_OK, 0), (F.SEAM_STATUS_PEER_HALT, 0)]) s

/-- DESTROY, the whole of R294. -/
def destroyPart (s : State) (p : Nat) (w : Path) : State :=
  if !leased s then s
  else if !ownerPath w then answer s Code.ACCESS_DENIED
  else if partState s p = 0 ∨ partState s p = 4 then partAnswer s p Code.WRONG_STATE 0
  else if partState s p = 3 then partAnswer s p Code.NOT_IDLE 0
  else
    let s := closeBound (setPartState (unloadDone s p) p 3) p
    let s := acqHalt s p
    let s := if hemOwner s = some p then hemRelease s else s
    let s := (List.range 4).foldl (fun s d => clearDie s p d) (clearChannels (dropLinks s p) p)
    let s := clearClusters s p
    let s := regionsOff s (oget s (Od.REGIONS p)) (oget s (Od.TREES p))
    let s := flrVirtual s p
    let s := (List.range 64).foldl (fun s j =>
      { s with toHost := sset (fun _ => []) s.toHost (64 * p + j) [],
               fromHost := sset (fun _ => []) s.fromHost (64 * p + j) [] }) s
    let s := zeroiseAll s ((List.range 64).filter fun k =>
      slotLiveKey s k && decide (fget s (Reg.XTS_SLOT k) F.XTS_SLOT_PARTITION = p))
    let s := fsets s (Reg.PART_STATE p) [(F.PART_STATE_ROLLING, 0), (F.PART_STATE_SESSION, 0)]
    let s := fset s Reg.CFG_STATUS F.CFG_STATUS_BUSY
      (fget s Reg.CFG_STATUS F.CFG_STATUS_BUSY - fget s Reg.CFG_STATUS F.CFG_STATUS_BUSY / 2 ^ p % 2 * 2 ^ p)
    let s := setPartState (setPart (defaultEntries s p) p {}) p 0
    doneEval (logRecord (partAnswer s p 0 0) 14 2 p Code.PART_DESTROYED 0 [])

/-! ## The commands -/

def execHbmRefresh (_d : Fin 4) (s : State) : Host.Outcome State Fault Refusal := .next s
def execIntegrityHalt (d : Fin 4) (line : Fin 754974720) (s : State) : Host.Outcome State Fault Refusal :=
  .next (integrityHalt s d.val line.val)
def execPcRetire (d : Fin 4) (pc : Fin 64) (s : State) : Host.Outcome State Fault Refusal := .next (pcRetire s d.val pc.val)
def execPcCopyDone (d : Fin 4) (s : State) : Host.Outcome State Fault Refusal := .next (pcCopyDone s d.val)
def execPprRepair (d : Fin 4) (pc : Fin 64) (s : State) : Host.Outcome State Fault Refusal := .next (pprRepair s d.val pc.val)
def execCreate (p : Fin 16) (w : Path) (s : State) : Host.Outcome State Fault Refusal := .next (served s fun s => createPart s p.val w)
def execCreateFillDone (p : Fin 16) (s : State) : Host.Outcome State Fault Refusal := .next (createFillDone s p.val)
def execDestroy (p : Fin 16) (w : Path) (s : State) : Host.Outcome State Fault Refusal := .next (served s fun s => destroyPart s p.val w)
def execKsNonceRead (p : Fin 16) (s : State) : Host.Outcome State Fault Refusal := .next (ksNonceRead s p.val)
def execKsOpen (p : Fin 16) (bytes : List (BitVec 8)) (w : Path) (s : State) : Host.Outcome State Fault Refusal :=
  .next (served s fun s => ksOpenWrite s p.val bytes w)
def execKsWrapCfg (p : Fin 16) (bytes : List (BitVec 8)) (w : Path) (s : State) : Host.Outcome State Fault Refusal :=
  .next (served s fun s => ksWrapCfg s p.val bytes w)
def execKsWrapSector (p : Fin 16) (bytes : List (BitVec 8)) (w : Path) (s : State) : Host.Outcome State Fault Refusal :=
  .next (served s fun s => ksWrapSector s p.val bytes w)
def execKsClose (p : Fin 16) (w : Path) (s : State) : Host.Outcome State Fault Refusal := .next (served s fun s => ksCloseWrite s p.val w)
def execKsSessionTimeout (p : Fin 16) (s : State) : Host.Outcome State Fault Refusal := .next (ksClose s p.val)
def execLineRoll (p : Fin 16) (w : Path) (s : State) : Host.Outcome State Fault Refusal := .next (served s fun s => lineRoll s p.val w)
def execLineKeyRetire (p : Fin 16) (s : State) : Host.Outcome State Fault Refusal := .next (lineKeyRetire s p.val)
def execSectorRetire (p : Fin 16) (w : Path) (s : State) : Host.Outcome State Fault Refusal := .next (served s fun s => sectorRetire s p.val w)

end Sys2Proof.Machine
end

