-- ==== Sys2Proof/Machine/PatternFile.lean ====
section
/-! DEFINITION. The pattern file (06): its header, section table, latency table and records (R163 to R174, R192, R339), read
from bytes. Every reader answers with the failure that R183 names, or with what it read. -/

namespace Sys2Proof.Machine

/-- A refused load: the abort code, and FAIL_AT's section TYPE, FOLD and byte offset of the first failing item (R185): within the
section, or within the file for the header and the section table (DESIGN CHOICE, log 89). -/
structure PatFail where
  code : Nat
  type : Nat
  fold : Nat
  at_  : Nat
deriving DecidableEq, Repr

/-- `e` unless `ok`. -/
def need (ok : Bool) (e : PatFail) : Except PatFail Unit := if ok then .ok () else .error e

/-- Every element passes, or the first that does not is answered with its failure. -/
def needAll {α : Type} (l : List α) (ok : α → Bool) (e : α → PatFail) : Except PatFail Unit :=
  match l.find? (fun x => !ok x) with
  | some x => .error (e x)
  | none => .ok ()

/-- A check made for each element in turn. -/
def eachOk {α : Type} (l : List α) (f : α → Except PatFail Unit) : Except PatFail Unit :=
  match l with
  | [] => .ok ()
  | x :: rest =>
    match f x with
    | .ok _ => eachOk rest f
    | .error e => .error e

/-! ## Header and section table (R163 to R165) -/

/-- A section-table entry (R164): bits [7:0] of `flags` are FLAGS, and `rsvd` is the reserved field. -/
structure Sec where
  type  : Nat
  fold  : Nat
  flags : Nat
  crc   : Nat
  off   : Nat
  len   : Nat
  rsvd  : Nat
  /-- The entry's offset in the file. -/
  pos   : Nat
deriving DecidableEq, Repr

/-- Entry `i` of a section table at offset `t`. -/
def secAt (f : List Byte) (t i : Nat) : Sec :=
  let a := t + 32 * i
  ⟨leAt f a 2, leAt f (a + 2) 1, leAt f (a + 3) 1, leAt f (a + 4) 4, leAt f (a + 8) 8, leAt f (a + 16) 8, leAt f (a + 24) 8, a⟩

/-- The file's own sections. -/
def sectionsOf (f : List Byte) : List Sec := (List.range (leAt f 0x0C 4)).map (secAt f (leAt f 0x10 8))

def patSweep (f : List Byte) : Nat := leAt f 0x20 2
def patFoldMax (f : List Byte) : Nat := leAt f 0x22 1

/-- The fold factors of a file's images (R159). -/
def patFolds (f : List Byte) : List Nat := [1, 2, 4].filter fun k => decide (k ≤ patFoldMax f)

/-- Types that carry one section per image (R165). -/
def perImage (ty : Nat) : Bool := decide (ty ∈ [1, 3, 4, 5, 6, 9, 0xA, 0xC, 0xD])

/-- A failure of the header. -/
def headFail (code at_ : Nat) : PatFail := ⟨code, 0, 0, at_⟩

/-- The header's checks, in the order of its fields (R163). `n` is the length the PATTERN command carries. -/
def checkHeader (f : List Byte) (n : Nat) : Except PatFail Unit := do
  let bad := headFail Code.PATTERN_FORMAT
  need (leAt f 0 4 == 0x54415056) (bad 0)
  need (leAt f 4 2 == 3) (bad 4)
  need (leAt f 8 4 == 128) (bad 8)
  need (decide (leAt f 0x0C 4 ≤ 4096)) (headFail Code.LENGTH_EXCEEDS_BUFFER 0x0C)
  need (decide (1 ≤ leAt f 0x0C 4)) (bad 0x0C)
  need (leAt f 0x10 8 % 64 == 0) (bad 0x10)
  need (leAt f 0x18 8 == n) (bad 0x18)
  need (decide (leAt f 0x10 8 + 32 * leAt f 0x0C 4 ≤ n)) (headFail Code.LENGTH_EXCEEDS_BUFFER 0x10)
  need (decide (patFoldMax f ∈ [1, 2, 4])) (bad 0x22)
  need (decide (leAt f 0x23 1 ≤ 24)) (bad 0x23)
  need (leAt f 0x25 3 == 0) (bad 0x25)
  need (crc32 (bytesAt f 0 0x34 ++ List.replicate 4 0 ++ bytesAt f 0x38 72) == leAt f 0x34 4) (bad 0x34)
  need ((bytesAt f 0x38 72).all fun b => b == 0) (bad 0x38)

/-- A section fits its type (R165). TYPE 0x0000 stands in no row of the table: it is ignored with any FOLD unless CRITICAL is 1, as
the undefined types are (DESIGN CHOICE, log 89). -/
def secFits (f : List Byte) (x : Sec) : Bool :=
  if 0x8000 ≤ x.type then true
  else if x.type = 0 then decide (x.flags % 2 = 0)
  else if 0x0E ≤ x.type then decide (x.fold ∈ [0, 1, 2, 4]) && decide (x.flags % 2 = 0)
  else if perImage x.type then
    decide (x.fold ∈ [1, 2, 4]) && decide (x.fold ≤ patFoldMax f) && (decide (x.type ≠ 1) || decide (x.len = 512))
  else if x.type = 0xB then decide (x.fold ∈ [2, 4]) && decide (x.fold ≤ patFoldMax f)
  else decide (x.fold = 0)

/-- One section-table entry's checks (R164, R165), each at the field that fails. -/
def checkSection (f : List Byte) (n : Nat) (x : Sec) : Except PatFail Unit := do
  let bad := fun (k : Nat) => (⟨Code.PATTERN_FORMAT, x.type, x.fold, x.pos + k⟩ : PatFail)
  need (decide (0x8000 ≤ x.type) || decide (x.flags < 2)) (bad 3)
  need (x.rsvd == 0) (bad 24)
  need (x.off % 64 == 0) (bad 8)
  need (decide (x.off + x.len ≤ n)) ⟨Code.LENGTH_EXCEEDS_BUFFER, x.type, x.fold, x.pos + 16⟩
  need (crc32 (bytesAt f x.off x.len) == x.crc) (bad 4)
  need (secFits f x) (bad 0)

/-- The section of a type and fold, or none. -/
def findSec (f : List Byte) (ty fo : Nat) : Option Sec :=
  (sectionsOf f).find? fun x => decide (x.type = ty) && decide (x.fold = fo)

/-- The bytes of the section of a type and fold; none of it is an empty section. -/
def secBytes (f : List Byte) (ty fo : Nat) : List Byte :=
  match findSec f ty fo with
  | some x => bytesAt f x.off x.len
  | none => []

/-- Required sections (R165). -/
def requiredSecs (f : List Byte) : List (Nat × Nat) :=
  (2, 0) :: (patFolds f).flatMap fun k =>
    ([1, 3, 4, 5, 6, 9].map fun ty => (ty, k)) ++ (if k = 1 then [] else [(0xB, k)])

/-- Step 2 of R183. -/
def checkFile (f : List Byte) (n : Nat) : Except PatFail Unit := do
  checkHeader f n
  let l := sectionsOf f
  eachOk l (checkSection f n)
  needAll l (fun x => decide (0x8000 ≤ x.type) ||
      decide ((l.filter fun y => decide (y.type = x.type) && decide (y.fold = x.fold)).length = 1))
    fun x => ⟨Code.PATTERN_FORMAT, x.type, x.fold, x.pos⟩
  needAll (requiredSecs f) (fun r => (findSec f r.1 r.2).isSome) fun r => ⟨Code.PATTERN_FORMAT, r.1, r.2, 0⟩

/-! ## The latency table (R171, R172) -/

/-- The UNIT of a listed element, or none (R172). -/
def latUnit (e : Nat) : Option Nat :=
  if 1 ≤ e ∧ e ≤ 8 then some 0 else if 9 ≤ e ∧ e ≤ 12 then some 1 else if 16 ≤ e ∧ e ≤ 18 then some 0 else none

/-- The entries of a latency table: offset, ELEMENT, UNIT, VALUE and CRIT. -/
def latEntries (b : List Byte) : List (Nat × Nat × Nat × Nat × Nat) :=
  (List.range (leAt b 2 2)).map fun i =>
    let a := 4 + 8 * i
    (a, leAt b a 1, leAt b (a + 1) 1, leAt b (a + 2) 2, leAt b (a + 4) 4)

/-- Step 3 of R183. -/
def checkLatency (f : List Byte) : Except PatFail Unit := do
  let b := secBytes f 2 0
  let l := latEntries b
  let bad := fun (a : Nat) => (⟨Code.PATTERN_CHECK, 2, 0, a⟩ : PatFail)
  need (decide (4 ≤ b.length)) ⟨Code.LENGTH_EXCEEDS_BUFFER, 2, 0, 0⟩
  need (decide (2 ≤ leAt b 0 2)) ⟨Code.LATENCY_TABLE_VERSION, 2, 0, 0⟩
  need (decide (4 + 8 * leAt b 2 2 ≤ b.length)) ⟨Code.LENGTH_EXCEEDS_BUFFER, 2, 0, 2⟩
  needAll l (fun e => decide ((l.filter fun x => decide (x.2.1 = e.2.1)).length = 1)) fun e => bad e.1
  needAll l (fun e => match latUnit e.2.1 with
    | some u => decide (e.2.2.1 = u) && decide (e.2.2.2.1 ≠ 0) && (decide (2 < e.2.1) || decide (e.2.2.2.1 = 1))
    | none => true) fun e => bad e.1
  need ((List.range 12).all fun i => l.any fun e => decide (e.2.1 = i + 1)) (bad 2)

/-! ## Records -/

/-- The offsets of the records of a section from `a` on: `hdr` header bytes, `size` the whole record's. -/
def walk (b : List Byte) (hdr : Nat) (size : Nat → Nat) (e : Nat → PatFail) (fuel a : Nat) : Except PatFail (List Nat) :=
  match fuel with
  | 0 => .ok []
  | fuel + 1 =>
    if b.length ≤ a then .ok []
    else if b.length < a + hdr ∨ b.length < a + size a then .error (e a)
    else
      match walk b hdr size e fuel (a + max 1 (size a)) with
      | .ok l => .ok (a :: l)
      | .error x => .error x

/-- The records of a section of a file: the section's bytes, and each record's offset. -/
def recordsOf (f : List Byte) (ty fo hdr : Nat) (size : List Byte → Nat → Nat) :
    Except PatFail (List Byte × List Nat) :=
  let b := secBytes f ty fo
  match walk b hdr (size b) (fun a => ⟨Code.LENGTH_EXCEEDS_BUFFER, ty, fo, a⟩) (b.length + 1) 0 with
  | .ok l => .ok (b, l)
  | .error e => .error e

/-- The cluster at the position that a virtual cluster number names (R153). -/
def vCluster (v : Nat) : ClusterId :=
  ⟨⟨v / 1024 % 4, Nat.mod_lt _ (by decide)⟩, ⟨v / 32 % 32, Nat.lt_trans (Nat.mod_lt _ (by decide)) (by decide)⟩,
   ⟨v % 32, Nat.mod_lt _ (by decide)⟩⟩

/-- The virtual cluster number of a position of columns 0 to 31 (R153). -/
def vNumber (c : ClusterId) : Nat := 1024 * c.die.val + 32 * c.col.val + c.row.val

/-- An image as the file gives it. -/
structure Image where
  fold  : Nat
  len   : Nat
  foot  : List Nat
  /-- Slots that a record covers, by (virtual cluster × 32 + logical BP) × 8,192 + slot. -/
  slots : SMap Slot := []
  /-- INSTR records: the key of the first slot as in `slots`, how many, and the section offset of the first. -/
  instrAt : List (Nat × Nat × Nat) := []
  /-- WARP records: position and section offset. -/
  warpAt : List (Nat × Nat) := []
  /-- Warp schedule memory of each position, as `State.wsched` holds it. -/
  ws    : List Host.Cell := []
  passes : List Nat := []
  ptrs  : SMap Word := []
  /-- Descriptors: record offset, die, pattern index, words. -/
  descs : List (Nat × Nat × Nat × BitVec 128) := []
  /-- Cuts: record offset, CUT, REMOVE_A0, REMOVE_B0. -/
  cuts  : List (Nat × Nat × Nat × Nat) := []
  /-- Fold clusters and their members. -/
  members : List (Nat × List Nat) := []
  probes : List ProbeRec := []
  seam  : Option SeamMap := none
deriving DecidableEq, Repr

/-- A NOP slot (R166). -/
def nopSlot : Slot := 0xE000000000000000

/-- The slot of an image. -/
def imgSlot (m : Image) (v b t : Nat) : Slot := sget (fun _ => nopSlot) m.slots ((v * 32 + b) * 8192 + t)

/-- The offset in the INSTR section of a covered slot. -/
def slotAt (m : Image) (v b t : Nat) : Nat :=
  let k := (v * 32 + b) * 8192 + t
  match m.instrAt.find? fun r => decide (r.1 ≤ k) && decide (k < r.1 + r.2.1) with
  | some r => r.2.2 + 8 * (k - r.1)
  | none => 0

/-- The offset in the WARP section of a position's record. -/
def warpRecAt (m : Image) (v : Nat) : Nat :=
  match m.warpAt.find? fun r => decide (r.1 = v) with
  | some r => r.2
  | none => 0

/-- The offset in the WARP section of a position's switch entry (R167). -/
def switchAt (m : Image) (v n : Nat) : Nat :=
  warpRecAt m v + (if m.passes.contains v then 16 else 16 + 8 * m.len + 32768) + 2 * n

/-- The offset in the WARP section of a cluster's SEND row `t`, and of its ACCEPT column of slot `j` from bit `t` on (R167). -/
def sendAt (m : Image) (v t : Nat) : Nat := warpRecAt m v + 16 + 4 * t
def acceptAt (m : Image) (v j t : Nat) : Nat := warpRecAt m v + 16 + 8 * m.len + 1024 * j + t / 8

/-- The footprint (R165). -/
def readFoot (f : List Byte) (k : Nat) : List Nat :=
  let b := secBytes f 1 k
  (List.range 4096).filter fun v => decide (leAt b (v / 8) 1 / 2 ^ (v % 8) % 2 = 1)

/-- INSTR records (R166). -/
def readInstr (f : List Byte) (m : Image) : Except PatFail Image := do
  let r ← recordsOf f 3 m.fold 8 fun b a => 8 + 8 * (leAt b a 8 / 2 ^ 30 % 8192 + 1)
  let b := r.1
  let hd := fun (a : Nat) => leAt b a 8
  let v := fun (a : Nat) => hd a % 4096
  let bp := fun (a : Nat) => hd a / 2 ^ 12 % 32
  let first := fun (a : Nat) => hd a / 2 ^ 17 % 8192
  let cnt := fun (a : Nat) => hd a / 2 ^ 30 % 8192 + 1
  let bad := fun (a : Nat) => (⟨Code.PATTERN_CHECK, 3, m.fold, a⟩ : PatFail)
  needAll r.2 (fun a => decide (hd a / 2 ^ 43 = 0) && decide (first a + cnt a ≤ m.len) && m.foot.contains (v a)) bad
  needAll r.2 (fun a => !r.2.any fun x => decide (x < a) && decide (v x = v a) && decide (bp x = bp a) &&
      rangesMeet (first x, cnt x) (first a, cnt a)) bad
  needAll r.2 (fun a => (List.range (cnt a)).all fun i => !slotIllegal (BitVec.ofNat 64 (leAt b (a + 8 + 8 * i) 8))) bad
  .ok { m with
    instrAt := r.2.map fun a => ((v a * 32 + bp a) * 8192 + first a, cnt a, a + 8)
    slots := r.2.foldl (fun s a => (List.range (cnt a)).foldl (fun s i =>
    sset (fun _ => nopSlot) s ((v a * 32 + bp a) * 8192 + first a + i) (BitVec.ofNat 64 (leAt b (a + 8 + 8 * i) 8))) s) [] }

/-- WARP records (R167). -/
def readWarp (f : List Byte) (m : Image) : Except PatFail Image := do
  let r ← recordsOf f 4 m.fold 16 fun b a => 16 + leAt b (a + 8) 4
  let b := r.1
  let pos := fun (a : Nat) => leAt b a 2
  let only := fun (a : Nat) => decide (leAt b (a + 2) 2 % 2 = 1)
  let bad := fun (a : Nat) => (⟨Code.PATTERN_CHECK, 4, m.fold, a⟩ : PatFail)
  let sw := fun (a : Nat) => if only a then a + 16 else a + 16 + 8 * m.len + 32768
  needAll r.2 (fun a => decide (pos a < 4096) && decide (leAt b (a + 2) 2 < 2) && leAt b (a + 4) 4 == 0 &&
      leAt b (a + 12) 4 == 0 && leAt b (a + 8) 4 == (if only a then 376 else 8 * m.len + 33144) &&
      (m.foot.contains (pos a) != only a) && !r.2.any fun x => decide (x < a) && decide (pos x = pos a)) bad
  needAll r.2 (fun a => (List.range 188).all fun n => decide (leAt b (sw a + 2 * n) 2 / 2 ^ 9 % 64 = 0)) bad
  need (m.foot.all fun v => r.2.any fun a => decide (pos a = v)) (bad 0)
  .ok { m with
    warpAt := r.2.map fun a => (pos a, a),
    passes := (r.2.filter only).map pos,
    ws := r.2.foldl (fun w a =>
      let base := wsBase (vCluster (pos a))
      let w := swriteBytes memDefault w (base + 0x18000) (bytesAt b (sw a) 376)
      if only a then w
      else
        let w := swriteBytes memDefault w base (bytesAt b (a + 16) (4 * m.len))
        let w := swriteBytes memDefault w (base + 0x8000) (bytesAt b (a + 16 + 4 * m.len) (4 * m.len))
        swriteBytes memDefault w (base + 0x10000) (bytesAt b (a + 16 + 8 * m.len) 32768)) [] }

/-- CLUSTER records (R167). -/
def readPtrs (f : List Byte) (m : Image) : Except PatFail Image := do
  let r ← recordsOf f 5 m.fold 132 fun _ _ => 132
  let b := r.1
  let v := fun (a : Nat) => leAt b a 2
  let bad := fun (a : Nat) => (⟨Code.PATTERN_CHECK, 5, m.fold, a⟩ : PatFail)
  needAll r.2 (fun a => m.foot.contains (v a) && leAt b (a + 2) 2 == 0 &&
      (!r.2.any fun x => decide (x < a) && decide (v x = v a)) &&
      (List.range 32).all fun k => decide (leAt b (a + 4 + 4 * k) 4 / 2 ^ 14 % 4 = 0)) bad
  need (m.foot.all fun x => r.2.any fun a => decide (v a = x)) (bad 0)
  .ok { m with ptrs := r.2.foldl (fun s a => (List.range 32).foldl (fun s k =>
    sset (fun _ => 0) s (v a * 32 + k) (BitVec.ofNat 32 (leAt b (a + 4 + 4 * k) 4))) s) [] }

/-- DESC records (R168). -/
def readDescs (f : List Byte) (m : Image) : Except PatFail Image := do
  let r ← recordsOf f 6 m.fold 24 fun _ _ => 24
  let b := r.1
  let bad := fun (a : Nat) => (⟨Code.PATTERN_CHECK, 6, m.fold, a⟩ : PatFail)
  needAll r.2 (fun a => decide (leAt b a 1 < 4) && leAt b (a + 1) 1 == 0 && leAt b (a + 4) 4 == 0 &&
      !r.2.any fun x => decide (x < a) && leAt b x 1 == leAt b a 1 && leAt b (x + 2) 2 == leAt b (a + 2) 2) bad
  .ok { m with descs := r.2.map fun a => (a, leAt b a 1, leAt b (a + 2) 2, BitVec.ofNat 128 (leAt b (a + 8) 16)) }

/-- CUTS records (R174). -/
def readCuts (f : List Byte) (m : Image) : Except PatFail Image := do
  let r ← recordsOf f 0xA m.fold 8 fun _ _ => 8
  let b := r.1
  needAll r.2 (fun a => leAt b (a + 4) 4 == 0) fun a => ⟨Code.PATTERN_CHECK, 0xA, m.fold, a⟩
  .ok { m with cuts := r.2.map fun a => (a, leAt b a 2, leAt b (a + 2) 1, leAt b (a + 3) 1) }

/-- FOLDMAP records (R159, R165): one for each fold cluster of the image, no member listed twice, and members on the die of their
fold cluster. A breach is PATTERN_CHECK (R182). -/
def readMembers (f : List Byte) (m : Image) : Except PatFail Image := do
  if m.fold = 1 then .ok { m with members := m.foot.map fun v => (v, [v]) }
  else
    let r ← recordsOf f 0xB m.fold (2 + 2 * m.fold) fun _ _ => 2 + 2 * m.fold
    let b := r.1
    let ms := fun (a : Nat) => (List.range m.fold).map fun i => leAt b (a + 2 + 2 * i) 2
    let bad := fun (a : Nat) => (⟨Code.PATTERN_CHECK, 0xB, m.fold, a⟩ : PatFail)
    needAll r.2 (fun a => m.foot.contains (leAt b a 2) &&
      (ms a).all (fun v => decide (v < 4096) && decide (v / 1024 = leAt b a 2 / 1024)) && decide (ms a).Nodup &&
      !r.2.any fun x => decide (x < a) && (decide (leAt b x 2 = leAt b a 2) || (ms x).any fun v => (ms a).contains v)) bad
    needAll m.foot (fun v => r.2.any fun a => decide (leAt b a 2 = v)) fun _ => bad 0
    .ok { m with members := r.2.map fun a => (leAt b a 2, ms a) }

/-- The PROBE section (R339). -/
def readProbes (f : List Byte) (m : Image) : Except PatFail Image := do
  if (findSec f 0xC m.fold).isNone then .ok m
  else
    let b := secBytes f 0xC m.fold
    let n := leAt b 0 4
    need (decide (n ≤ 16384) && leAt b 4 4 == 0) ⟨Code.PATTERN_CHECK, 0xC, m.fold, 0⟩
    need (decide (8 + 8 * n ≤ b.length)) ⟨Code.LENGTH_EXCEEDS_BUFFER, 0xC, m.fold, 0⟩
    let at_ := fun (i : Nat) => 8 + 8 * i
    needAll (List.range n) (fun i => decide (leAt b (at_ i + 2) 2 < 3072) && leAt b (at_ i + 6) 2 == 0)
      fun i => ⟨Code.PATTERN_CHECK, 0xC, m.fold, at_ i⟩
    .ok { m with probes := (List.range n).map fun i =>
      ⟨leAt b (at_ i) 2, leAt b (at_ i + 2) 2, leAt b (at_ i + 4) 2⟩ }

/-- Inbound records of a SEAMMAP (R192): each record's offset, read from `a` on. -/
def seamIns (b : List Byte) (e : Nat → PatFail) (n a : Nat) : Except PatFail (List Nat) :=
  match n with
  | 0 => .ok []
  | n + 1 =>
    let size := 8 + roundUp (2 * leAt b (a + 4) 2) 8
    if b.length < a + 8 ∨ b.length < a + size then .error (e a)
    else
      match seamIns b e n (a + size) with
      | .ok l => .ok (a :: l)
      | .error x => .error x

/-- The SEAMMAP section (R192). -/
def readSeam (f : List Byte) (m : Image) : Except PatFail Image := do
  if (findSec f 0xD m.fold).isNone then .ok m
  else
    let b := secBytes f 0xD m.fold
    let bad := fun (a : Nat) => (⟨Code.PATTERN_CHECK, 0xD, m.fold, a⟩ : PatFail)
    let long := fun (a : Nat) => (⟨Code.LENGTH_EXCEEDS_BUFFER, 0xD, m.fold, a⟩ : PatFail)
    let nl := leAt b 10 1
    let no := leAt b 12 4
    let ni := leAt b 16 4
    need (decide (leAt b 8 1 < 64) && decide (1 ≤ leAt b 9 1 ∧ leAt b 9 1 < 64) && decide (1 ≤ nl ∧ nl ≤ 16) &&
      leAt b 11 1 == 0 && decide (no ≤ 3072) && decide (ni ≤ 3072) && (bytesAt b 20 12).all (fun x => x == 0)) (bad 0)
    need (decide (32 + 8 * nl + 8 * no ≤ b.length)) (long 0)
    let la := fun (i : Nat) => 32 + 8 * i
    let oa := fun (i : Nat) => 32 + 8 * nl + 8 * i
    let ins ← seamIns b long ni (oa no)
    needAll (List.range nl) (fun i => decide (leAt b (la i) 1 < 16) && decide (leAt b (la i + 1) 1 < 64) &&
      decide (leAt b (la i + 2) 1 < 16) && leAt b (la i + 3) 5 == 0) fun i => bad (la i)
    needAll (List.range no) (fun i => decide (leAt b (oa i) 2 < 3072) && leAt b (oa i + 3) 1 == 0 &&
      decide (leAt b (oa i + 4) 2 < 3072) && decide (1 ≤ leAt b (oa i + 6) 2 ∧ leAt b (oa i + 6) 2 ≤ 8192)) fun i => bad (oa i)
    let list := fun (a : Nat) => (List.range (leAt b (a + 4) 2)).map fun i => leAt b (a + 8 + 2 * i) 2
    needAll ins (fun a => decide (leAt b a 2 < 3072) && leAt b (a + 3) 1 == 0 && leAt b (a + 6) 2 == 0 &&
      ((bytesAt b (a + 8 + 2 * leAt b (a + 4) 2) (roundUp (2 * leAt b (a + 4) 2) 8 - 2 * leAt b (a + 4) 2)).all fun x => x == 0) &&
      (list a).all (fun x => decide (x < 8192)) && decide ((list a).Pairwise (· < ·))) bad
    let links : List SeamLink := (List.range nl).map fun i => ⟨leAt b (la i) 1, leAt b (la i + 1) 1, leAt b (la i + 2) 1⟩
    let outs : List SeamOut := (List.range no).map fun i =>
      ⟨leAt b (oa i) 2, leAt b (oa i + 2) 1, leAt b (oa i + 4) 2, leAt b (oa i + 6) 2⟩
    let inRecs : List SeamIn := ins.map fun a => ⟨leAt b a 2, leAt b (a + 2) 1, list a⟩
    .ok { m with seam := some ⟨leAt b 0 8, leAt b 8 1, leAt b 9 1, links, outs, inRecs⟩ }

/-- One image read whole (R166 to R170, R174, R192, R339). -/
def readImage (f : List Byte) (k : Nat) : Except PatFail Image := do
  need (decide (32 ≤ patSweep f) && decide (patSweep f ≤ 8192 / patFoldMax f)) (headFail Code.PATTERN_CHECK 0x20)
  let m : Image := { fold := k, len := k * patSweep f, foot := readFoot f k }
  let m ← readInstr f m
  let m ← readWarp f m
  let m ← readPtrs f m
  let m ← readDescs f m
  let m ← readCuts f m
  let m ← readMembers f m
  let m ← readProbes f m
  readSeam f m

end Sys2Proof.Machine
end

