-- ==== Sys2Proof/Machine/PatternCheck.lean ====
section
/-! DEFINITION. The loader's checks of an image (R183 step 4): the structure of its Warp routes (R123, R154), descriptors
(R132, R168), fold limits (R160), memory image and initial values (R169), cuts (R175), credits (R181), Seam and probe maps
(R191, R193, R195, R340), and the Cuff channels (R241). -/

namespace Sys2Proof.Machine

/-! ## Routes (R105, R114 to R116, R122) -/

/-- A route end: an input slot, or an outbound Seam channel (R105). -/
inductive RouteEnd where
  | slot (c : ClusterId) (j : Nat)
  | chan (ch : Nat)
deriving DecidableEq, Repr

/-- A state that holds only a Warp schedule memory, for the checks of an image. -/
def imgState (ws : List Host.Cell) : State := { wsched := ws }

/-- The cost of leaving through switch entry `n`, in quarter stitch times (R122), from the four fields of WRP_LAT. -/
def hopCost (lat : Word) (n : Nat) : Nat :=
  if n < 32 then 0
  else if n < 128 then fldGet lat F.WRP_LAT_LOCAL
  else if n < 160 then fldGet lat F.WRP_LAT_EXPRESS
  else if n < 176 then fldGet lat F.WRP_LAT_WEAVE_BRG
  else fldGet lat F.WRP_LAT_YOKE_BRG

/-- The ends of the route that leaves a source, each with the cost of its path, `q` before it (R122). -/
def endsFrom (s : State) (lat : Word) (fuel : Nat) (c : ClusterId) (src q : Nat) : List (RouteEnd × Nat) :=
  match fuel with
  | 0 => []
  | fuel + 1 =>
    (branchesOf s c src).flatMap fun n =>
      match landing c n with
      | .slot j => [(.slot c j, q)]
      | .track x t => endsFrom s lat fuel x t (q + hopCost lat n)
      | .bridge x t => endsFrom s lat fuel x t (q + hopCost lat n)
      | .yoke ch => [(.chan ch, q + hopCost lat n)]
      | .nowhere => []

/-- The ends of the route that an inbound Seam channel feeds: it has crossed from the Seam switch (R122, R189). -/
def inboundEnds (s : State) (lat : Word) (ch : Nat) : List (RouteEnd × Nat) :=
  endsFrom s lat routeFuel (inboundStage ch).1 (inboundStage ch).2 (fldGet lat F.WRP_LAT_YOKE_BRG)

/-- The positions and switch entries of the route that leaves a source. -/
def entriesFrom (s : State) (fuel : Nat) (c : ClusterId) (src : Nat) : List (ClusterId × Nat) :=
  match fuel with
  | 0 => []
  | fuel + 1 =>
    (branchesOf s c src).flatMap fun n =>
      (c, n) :: (match landing c n with
        | .track x t => entriesFrom s fuel x t
        | .bridge x t => entriesFrom s fuel x t
        | _ => [])

/-- A source code exists at a position and is not reserved (R115, R116). -/
def sourceExists (c : ClusterId) (src : Nat) : Bool :=
  if src < 0x20 then true
  else if src < 0xA0 then decide ((src - 0x20) % 0x20 < 24) && (neighbour c ((src - 0x20) / 0x20) 1).isSome
  else if src < 0xC0 then
    expressStop c ((src - 0xA0) / 8) && (match neighbour c ((src - 0xA0) / 8) 4 with
      | some x => expressStop x ((src - 0xA0) / 8)
      | none => false)
  else if src < 0xC8 then (columnBridge c).isSome
  else if src < 0xD0 then (rowBridge c).isSome
  else if src < 0xDC then (yokeIndex c).isSome
  else false

/-- The bridge of R117's table, and its track, that entry `n` (160 to 187) at a position uses. -/
def bridgeTrack (c : ClusterId) (n : Nat) : Nat × Nat :=
  let d := c.die.val
  if n < 168 then (if d < 2 then 0 else 6, 8 * c.row.val + (n - 160))
  else if n < 176 then (if d = 0 ∨ d = 2 then 1 else 5, 8 * c.col.val + (n - 168))
  else ([2, 3, 4, 7].getD d 2, 12 * (yokeIndex c).getD 0 + (n - 176))

/-- A bridge track lies in a partition's carve (R154). -/
def trackCarved (s : State) (p : Nat) (b : Nat × Nat) : Bool :=
  decide ((tracksOf s b.1 p).1 ≤ b.2) && decide (b.2 < (tracksOf s b.1 p).1 + (tracksOf s b.1 p).2)

/-- Producer stitches at which output slot `j` of a cluster sends, over a sweep of `len` stitches. -/
def sendList (w : State) (c : ClusterId) (j len : Nat) : List Nat := (List.range len).filter fun r => sendBit w c r j

/-- Stitches at which input slot `j` is popped. -/
def popList (w : State) (c : ClusterId) (j len : Nat) : List Nat := (List.range len).filter fun r => popBit w c r j

/-- Every route of an image that begins at an output slot: the virtual cluster, the slot, and its ends. -/
def imageRoutes (w : State) (m : Image) : List (Nat × Nat × List RouteEnd) :=
  m.foot.flatMap fun v => (List.range 32).filterMap fun j =>
    match (endsFrom w 0 routeFuel (vCluster v) j 0).map fun e => e.1 with
    | [] => none
    | l => some (v, j, l)

/-- The ends of the routes that begin on inbound Seam channels, by channel (R189). -/
def inboundRoutes (w : State) : List (Nat × List RouteEnd) :=
  (List.range 3072).filterMap fun ch =>
    match (inboundEnds w 0 ch).map fun e => e.1 with
    | [] => none
    | l => some (ch, l)

/-- The positions and switch entries of every route of an image, from its output slots and its inbound channels. -/
def routeEntries (w : State) (m : Image) (inb : List (Nat × List RouteEnd)) : List (ClusterId × Nat) :=
  (m.foot.flatMap fun v => (List.range 32).flatMap fun j => entriesFrom w routeFuel (vCluster v) j) ++
    inb.flatMap fun r => entriesFrom w routeFuel (inboundStage r.1).1 (inboundStage r.1).2

/-- The route that ends in an input slot of a cluster: its starting cluster and output slot. -/
def feederOf (routes : List (Nat × Nat × List RouteEnd)) (c : ClusterId) (j : Nat) : Option (Nat × Nat) :=
  (routes.find? fun r => r.2.2.contains (.slot c j)).map fun r => (r.1, r.2.1)

/-- The input slots that an instruction reads (R40): the selectors 0x80 to 0x9F among its general operands. -/
def slotReads (i : BpInstr) : List Nat :=
  let of := fun (l : List (BitVec 9)) =>
    (l.map fun x => x.toNat).filter (fun n => decide (0x80 ≤ n) && decide (n < 0xA0)) |>.map fun n => n - 0x80
  match i with
  | .lut _ a b c d _ _ => of [a, b, c, d]
  | .luts _ a b c _ _ _ => of [a, b, c]
  | _ => []

/-- An inbound bridge track that a position selects is used by its image: a track from the Yoke die starts a route (R189), and one
from a Weave die may carry the groups of the partition it is carved to. A track of no carve carries none (R116, R125). -/
def inTrackOk (s : State) (p : Nat) (w : State) (c : ClusterId) (k : Nat) : Bool :=
  let b := bridgeTrack c (160 + k)
  (branchesOf w c (0xC0 + k)).isEmpty || !sourceExists c (0xC0 + k) || trackCarved s p b ||
    (decide (k < 16) && !(List.range 16).any fun q => trackCarved s q b)

/-- The carve checks of a pattern's routes and footprint (R125, R154): the bridge tracks are those that its routes drive and those
that it takes groups from. An inert entry drives none (R116). -/
def checkCarve (s : State) (p : Nat) (w : State) (m : Image) (inb : List (Nat × List RouteEnd)) : Except PatFail Unit := do
  let out := fun (at_ : Nat) => (⟨Code.CARVE_EXCEEDED, 4, m.fold, at_⟩ : PatFail)
  needAll m.foot (fun v => rowInBand s p (vCluster v).die.val (vCluster v).row.val) fun v => ⟨Code.CARVE_EXCEEDED, 1, m.fold, v / 8⟩
  needAll m.passes (fun v => rowInBand s p (vCluster v).die.val (vCluster v).row.val) fun v => out (warpRecAt m v)
  needAll (routeEntries w m inb) (fun x => decide (x.2 < 160) || landing x.1 x.2 == .nowhere ||
    trackCarved s p (bridgeTrack x.1 x.2)) fun x => out (switchAt m (vNumber x.1) x.2)
  needAll ((m.foot ++ m.passes).flatMap fun v => (List.range 28).map fun k => (v, k))
    (fun x => inTrackOk s p w (vCluster x.1) x.2)
    fun x => out (switchAt m x.1 ((branchesOf w (vCluster x.1) (0xC0 + x.2)).headD 0))

/-- The structural rules of R123, and that no route ends in the cluster where it starts (R106). -/
def checkWarp (w : State) (m : Image) (routes : List (Nat × Nat × List RouteEnd)) (inb : List (Nat × List RouteEnd)) :
    Except PatFail Unit := do
  let bad := fun (at_ : Nat) => (⟨Code.PATTERN_CHECK, 4, m.fold, at_⟩ : PatFail)
  let cells := m.foot ++ m.passes
  let slots := m.foot.flatMap fun v => (List.range 32).map fun j => (v, j)
  let endAt := fun (e : RouteEnd) => match e with
    | .slot c j => bad (switchAt m (vNumber c) j)
    | .chan _ => bad 0
  needAll (cells.flatMap fun v => (List.range 188).map fun n => (v, n)) (fun x =>
    let e := switchEntry w (vCluster x.1) x.2
    decide (e / 0x8000 = 0) || (sourceExists (vCluster x.1) (e % 0x200) && decide (landing (vCluster x.1) x.2 ≠ .nowhere)))
    fun x => bad (switchAt m x.1 x.2)
  needAll (routeEntries w m inb) (fun x => match landing x.1 x.2 with
    | .track y t => !(branchesOf w y t).isEmpty
    | .bridge y t => !(branchesOf w y t).isEmpty
    | _ => true) fun x => bad (switchAt m (vNumber x.1) x.2)
  needAll slots (fun x => (sendList w (vCluster x.1) x.2 m.len).isEmpty || !(branchesOf w (vCluster x.1) x.2).isEmpty)
    fun x => bad (sendAt m x.1 ((sendList w (vCluster x.1) x.2 m.len).headD 0))
  needAll (routes.flatMap (fun r => r.2.2) ++ inb.flatMap (fun r => r.2)) (fun e => match e with
    | .slot c _ => decide (c.col.val < 32) && m.foot.contains (vNumber c)
    | .chan _ => true) endAt
  needAll (routes.flatMap fun r => r.2.2.map fun e => (r.1, e)) (fun x => match x.2 with
    | .slot c _ => decide (vCluster x.1 ≠ c)
    | .chan _ => true) fun x => endAt x.2
  needAll (slots.flatMap fun x => (acceptList w (vCluster x.1) x.2).map fun t => (x.1, x.2, t)) (fun x =>
    match feederOf routes (vCluster x.1) x.2.1 with
    | some (u, i) => decide (x.2.2 < m.len) && sendBit w (vCluster u) x.2.2 i
    | none => true) fun x => bad (acceptAt m x.1 x.2.1 x.2.2)
  needAll (slots.flatMap fun x => (List.range m.len).map fun t => (x.1, x.2, t)) (fun x =>
    let c := vCluster x.1
    (slotReads (decodeBp (imgSlot m x.1 x.2.1 x.2.2))).all fun j =>
      match (acceptList w c j)[((popList w c j m.len).filter fun r => decide (r < x.2.2)).length]? with
      | some a =>
        if (feederOf routes c j).isSome then decide (a < x.2.2) else inb.any fun r => r.2.contains (.slot c j)
      | none => false) fun x => ⟨Code.PATTERN_CHECK, 3, m.fold, slotAt m x.1 x.2.1 x.2.2⟩
  needAll slots (fun x =>
    (popList w (vCluster x.1) x.2 m.len).length == (acceptList w (vCluster x.1) x.2).length) fun x => bad (acceptAt m x.1 x.2 0)
  needAll slots (fun x =>
    let c := vCluster x.1
    let acc := acceptList w c x.2
    let pops := popList w c x.2 m.len
    (feederOf routes c x.2).isNone || (List.range m.len).all fun n =>
      let n8 := n + 8
      let a := n8 / m.len * acc.length + (acc.filter fun t => decide (t < n8 % m.len)).length
      let q := (pops.filter fun t => decide (t < n)).length
      decide (a ≤ q + 16)) fun x => bad (acceptAt m x.1 x.2 0)

/-! ## Descriptors (R132, R168) -/

/-- A descriptor relocated into partition `p`'s carve on its die (R168, R291): its table entry and its words, the owner still
a virtual cluster; none where it falls outside the carve. Of one that is not VALID, or whose KIND is reserved, nothing but the index
is relocated. -/
def relocate (s : State) (p die index : Nat) (d : BitVec 128) : Option (Nat × BitVec 128) :=
  let entry := oget s (Od.DESC_FIRST_W p die) + index
  if oget s (Od.DESC_COUNT_W p die) ≤ index then none
  else if !descValid d || decide (2 ≤ descKind d) then some (entry, d)
  else if descPocket d then
    let b := oget s (Od.BANK_FIRST_W p die)
    if oget s (Od.BANK_COUNT_W p die) < descBankFirst d + descBankCountM1 d + 1 then none
    else
      let first := b + descBankFirst d
      some (entry, (d &&& ~~~(BitVec.ofNat 128 (0x7FF <<< 64))) ||| BitVec.ofNat 128 (first <<< 64))
  else
    let rel := descHbmBase d
    let h := rel / 2 ^ 36
    let off := rel % 2 ^ 36
    let bytes := ((descDepthM1 d + 1) * descElemBits d + 7) / 8
    if 4 ≤ h ∨ carveDm s p h * 0x10000000 < off + bytes then none
    else
      let base := unitAddr h (carveFirst s p h) + off
      some (entry, (d &&& ~~~(BitVec.ofNat 128 (0xFFFFFFFFFFC0 <<< 64))) ||| BitVec.ofNat 128 (base <<< 64))

/-- The bits of storage that a relocated descriptor takes: (space, first bit, bits), the space a die's Pocket or HBM. -/
def descStorage (die : Nat) (d : BitVec 128) : Nat × Nat × Nat :=
  if descPocket d then (die, descBankFirst d * 262144, (descDepthM1 d + 1) * descElemBits d)
  else (4, 8 * descHbmBase d, (descDepthM1 d + 1) * descElemBits d)

/-- A memory fits its banks (R132). -/
def fitsBanks (d : BitVec 128) : Bool :=
  !descPocket d || (decide (descBankFirst d + descBankCountM1 d ≤ 2047) &&
    decide ((descDepthM1 d + 1) * descElemBits d ≤ (descBankCountM1 d + 1) * 262144))

/-- Every descriptor of an image relocated (R168): record offset, die, entry, words. -/
def relocated (s : State) (p : Nat) (m : Image) : List (Nat × Nat × Nat × BitVec 128) :=
  m.descs.filterMap fun d => (relocate s p d.2.1 d.2.2.1 d.2.2.2).map fun r => (d.1, d.2.1, r.1, r.2)

/-- The descriptors of an image relocated, and R132 applied in the order of its table (R168, R183 step 4). -/
def checkDescs (s : State) (p : Nat) (m : Image) : Except PatFail Unit := do
  let bad := fun (d : Nat × Nat × Nat × BitVec 128) => (⟨Code.PATTERN_CHECK, 6, m.fold, d.1⟩ : PatFail)
  needAll m.descs (fun d => (relocate s p d.2.1 d.2.2.1 d.2.2.2).isSome) fun d => ⟨Code.CARVE_EXCEEDED, 6, m.fold, d.1⟩
  let l := relocated s p m
  let live := l.filter fun d => descValid d.2.2.2
  let owner := fun (d : Nat × Nat × Nat × BitVec 128) => 1024 * d.2.1 + 32 * descOwnerCol d.2.2.2 + descOwnerRow d.2.2.2
  needAll l (fun d => !descEncodingBad d.2.2.2) bad
  needAll live (fun d => fitsBanks d.2.2.2) bad
  needAll live (fun d => decide (descOwnerCol d.2.2.2 < 32) && m.foot.contains (owner d)) bad
  needAll live (fun d => !descPocket d.2.2.2 || live.all fun x =>
    !descPocket x.2.2.2 || decide (x.2.1 ≠ d.2.1) || decide (owner x = owner d) ||
    !rangesMeet (descBankFirst x.2.2.2, descBankCountM1 x.2.2.2 + 1) (descBankFirst d.2.2.2, descBankCountM1 d.2.2.2 + 1)) bad
  needAll live (fun d => live.all fun x =>
    decide (d.1 ≤ x.1) || (descRo d.2.2.2 && descRo x.2.2.2) ||
    (let a := descStorage d.2.1 d.2.2.2
     let b := descStorage x.2.1 x.2.2.2
     decide (a.1 ≠ b.1) || !rangesMeet a.2 b.2)) bad
  needAll m.slots (fun e =>
    let v := e.1 / 8192 / 32
    let ok := fun (i : Nat) => m.descs.any fun d =>
      decide (d.2.1 = v / 1024) && decide (d.2.2.1 = i) && descValid d.2.2.2 &&
      decide (1024 * d.2.1 + 32 * descOwnerCol d.2.2.2 + descOwnerRow d.2.2.2 = v)
    match decodeBp e.2 with
    | .drd i .. => ok i.toNat
    | .dwr i .. => ok i.toNat
    | _ => true) fun e => ⟨Code.PATTERN_CHECK, 3, m.fold, slotAt m (e.1 / 8192 / 32) (e.1 / 8192 % 32) (e.1 % 8192)⟩

/-! ## Fold limits (R160) -/

/-- What one BP has used so far: page, SW and DW pointers, and whether every address lay within the limits. -/
structure FoldUse where
  page : Nat
  sw   : Nat
  dw   : Nat
  ok   : Bool

/-- One instruction's use, under limits of 1/f of each store (R160). -/
def foldUse (f : Nat) (u : FoldUse) (i : BpInstr) : FoldUse :=
  let st := fun (a : Nat) => decide (a < 65536 / f)
  let dm := fun (a : Nat) => decide (a < 16384 / f)
  let wf := fun (e : BitVec 10) => decide (e.toNat < 1024 / f)
  let sel := fun (x : BitVec 9) => decide (x.toNat < 0x100) || dm (u.page * 256 + x.toNat % 256)
  let put := fun (u : FoldUse) (sw dw : Bool) =>
    let u := if sw then { u with sw := (u.sw + 1) % 65536, ok := u.ok && st u.sw } else u
    if dw then { u with dw := (u.dw + 1) % 16384, ok := u.ok && dm u.dw } else u
  match i with
  | .lut _ a b c d sw dw => put { u with ok := u.ok && sel a && sel b && sel c && sel d } sw dw
  | .luts _ a b c sw dw sa => put { u with ok := u.ok && sel a && sel b && sel c && st sa.toNat } sw dw
  | .word op x =>
    { u with ok := u.ok && (decide (x.asrc ≠ 0) || wf x.af) && (!usesB op || decide (x.bsrc ≠ 0) || wf x.bf) &&
        (x.nwb || decide (op = WordOp.cmp) || wf x.df) }
  | .drd _ a d _ _ => { u with ok := u.ok && wf a && wf d }
  | .dwr _ a d _ _ k me => { u with ok := u.ok && wf a && wf d && (!me || wf k) }
  | .ldsw a d => { u with ok := u.ok && st (32 * a.toNat + 31) && wf d }
  | .stsw a x _ _ => { u with ok := u.ok && st (32 * a.toNat + 31) && wf x }
  | .setpg n => { u with page := n.toNat }
  | _ => u

/-- The first stitch at which a logical BP of the unfolded image breaks a limit of FOLD_MAX `f` (R160). -/
def foldBreak (m : Image) (f v b : Nat) : Option Nat :=
  let w := sget (fun _ => 0) m.ptrs (v * 32 + b)
  let start : FoldUse := ⟨0, fldGet w F.BP_PTRBASE_SWBASE, fldGet w F.BP_PTRBASE_DWBASE, true⟩
  ((List.range m.len).foldl (fun x t =>
    let u := foldUse f x.1 (decodeBp (imgSlot m v b t))
    (u, if x.2.isNone && !u.ok then some t else x.2)) (start, none)).2

/-- An unfolded image keeps within the limits of FOLD_MAX `f` (R160). -/
def checkFold (m : Image) (f : Nat) : Except PatFail Unit :=
  if f = 1 then .ok ()
  else needAll (m.foot.flatMap fun v => (List.range 32).map fun b => (v, b)) (fun x => (foldBreak m f x.1 x.2).isNone)
    fun x => ⟨Code.PATTERN_CHECK, 3, m.fold, slotAt m x.1 x.2 ((foldBreak m f x.1 x.2).getD 0)⟩

/-! ## Memory image and initial values (R169) -/

/-- The descriptor of the unfolded image with a die and pattern index. -/
def patDesc (m : Image) (die index : Nat) : Option (BitVec 128) :=
  (m.descs.find? fun d => decide (d.2.1 = die) && decide (d.2.2.1 = index)).map fun d => d.2.2.2

/-- Element size in bits of a MEMIMG record's descriptor; 0 where there is none. -/
def memElem (m : Image) (b : List Byte) (a : Nat) : Nat :=
  match patDesc m (leAt b a 1) (leAt b (a + 2) 2) with
  | some d => descElemBits d
  | none => 0

/-- Bytes of a MEMIMG record. -/
def memRecSize (m : Image) (b : List Byte) (a : Nat) : Nat :=
  16 + roundUp ((leAt b (a + 8) 4 * memElem m b a + 7) / 8) 8

/-- Element `j` of a MEMIMG record with elements of `e` bits. -/
def memRecElem (b : List Byte) (a e j : Nat) : Nat := leAt b (a + 16 + j * e / 8) 4 / 2 ^ (j * e % 8) % 2 ^ e

/-- The MEMIMG section's records, checked (R169): bytes and record offsets. -/
def checkMemImg (f : List Byte) (m : Image) : Except PatFail (List Byte × List Nat) := do
  let r ← recordsOf f 7 0 16 (memRecSize m)
  let b := r.1
  needAll r.2 (fun a => leAt b (a + 1) 1 == 0 && leAt b (a + 12) 4 == 0 &&
    match patDesc m (leAt b a 1) (leAt b (a + 2) 2) with
    | some d => descValid d && decide (leAt b (a + 4) 4 + leAt b (a + 8) 4 ≤ descDepthM1 d + 1) &&
        decide (leAt b (a + 16) (memRecSize m b a - 16) / 2 ^ (leAt b (a + 8) 4 * descElemBits d) = 0) &&
        (List.range (leAt b (a + 8) 4)).all fun j => decide (memRecElem b a (descElemBits d) j < 2 ^ descWidth d)
    | none => false) fun a => ⟨Code.PATTERN_CHECK, 7, 0, a⟩
  .ok r

/-- The INITSTATE section's records, checked (R169): bytes and record offsets. `fm` is FOLD_MAX. -/
def checkInit (f : List Byte) (m : Image) (fm : Nat) : Except PatFail (List Byte × List Nat) := do
  let r ← recordsOf f 8 0 16 fun b a => 16 + roundUp (leAt b (a + 8) 4) 8
  let b := r.1
  let kind := fun (a : Nat) => leAt b (a + 2) 1
  let size := fun (a : Nat) => [8192, 2048, 4096].getD (kind a) 0
  let end_ := fun (a : Nat) => leAt b (a + 4) 4 + leAt b (a + 8) 4
  let bad := fun (a : Nat) => (⟨Code.PATTERN_CHECK, 8, 0, a⟩ : PatFail)
  needAll r.2 (fun a => m.foot.contains (leAt b a 2) && decide (kind a ≤ 2) && leAt b (a + 12) 4 == 0 &&
    (if kind a = 1 then decide (leAt b (a + 3) 1 < 32) else leAt b (a + 3) 1 == 0)) bad
  needAll r.2 (fun a => decide (end_ a ≤ size a)) fun a => ⟨Code.LENGTH_EXCEEDS_BUFFER, 8, 0, a⟩
  needAll r.2 (fun a => decide (end_ a ≤ size a / fm)) bad
  .ok r

/-! ## Cuts (R174, R175) -/

/-- The oldest stitch that an instruction at stitch `t` reaches through the window: `t` less 1 less the age, plus 4 so that it
stays a number; `t` + 4 where it reaches none (R40, R41, R58). -/
def windowReach (t : Nat) (i : BpInstr) : Nat :=
  let ops := fun (l : List (BitVec 9)) =>
    (l.map fun x => x.toNat).filter (fun n => decide (n < 0x80)) |>.map fun n => t + 3 - n / 32
  let idx := fun (x : BitVec 7) => [t + 3 - x.toNat / 32]
  let l := match i with
    | .lut _ a b c d _ _ => ops [a, b, c, d]
    | .luts _ a b c _ _ _ => ops [a, b, c]
    | .word op f =>
      (if f.asrc = 1 then [t + 3 - f.af.toNat % 4] else []) ++ (if f.bsrc = 3 then [t + 3 - f.bf.toNat % 4] else []) ++
      (if op = WordOp.sel then idx f.csel else [])
    | .drd _ _ _ wc wb => if wc then idx wb else []
    | .dwr _ _ _ wc wb _ _ => if wc then idx wb else []
    | .stsw _ _ wc wb => if wc then idx wb else []
    | .brk u x => if u then [] else idx x
    | .mark _ u x => if u then [] else idx x
    | _ => []
  l.foldl min (t + 4)

/-- The padding of a cut: n (R174). -/
def cutPad (c : Nat × Nat × Nat × Nat) : Nat := max c.2.2.1 c.2.2.2

/-- The conditions of R174 and R175. -/
def checkCuts (w : State) (m : Image) : Except PatFail Unit := do
  let bad := fun (c : Nat × Nat × Nat × Nat) => (⟨Code.PATTERN_CHECK, 0xA, m.fold, c.1⟩ : PatFail)
  needAll m.cuts (fun c => decide (c.2.2.1 ≤ 15) && decide (c.2.2.2 ≤ 15) && decide (1 ≤ cutPad c) &&
    decide (cutPad c ≤ c.2.1) && decide (c.2.1 ≤ m.len)) bad
  needAll m.cuts (fun c => (List.range (cutPad c)).all fun i =>
    let t := c.2.1 - cutPad c + i
    m.foot.all fun v =>
      (List.range 32).all fun b =>
        decide (decodeBp (imgSlot m v b t) = .nop) && !sendBit w (vCluster v) t b && !popBit w (vCluster v) t b) bad
  needAll m.cuts (fun c => m.foot.all fun v => (List.range 32).all fun b => (List.range 4).all fun i =>
    decide (c.2.1 + 4 ≤ windowReach (c.2.1 + i) (decodeBp (imgSlot m v b (c.2.1 + i))))) bad
  needAll m.cuts (fun c => m.cuts.all fun x =>
    decide (x.1 = c.1) || !rangesMeet (x.2.1 - cutPad x, cutPad x) (c.2.1 - cutPad c, cutPad c)) bad
  needAll m.cuts (fun _ => decide (32 + (m.cuts.map fun c => c.2.2.1).sum ≤ m.len) &&
    decide (32 + (m.cuts.map fun c => c.2.2.2).sum ≤ m.len)) bad

/-! ## Credits (R179, R181) -/

/-- The credits of one slot of an image (R179). -/
def slotCredits (m : Image) (v : Nat) (w : Slot) : Nat :=
  let hbm := fun (i : Nat) => (m.descs.find? fun d => decide (d.2.1 = v / 1024) && decide (d.2.2.1 = i)).any
    fun d => !descPocket d.2.2.2
  match decodeBp w with
  | .word .mulu _ => 4
  | .word .muls _ => 4
  | .word .. => 1
  | .drd i .. => if hbm i.toNat then 16 else 0
  | .dwr i .. => if hbm i.toNat then 24 else 0
  | _ => 0

/-- The credits of a range of stitches on a die (R181). -/
def dieCredits (m : Image) (die lo hi : Nat) : Nat :=
  (m.slots.map fun e =>
    let v := e.1 / 8192 / 32
    if v / 1024 = die ∧ lo ≤ e.1 % 8192 ∧ e.1 % 8192 < hi then slotCredits m v e.2 else 0).sum

/-- The CREDIT section against the instructions (R181). -/
def checkCredit (f : List Byte) (m : Image) : Except PatFail Unit := do
  let b := secBytes f 9 m.fold
  let n := (m.len + 63) / 64
  let bad := fun (a : Nat) => (⟨Code.PATTERN_CHECK, 9, m.fold, a⟩ : PatFail)
  need (decide (8 ≤ b.length)) ⟨Code.LENGTH_EXCEEDS_BUFFER, 9, m.fold, 0⟩
  need (leAt b 0 2 == n && leAt b 2 6 == 0) (bad 0)
  need (decide (8 + 16 * n ≤ b.length)) ⟨Code.LENGTH_EXCEEDS_BUFFER, 9, m.fold, 0⟩
  needAll (List.range (4 * n)) (fun i => leAt b (8 + 4 * i) 4 == dieCredits m (i / n) (64 * (i % n)) (64 * (i % n) + 64))
    fun i => bad (8 + 4 * i)

/-! ## Seam, probe and Cuff channels (R191, R193, R195, R241, R340) -/

/-- The channels of a partition's Cuff channel tables in a set of frames: (DIR, CHAN, TAG_STITCH). -/
def cuffChans (s : State) (m : List Host.Cell) (p : Nat) : List (Nat × Nat × Nat) :=
  ((List.range 32).filter fun i => decide (slotPart s i = some p) && decide (ctlMode m i = 1)).flatMap fun i =>
    (List.range 2).flatMap fun d => (slotChans m i d).map fun c => (d, c.1, c.2.1)

/-- Outbound channels that an image's routes use, each with the values it sends in a sweep. -/
def outChans (w : State) (m : Image) (routes : List (Nat × Nat × List RouteEnd)) : List (Nat × Nat) :=
  routes.flatMap fun r => r.2.2.filterMap fun e => match e with
    | .chan ch => some (ch, (sendList w (vCluster r.1) r.2.1 m.len).length)
    | .slot .. => none

/-- The stitches that the ends fed by an inbound channel accept, together. -/
def inboundAccepts (w : State) (ends : List RouteEnd) : List Nat :=
  (List.range 8192).filter fun t => ends.any fun e => match e with
    | .slot c j => acceptBit w c j t
    | .chan _ => false

/-- Bits of the channel store that a SEAMMAP's rings take (R195). -/
def ringBits (x : SeamMap) : Nat := (x.ins.map fun i => roundUp (2 * i.stitches.length) 64).sum

/-- The offset in the SEAMMAP section of a map's outbound record `i`, and of its inbound record `i` (R192). -/
def seamOutAt (x : SeamMap) (i : Nat) : Nat := 32 + 8 * x.links.length + 8 * i
def seamInAt (x : SeamMap) (i : Nat) : Nat :=
  seamOutAt x x.outs.length + ((x.ins.take i).map fun r => 8 + roundUp (2 * r.stitches.length) 8).sum

/-- The rules of R191, R193 and R195. A channel of a Warp route with no record here is the Cuff's or the probes' (R241, R340). -/
def checkSeam (s : State) (p : Nat) (w : State) (m first : Image) (routes : List (Nat × Nat × List RouteEnd))
    (inb : List (Nat × List RouteEnd)) : Except PatFail Unit := do
  let bad := fun (at_ : Nat) => (⟨Code.PATTERN_CHECK, 0xD, m.fold, at_⟩ : PatFail)
  match m.seam with
  | none => need first.seam.isNone (bad 0)
  | some x =>
    match first.seam with
    | none => .error (bad 0)
    | some y =>
      need (decide (x.emulation = y.emulation ∧ x.module = y.module ∧ x.diameter = y.diameter ∧ x.links = y.links ∧
        x.outs.length = y.outs.length ∧ x.ins.length = y.ins.length)) (bad 0)
    needAll x.links.zipIdx (fun l => decide (l.1.peerModule ≠ x.module) &&
      decide ((x.links.filter fun k => decide (k.link = l.1.link)).length = 1)) fun l => bad (32 + 8 * l.2)
    needAll x.links.zipIdx (fun l => decide (oget s (Od.LINKS p) / 2 ^ linkPort s l.1.link % 2 = 1))
      fun l => ⟨Code.CARVE_EXCEEDED, 0xD, m.fold, 32 + 8 * l.2⟩
    let listed := fun (l : Nat) => x.links.any fun k => decide (k.link = l)
    needAll x.outs.zipIdx (fun o => listed o.1.link &&
      decide ((x.outs.filter fun k => decide (k.channel = o.1.channel)).length = 1)) fun o => bad (seamOutAt x o.2)
    needAll x.ins.zipIdx (fun o => listed o.1.link &&
      decide ((x.ins.filter fun k => decide (k.channel = o.1.channel)).length = 1)) fun o => bad (seamInAt x o.2)
    needAll x.outs.zipIdx (fun o => (outChans w m routes).any fun c => decide (c = (o.1.channel, o.1.count)))
      fun o => bad (seamOutAt x o.2)
    needAll x.ins.zipIdx (fun i => match inb.find? fun r => decide (r.1 = i.1.channel) with
      | some r => decide (inboundAccepts w r.2 = i.1.stitches)
      | none => false) fun i => bad (seamInAt x i.2)
    need (decide (ringBits x ≤ 1024 * oget s (Od.STORE_KBIT p))) ⟨Code.SEAM_STORE, 0xD, m.fold, 0⟩

/-- Some Cuff region of the partition has been committed or is named by the stream (R241, R267). -/
def cuffPresent (s : State) (p mask : Nat) : Bool :=
  (List.range 16).any fun r => decide (oget s (Od.REGIONS p) / 2 ^ r % 2 = 1) &&
    (decide (fget s Reg.CFG_REGION F.CFG_REGION_FIRST / 2 ^ r % 2 = 1) || decide (mask / 2 ^ r % 2 = 1))

/-- The rules of R340. `whole` says that the Cuff configuration stands: where the pattern comes first, an outbound channel that nothing
claims yet is left for the Cuff's commit to claim (R241; DESIGN CHOICE, log 89). -/
def checkProbes (s : State) (p : Nat) (m : Image) (outs : List (Nat × Nat)) (cuff : List (Nat × Nat × Nat)) (whole : Bool) :
    Except PatFail Unit := do
  let at_ := fun (code : Nat) (r : ProbeRec × Nat) => (⟨code, 0xC, m.fold, 8 + 8 * r.2⟩ : PatFail)
  needAll m.probes.zipIdx (fun r => decide (r.1.probe < oget s (Od.ACQ_PROBE_COUNT p))) (at_ Code.CARVE_EXCEEDED)
  needAll m.probes.zipIdx (fun r => decide ((m.probes.filter fun x => decide (x.probe = r.1.probe)).length = 1) &&
    decide ((m.probes.filter fun x => decide (x.channel = r.1.channel) && decide (x.index = r.1.index)).length = 1))
    (at_ Code.PATTERN_CHECK)
  needAll m.probes.zipIdx (fun r => outs.any fun c => decide (c.1 = r.1.channel) && decide (r.1.index < c.2))
    (at_ Code.PATTERN_CHECK)
  needAll outs (fun c =>
    let seam := match m.seam with
      | some x => x.outs.any fun o => decide (o.channel = c.1)
      | none => false
    let cu := cuff.any fun x => decide (x.1 = 1) && decide (x.2.1 = c.1)
    let pr := m.probes.any fun x => decide (x.channel = c.1)
    let n : Nat := (if seam then 1 else 0) + (if cu then 1 else 0) + (if pr then 1 else 0)
    decide (n = 1) || (!whole && decide (n = 0)))
    fun _ => ⟨Code.PROBE_MAP_CONFLICT, 0xC, m.fold, 0⟩

/-- An entry of a channel table, DIR, CHAN and TAG_STITCH, keeps R241 with an image: its channel is claimed once in its direction, the
ends that an inbound one feeds accept exactly its stitch, and the route that feeds an outbound one sends one value a sweep. -/
def cuffEntryOk (w : State) (m : Image) (outs : List (Nat × Nat)) (inb : List (Nat × List RouteEnd))
    (cuff : List (Nat × Nat × Nat)) (c : Nat × Nat × Nat) : Bool :=
  let seamUses := match m.seam with
    | some x => if c.1 = 0 then x.ins.any fun i => decide (i.channel = c.2.1) else x.outs.any fun o => decide (o.channel = c.2.1)
    | none => false
  !seamUses && decide ((cuff.filter fun x => decide (x.1 = c.1) && decide (x.2.1 = c.2.1)).length = 1) &&
  (if c.1 = 0 then
    match inb.find? fun r => decide (r.1 = c.2.1) with
    | some r => r.2.all fun e => match e with
      | .slot x j => decide (acceptList w x j = [c.2.2])
      | .chan _ => true
    | none => true
   else outs.all fun o => decide (o.1 ≠ c.2.1) || decide (o.2 = 1))

/-- Every channel that an image's routes use for the Cuff, neither the Seam's nor the probes', has an entry of a channel table
(R241). -/
def cuffRoutesOk (m : Image) (outs : List (Nat × Nat)) (inb : List (Nat × List RouteEnd)) (cuff : List (Nat × Nat × Nat)) : Bool :=
  let seamUses := fun (d ch : Nat) => match m.seam with
    | some x => if d = 0 then x.ins.any fun i => decide (i.channel = ch) else x.outs.any fun o => decide (o.channel = ch)
    | none => false
  (inb.all fun r => seamUses 0 r.1 || cuff.any fun c => decide (c.1 = 0) && decide (c.2.1 = r.1)) &&
  (outs.all fun o => seamUses 1 o.1 || (m.probes.any fun x => decide (x.channel = o.1)) ||
    cuff.any fun c => decide (c.1 = 1) && decide (c.2.1 = o.1))

/-! ## Step 4 of R183 -/

/-- Every unfolded footprint cluster is a member of some fold cluster (R159, R161). -/
def checkMembers (first m : Image) : Except PatFail Unit :=
  needAll first.foot (fun v => m.members.any fun r => r.2.contains v) fun _ => ⟨Code.PATTERN_CHECK, 0xB, m.fold, 0⟩

/-- One image's checks but for its descriptors, given the unfolded image, the frames that will be committed and whether they hold the
partition's Cuff configuration (R183 step 4). -/
def checkImage (s : State) (p : Nat) (f : List Byte) (frames : List Host.Cell) (whole : Bool) (first m : Image) :
    Except PatFail Unit := do
  let w := imgState m.ws
  let routes := imageRoutes w m
  let inb := inboundRoutes w
  checkMembers first m
  checkCarve s p w m inb
  checkWarp w m routes inb
  if m.fold = 1 then do
    checkFold m (patFoldMax f)
    let _ ← checkMemImg f m
    let _ ← checkInit f m (patFoldMax f)
  checkCuts w m
  checkCredit f m
  checkSeam s p w m first routes inb
  checkProbes s p m (outChans w m routes) (cuffChans s frames p) whole

/-- Images read in the order of a list of fold factors. -/
def readImages (f : List Byte) (l : List Nat) : Except PatFail (List Image) :=
  match l with
  | [] => .ok []
  | k :: rest => do
    let m ← readImage f k
    let ms ← readImages f rest
    .ok (m :: ms)

/-- Steps 2 to 4 of R183: the file's images, every one checked, then the descriptors of every one relocated and checked. `mask` names
the regions of the stream that carries the file, and `frames` is what it would leave committed. -/
def checkPattern (s : State) (p : Nat) (f : List Byte) (n : Nat) (frames : List Host.Cell) (mask : Nat) :
    Except PatFail (List Image) := do
  checkFile f n
  checkLatency f
  let first ← readImage f 1
  let l ← readImages f (patFolds f)
  eachOk l (checkImage s p f frames (cuffPresent s p mask) first)
  eachOk l (checkDescs s p)
  .ok l

end Sys2Proof.Machine
end

