-- ==== Sys2Proof/Machine/PatternLoad.lean ====
section
/-! DEFINITION. Mapping, re-timing, writing and committing a pattern (R155 to R162, R173 to R177, R183 steps 5 to 9). -/

namespace Sys2Proof.Machine

/-! ## Mapping (R155, R156) -/

/-- A cluster of a partition's band that no footprint cluster uses and the Lining has not retired. -/
def spareFree (s : State) (p : Nat) (used : List ClusterId) (c : ClusterId) : Bool :=
  rowInBand s p c.die.val c.row.val && !(getCl s c.idx).retired && !used.contains c

/-- The distance of two rows. -/
def rowDistance (a b : Nat) : Nat := max a b - min a b

/-- The spare cluster that replaces a cluster: the nearest row of column 32, on a tie the lower (R155 order 3). -/
def pickSpare (s : State) (p : Nat) (used : List ClusterId) (c : ClusterId) : Option ClusterId :=
  ((List.finRange 32).map fun r => (⟨c.die, 32, r⟩ : ClusterId)).foldl (fun best x =>
    if spareFree s p used x then
      match best with
      | some b => if rowDistance x.row.val c.row.val < rowDistance b.row.val c.row.val then some x else best
      | none => some x
    else best) none

/-- Footprint clusters placed in ascending number (R155 orders 1 to 3): each stays where `cur` has it while that cluster is
good, and takes a spare otherwise. `used` starts as the clusters that good ones keep. -/
def placeAll (s : State) (p : Nat) (cur : Nat → ClusterId) (used : List ClusterId) (l : List Nat) :
    Option (List (Nat × ClusterId)) :=
  match l with
  | [] => some []
  | v :: rest =>
    if (getCl s (cur v).idx).retired then
      match pickSpare s p used (vCluster v) with
      | some c => (placeAll s p cur (c :: used) rest).map fun t => (v, c) :: t
      | none => none
    else (placeAll s p cur used rest).map fun t => (v, cur v) :: t

/-- A placement of a footprint. -/
def placeFoot (s : State) (p : Nat) (cur : Nat → ClusterId) (foot : List Nat) : Option (List (Nat × ClusterId)) :=
  placeAll s p cur ((foot.map cur).filter fun c => !(getCl s c.idx).retired) foot

/-- Where a placement puts a footprint cluster. -/
def placedAt (l : List (Nat × ClusterId)) (v : Nat) : ClusterId :=
  match l.find? fun e => decide (e.1 = v) with
  | some e => e.2
  | none => vCluster v

/-- A route end after a move of clusters. -/
def moveEnd (moved : List (ClusterId × ClusterId)) (e : RouteEnd) : RouteEnd :=
  match e with
  | .slot c j => .slot ((moved.find? fun m => decide (m.1 = c)).elim c fun m => m.2) j
  | .chan ch => .chan ch

/-- Two lists of route ends hold the same ends. -/
def sameEnds (a b : List RouteEnd) : Bool := (a.all fun e => b.contains e) && b.all fun e => a.contains e

/-- The schedule memory after moves: each moved cluster's SEND, POP and ACCEPT at its new position, and the changed switch
entries. -/
def moveBlocks (ws : List Host.Cell) (moved : List (ClusterId × ClusterId)) (ch : List SwitchChange) : List Host.Cell :=
  let w := moved.foldl (fun w m =>
    (sslice w (wsBase m.1) (wsBase m.1 + 0x18000)).foldl
      (fun w e => sset memDefault w (wsBase m.2 + (e.1 - wsBase m.1)) e.2)
      (sclear (sclear w (wsBase m.2) (wsBase m.2 + 0x18000)) (wsBase m.1) (wsBase m.1 + 0x18000))) ws
  ch.foldl (fun w x => swriteLE memDefault w (wsBase x.c + 0x18000 + 2 * x.entry.val) 2 x.value.toNat) w

/-- The enabled switch entries of some positions, on a route or inert (R116). -/
def enabledEntries (w : State) (cells : List ClusterId) : List (ClusterId × Nat) :=
  cells.flatMap fun c => ((List.range 188).filter fun n => decide (switchEntry w c n / 0x8000 = 1)).map fun n => (c, n)

/-- A position sends or takes a group over a bridge track found faulty that no spare replaces (R121, R391). -/
def usesDead (s : State) (w : State) (c : ClusterId) : Bool :=
  s.deadTracks.any fun x => (List.range 28).any fun k =>
    decide (bridgeTrack c (160 + k) = (bridgeNo x.1 x.2.1, x.2.2.2)) &&
    (if (bridgeOf c (160 + k)).2.2 = x.2.2.1 then
      decide (switchEntry w c (160 + k) / 0x8000 = 1) && decide (landing c (160 + k) ≠ .nowhere)
     else decide (16 ≤ k) && !(branchesOf w c (0xC0 + k)).isEmpty)

/-- Re-derived routes (R155 order 3, R156): accepted where every route keeps its ends at their new places, routes that touch
no moved cluster keep their entries, and new track segments are local or express, of the partition's own positions, and driven by
no other enabled entry, an inert one among them (R116). No route may use a bridge track that R121 has given up. -/
def rewire (s : State) (p : Nat) (ws : List Host.Cell) (foot : List Nat) (cur new : Nat → ClusterId)
    (ch : List SwitchChange) : Option (List Host.Cell) :=
  let moved := (foot.filter fun v => decide (cur v ≠ new v)).map fun v => (cur v, new v)
  let band := partClusters s p
  let dead := fun (w : State) => !s.deadTracks.isEmpty && band.any (usesDead s w)
  if moved.isEmpty && !dead (imgState ws) then some ws
  else
    let ws' := moveBlocks ws moved ch
    let w := imgState ws
    let w' := imgState ws'
    let ends := fun (w : State) (c : ClusterId) (j : Nat) => (endsFrom w 0 routeFuel c j 0).map fun e => e.1
    let touches := fun (c : ClusterId) (l : List RouteEnd) => (moved.any fun m => decide (m.1 = c)) || l.any fun e => match e with
      | .slot x _ => moved.any fun m => decide (m.1 = x)
      | .chan _ => false
    let starts := (foot.flatMap fun v => (List.range 32).map fun j => (cur v, new v, j)) ++
      (inboundRoutes w).map fun r => ((inboundStage r.1).1, (inboundStage r.1).1, (inboundStage r.1).2)
    let loose := starts.flatMap fun x => if touches x.1 (ends w x.1 x.2.2) then entriesFrom w routeFuel x.1 x.2.2 else []
    let held := (enabledEntries w band).filter fun x => !loose.contains x
    let okRoute := fun (c c' : ClusterId) (j : Nat) =>
      sameEnds ((ends w c j).map (moveEnd moved)) (ends w' c' j) &&
      (if touches c (ends w c j) then
        (entriesFrom w' routeFuel c' j).all fun x => !held.contains x &&
          (decide (x.2 < 160) || (entriesFrom w routeFuel c j).contains x)
       else (entriesFrom w routeFuel c j).all fun x => switchEntry w' x.1 x.2 == switchEntry w x.1 x.2)
    if (ch.all fun x => rowInBand s p x.c.die.val x.c.row.val) && (starts.all fun x => okRoute x.1 x.2.1 x.2.2) &&
        !dead w' then
      some ws' else none

/-- An image mapped: its placement and its schedule memory at physical positions. -/
def mapImage (s : State) (p : Nat) (m : Image) (ch : List SwitchChange) :
    Option (List (Nat × ClusterId) × List Host.Cell) :=
  match placeFoot s p vCluster m.foot with
  | some l =>
    match rewire s p m.ws m.foot vCluster (placedAt l) ch with
    | some w => some (l, w)
    | none => none
  | none => none

/-- The first image that maps, in ascending fold factor up to FOLD_LIMIT (R155 orders 4 and 5, R162). `ch` gives the re-derived
entries of each image tried. -/
def mapFirst (s : State) (p : Nat) (l : List Image) (ch : List (List SwitchChange)) :
    Option (Image × List (Nat × ClusterId) × List Host.Cell) :=
  match l with
  | [] => none
  | m :: rest =>
    if oget s (Od.FOLD_LIMIT p) < m.fold then none
    else
      match mapImage s p m (ch.headD []) with
      | some r => some (m, r)
      | none => mapFirst s p rest ch.tail

/-! ## Re-timing (R174 to R177) -/

/-- The stitches that re-timing removes on this stepping. -/
def removedStitches (s : State) (p : Nat) (m : Image) : List Nat :=
  if oget s (Od.RETIME_ENABLE p) = 0 then []
  else m.cuts.flatMap fun c =>
    let n := match Config.stepping with
      | .a0 => c.2.2.1
      | .b0 => c.2.2.2
    (List.range n).map fun i => c.2.1 - n + i

/-- The image stitches that remain, in executed order. -/
def keptStitches (m : Image) (removed : List Nat) : List Nat := (List.range m.len).filter fun t => !removed.contains t

/-- The executed number of an image stitch. -/
def newStitch (removed : List Nat) (t : Nat) : Nat := t - (removed.filter fun r => decide (r < t)).length

/-- The schedule memory of a placed cluster re-timed: rows of SEND and POP, and ACCEPT bits but for slots that a Seam channel
feeds (R176, R194). -/
def retimeCluster (ws : List Host.Cell) (removed kept : List Nat) (c : ClusterId) : List Host.Cell :=
  let w := imgState ws
  let rows := fun (off : Nat) (ws' : List Host.Cell) =>
    kept.zipIdx.foldl (fun ws' x =>
      swriteLE memDefault ws' (wsBase c + off + 4 * x.2) 4 (sreadLE memDefault ws (wsBase c + off + 4 * x.1) 4))
      (sclear ws' (wsBase c + off) (wsBase c + off + 0x8000))
  let ws' := rows 0x8000 (rows 0 ws)
  (List.range 32).foldl (fun ws' j =>
    if slotFromSeam w c j then ws'
    else
      let a := wsBase c + 0x10000 + 0x400 * j
      (acceptList w c j).foldl (fun ws' t =>
        let n := newStitch removed t
        sset memDefault ws' (a + n / 8) (byteSetBit (sget memDefault ws' (a + n / 8)) (n % 8) true))
        (sclear ws' a (a + 0x400))) ws'

/-! ## The golden copy -/

/-- A slot as loaded: `b` added to the DESC field of DRD and DWR (R168). -/
def relocSlot (w : Slot) (b : Nat) : Slot :=
  match decodeBp w with
  | .drd .. => w + BitVec.ofNat 64 (b * 2 ^ 41)
  | .dwr .. => w + BitVec.ofNat 64 (b * 2 ^ 41)
  | _ => w

/-- A descriptor with its physical owner (R133). -/
def ownDesc (d : BitVec 128) (c : ClusterId) : BitVec 128 :=
  (d &&& ~~~(BitVec.ofNat 128 (0x7FF <<< 9))) ||| BitVec.ofNat 128 (c.col.val * 2 ^ 14 + c.row.val * 2 ^ 9)

/-- The golden copy of an image as mapped and re-timed (R176, R245). `ws` is its schedule memory before re-timing. -/
def goldenOf (s : State) (p : Nat) (f : List Byte) (m : Image) (place : List (Nat × ClusterId)) (ws : List Host.Cell) : Golden :=
  let removed := removedStitches s p m
  let kept := keptStitches m removed
  let descs := (m.descs.filterMap fun d => (relocate s p d.2.1 d.2.2.1 d.2.2.2).map fun r =>
    (d.2.1 * 65536 + r.1, if descValid r.2 then
      ownDesc r.2 (placedAt place (1024 * d.2.1 + 32 * descOwnerCol r.2 + descOwnerRow r.2)) else r.2))
  { file := f, fold := m.fold, len := kept.length,
    place := place.foldl (fun t e => sset (fun _ => 0) t e.1 (e.2.idx + 1)) [],
    slots := m.slots.foldl (fun t e =>
      let v := e.1 / 8192 / 32
      if removed.contains (e.1 % 8192) then t
      else
        sset (fun _ => nopSlot) t
          (((placedAt place v).idx * 32 + e.1 / 8192 % 32) * 8192 + newStitch removed (e.1 % 8192))
          (relocSlot e.2 (oget s (Od.DESC_FIRST_W p (v / 1024))))) [],
    ws := if removed.isEmpty then ws else place.foldl (fun w e => retimeCluster w removed kept e.2) ws,
    descs := descs.foldl (fun t e => sset (fun _ => 0) t e.1 e.2) [],
    ptrs := m.ptrs.foldl (fun t e =>
      sset (fun _ => 0) t ((placedAt place (e.1 / 32)).idx * 32 + e.1 % 32) e.2) [] }

/-- The placed clusters of a golden copy: footprint cluster number and physical cluster. -/
def goldenPlace (g : Golden) : List (Nat × ClusterId) := g.place.map fun e => (e.1, clusterOf (e.2 - 1))

/-- A slot of the golden copy. -/
def goldenSlot (g : Golden) (c : ClusterId) (b t : Nat) : Slot := sget (fun _ => nopSlot) g.slots ((c.idx * 32 + b) * 8192 + t)

/-! ## Writing (R183 step 8) -/

/-- One slot written from the golden copy: to its physical BP, and to the spare where that runs for it (R74). -/
def writeSlot (s : State) (g : Golden) (c : ClusterId) (b t : Nat) : State :=
  let v := (goldenSlot g c b t).toNat
  let s := setMemLE s (slotAddr c b t) 8 v
  if fbit s (Reg.BP_SPARE_MAP c) F.BP_SPARE_MAP_ACTIVE && decide (fget s (Reg.BP_SPARE_MAP c) F.BP_SPARE_MAP_REPLACED = b) then
    setMemLE s (slotAddr c 32 t) 8 v else s

/-- The schedule memories of a partition's band, from the golden copy. -/
def writeSchedules (s : State) (p : Nat) (g : Golden) : State :=
  let w := (partClusters s p).foldl (fun w c => sclear w (wsBase c) (wsBase c + 0x20000)) s.wsched
  { s with wsched := g.ws.foldl (fun w e => sset memDefault w e.1 e.2) w }

/-- The descriptors of a partition, from the golden copy. -/
def writeDescs (s : State) (p : Nat) (g : Golden) : State :=
  (List.range 4).foldl (fun s d =>
    let x := getDie s d
    let lo := oget s (Od.DESC_FIRST_W p d)
    let hi := lo + oget s (Od.DESC_COUNT_W p d)
    setDie s d { x with
      descs := (sslice g.descs (d * 65536) (d * 65536 + 65536)).foldl
        (fun t e => sset (fun _ => 0) t (e.1 - d * 65536) e.2) (sclear x.descs lo hi),
      badDesc := x.badDesc.filter fun n => decide (n < lo) || decide (hi ≤ n) }) s

/-- Clusters of the band at rest, outside every sweep, with empty Warp stages and queues (R113). -/
def restClusters (s : State) (p : Nat) : State :=
  (partClusters s p).foldl (fun s c =>
    let k := getCl s c.idx
    let s := setCl s c.idx { retired := k.retired, spareFor := k.spareFor, spareBad := k.spareBad }
    let s := showProgress (rset (fset s (Reg.BP_CL_STATUS c) F.BP_CL_STATUS_RUN 0) (Reg.BP_SWEEP_LEN c) 0) c
    { s with stages := sclear s.stages (c.idx * 512) (c.idx * 512 + 512) }) s

/-- Instruction memories and schedule memories written from the golden copy. -/
def writeSlots (s : State) (p : Nat) (g : Golden) : State :=
  let s := (goldenPlace g).foldl (fun s e =>
    (List.range 32).foldl (fun s b => (List.range g.len).foldl (fun s t => writeSlot s g e.2 b t) s) s) s
  writeSchedules s p g

/-- Instruction memories, pointer bases, schedule memories and descriptors written from the golden copy. -/
def writeImage (s : State) (p : Nat) (g : Golden) : State :=
  let s := (goldenPlace g).foldl (fun s e =>
    (List.range 32).foldl (fun s b => rset s (Reg.BP_PTRBASE e.2 b) (sget (fun _ => 0) g.ptrs (e.2.idx * 32 + b))) s)
    (writeSlots s p g)
  writeDescs s p g

/-- The fold cluster and member index of an unfolded virtual cluster. -/
def memberOf (m : Image) (v : Nat) : Nat × Nat :=
  match m.members.find? fun r => r.2.contains v with
  | some r => (r.1, r.2.idxOf v)
  | none => (v, 0)

/-- The size in bytes of a store of a cluster: state memory, one BP's data memory, word file. -/
def storeSize (kind : Nat) : Nat := [8192, 2048, 4096].getD kind 0

/-- The NoC address of a store of a cluster. -/
def storeAddr (c : ClusterId) (kind bp : Nat) : Nat :=
  match kind with
  | 0 => stateBase c
  | 1 => dataBase c bp
  | _ => wfAddr c 0

/-- Design memory cleared and filled: every Pocket bank of the carve and every element start at 0 or the image's value (R147,
R169). -/
def fillMemories (s : State) (p : Nat) (first : Image) (g : Golden) : State :=
  let s := (List.range 4).foldl (fun s d =>
    let b := oget s (Od.BANK_FIRST_W p d)
    zeroMem s (pocketAddr d b) (pocketAddr d (b + oget s (Od.BANK_COUNT_W p d)))) s
  let s := g.descs.foldl (fun s e =>
    if descValid e.2 && !descPocket e.2 then
      zeroMem s (descHbmBase e.2) (descHbmBase e.2 + ((descDepthM1 e.2 + 1) * descElemBits e.2 + 7) / 8)
    else s) s
  match checkMemImg g.file first with
  | .ok r => r.2.foldl (fun s a =>
    let die := leAt r.1 a 1
    let d := sget (fun _ => 0) g.descs (die * 65536 + oget s (Od.DESC_FIRST_W p die) + leAt r.1 (a + 2) 2)
    (List.range (leAt r.1 (a + 8) 4)).foldl (fun s j =>
      elemWrite s (descBase die d) ((leAt r.1 (a + 4) 4 + j) * descElemBits d) (descElemBits d)
        (memRecElem r.1 a (descElemBits d) j)) s) s
  | .error _ => s

/-- The carried values of every footprint cluster start at 0 or at the INITSTATE value, translated into the image (R161,
R169). -/
def fillStores (s : State) (first m : Image) (g : Golden) : State :=
  let s := (goldenPlace g).foldl (fun s e => zeroMem s (stateBase e.2) (clusterBase e.2 + 0x330000)) s
  match checkInit g.file first (patFoldMax g.file) with
  | .ok r => r.2.foldl (fun s a =>
    let x := memberOf m (leAt r.1 a 2)
    let kind := leAt r.1 (a + 2) 1
    setMemBytes s (storeAddr (placedAt (goldenPlace g) x.1) kind (leAt r.1 (a + 3) 1) +
        x.2 * (storeSize kind / m.fold) + leAt r.1 (a + 4) 4) (bytesAt r.1 (a + 16) (leAt r.1 (a + 8) 4))) s
  | .error _ => s

/-! ## Reports (R173, R181, R185) -/

/-- The silicon's value of a latency element (R172). -/
def siliconLat (s : State) (e : Nat) : Nat :=
  match e with
  | 1 => fget s (Reg.BP_WORD_LAT 0) F.BP_WORD_LAT_WIN
  | 2 => fget s (Reg.BP_WORD_LAT 0) F.BP_WORD_LAT_DMEM
  | 3 => fget s (Reg.BP_WORD_LAT 0) F.BP_WORD_LAT_LDSW
  | 4 => fget s (Reg.BP_WORD_LAT 0) F.BP_WORD_LAT_ALU
  | 5 => fget s (Reg.BP_WORD_LAT 0) F.BP_WORD_LAT_SHIFT
  | 6 => fget s (Reg.BP_WORD_LAT 0) F.BP_WORD_LAT_MUL
  | 7 => fget s (Reg.DMEM_LAT 0) F.DMEM_LAT_POCKET_RD
  | 8 => fget s (Reg.DMEM_LAT 0) F.DMEM_LAT_WR_RD
  | 9 => fget s (Reg.WRP_LAT 0) F.WRP_LAT_LOCAL
  | 10 => fget s (Reg.WRP_LAT 0) F.WRP_LAT_EXPRESS
  | 11 => fget s (Reg.WRP_LAT 0) F.WRP_LAT_WEAVE_BRG
  | 12 => fget s (Reg.WRP_LAT 0) F.WRP_LAT_YOKE_BRG
  | _ => 0

/-- The elements of the file that are slower in silicon: ELEMENT, and Δ × CRIT in quarter stitches (R173). -/
def slowerElements (s : State) (f : List Byte) : List (Nat × Nat) :=
  (latEntries (secBytes f 2 0)).filterMap fun e =>
    let v := siliconLat s e.2.1
    if 1 ≤ e.2.1 ∧ e.2.1 ≤ 12 ∧ e.2.2.2.1 < v then
      some (e.2.1, (v - e.2.2.2.1) * e.2.2.2.2 * (if e.2.2.1 = 0 then 4 else 1)) else none

/-- PRED_SWEEP_PPM (R173): the predicted sweep time over the compiled sweep length, in parts per million. It is stored whole: of a
prediction above 32 bits a read gives the low 4 bytes (DESIGN CHOICE, log 89). -/
def predictedPpm (slower : List (Nat × Nat)) (len compiled : Nat) : Nat :=
  (len + ((slower.map fun e => e.2).sum + 3) / 4) * 1000000 / compiled

/-- CREDIT_LIMIT (R181): the lowest over the dies of refill rate over mean credits per stitch, in M stitch/s; none where the
image costs no credits. -/
def creditLimit (s : State) (m : Image) (len : Nat) : Option Nat :=
  ((List.range 4).filterMap fun d =>
    let n := dieCredits m d 0 m.len
    if n = 0 then none else some (fget s (Reg.PWR_CREDIT d) F.PWR_CREDIT_REFILL * 1000 * len / n)).min?

/-- The route distance of a cost in quarter stitch times (R122). -/
def routeDistance (q : Nat) : Nat := 1 + (q + 3) / 4

/-- ROUTE_ADDED (R185): the largest increase of a route distance between two placements, over the routes from output slots and from
inbound channels. -/
def routeAdded (s : State) (ws ws' : List Host.Cell) (foot : List Nat) (cur new : Nat → ClusterId) : Nat :=
  let lat := rget s (Reg.WRP_LAT 0)
  let moved := foot.map fun v => (cur v, new v)
  let w := imgState ws
  let w' := imgState ws'
  let pairs := (foot.flatMap fun v => (List.range 32).map fun j =>
      (endsFrom w lat routeFuel (cur v) j 0, endsFrom w' lat routeFuel (new v) j 0)) ++
    (inboundRoutes w).map fun r => (inboundEnds w lat r.1, inboundEnds w' lat r.1)
  (pairs.flatMap fun x => x.1.map fun e =>
    match x.2.find? fun y => decide (y.1 = moveEnd moved e.1) with
    | some y => routeDistance y.2 - routeDistance e.2
    | none => 0).foldl max 0

/-- Footprint clusters mapped to the spare column. -/
def sparesUsedBy (place : List (Nat × ClusterId)) : Nat := (place.filter fun e => decide (e.2.col.val = 32)).length

/-- VMAP (R157): unfolded virtual clusters of the footprint. -/
def vmapOf (first m : Image) (place : List (Nat × ClusterId)) : SMap Nat :=
  first.foot.foldl (fun t v =>
    let x := memberOf m v
    let c := placedAt place x.1
    sset (fun _ => 0) t v (0x8000 + x.2 * 2 ^ 13 + c.die.val * 2 ^ 11 + c.col.val * 2 ^ 5 + c.row.val)) []

/-- VMAP_GEN rises, wrapping by design (R157). -/
def bumpVmap (s : State) (p : Nat) : State := oset s (Od.VMAP_GEN p) ((oget s (Od.VMAP_GEN p) + 1) % 2 ^ 32)

/-- The partners of each placed cluster and their counts (R87, R88). A cluster that takes part in no sweep holds none and is held by
none (R76). -/
def linkPartners (s : State) (g : Golden) : State :=
  let cs := ((goldenPlace g).map fun e => e.2).filter (participating s)
  let pairs := cs.flatMap fun c => (List.range 32).flatMap fun j =>
    ((fedSlots (imgState g.ws) routeFuel c j).map fun x => (c, x.1)).filter fun x => participating s x.2
  pairs.foldl (fun s x => linkPair s x.1 x.2) s

/-- A partition's slots, rings and Seam positions at the start of a run. -/
def startChannels (s : State) (p : Nat) : State :=
  let s := (List.range 32).foldl (fun s i =>
    if slotPart s i = some p then
      let x := getSlot s i
      rset (rset (setSlot s i { inFifo := x.inFifo, outFifo := x.outFifo, shown := x.shown })
        (Reg.CUFF_FP_BOUND i) 0xFFFFFFFF#32) (Reg.CUFF_FP_MOVED i) 0xFFFFFFFF#32
    else s) s
  clearChannels s p

/-- Every link of the partition's map sends MAPCHK, and MAP_OK awaits the peer's; one that came before the pattern counts (R210). -/
def startLinks (s : State) (p : Nat) : State :=
  (partPorts s p).foldl (fun s i =>
    let s := fset s (Reg.SEAM_STATUS i) F.SEAM_STATUS_MAP_OK 0
    let s := setPort s i { getPort s i with
      done := 0, retained := [], resendB := [], resumeWait := false, resuming := false, breach := false, breaches := [] }
    if portUp s i then checkMap (startMapchk s i) i else s) s

/-- The loader wakes every block domain of the partition's band (R518). -/
def wakeBand (s : State) (p : Nat) : State :=
  (List.range 64).foldl (fun s k =>
    if (List.range 8).any fun i => rowInBand s p (k / 16) (k % 16 / 4 * 8 + i) then
      hemResume (fsets s (Reg.NOC_DOM k) [(F.NOC_DOM_SLEEP, 0), (F.NOC_DOM_STATE, 0)]) k
    else s) s

/-- Wear: the first pattern commit since restart (R519, R520). -/
def reachWear (s : State) : State :=
  if fget s Reg.PWR_STATUS F.PWR_STATUS_STAGE = 2 then
    oset (fset s Reg.PWR_STATUS F.PWR_STATUS_STAGE 3) Od.START_STAGE 3
  else s

/-- The commit point of a pattern (R183 step 9, R439): a paused partition at ecycle 0, with its reports written. -/
def commitPattern (s : State) (p : Nat) (f : List Byte) (first m : Image) (place : List (Nat × ClusterId))
    (ws : List Host.Cell) (g : Golden) : State :=
  let s := reachWear (wakeBand s p)
  let x := getPart s p
  let removed := removedStitches s p m
  let kept := keptStitches m removed
  let at_ := placeTwo (startChannels s p) p ((f.length + 0xFFFFF) / 0x100000)
  let s := setPart at_.2 p { x with
    goldenAt := at_.1, tested := [], retire := [],
    completed := 0, breaks := [], marks := [], marksActed := 0, breaksActed := 0, posted := [], hold := .none,
    diameter := (m.seam.map fun y => y.diameter).getD 0, ckptGate := some 0, vmap := vmapOf first m place,
    translate := kept.zipIdx.foldl (fun t e => sset (fun _ => 0xFFFF) t e.2 e.1) [],
    undo := [], undoOld := false, seamMap := m.seam, entered := none, doneFall := none, stepStop := false,
    peerHalt := false, ckptDone := none, inlog := [], taken := 0, acqMark := 0, trigAt := [],
    probeMap := m.probes.map (fun r => { r with probe := r.probe + oget s (Od.ACQ_PROBE_FIRST p) }),
    golden := g, ckpt := none, rolls := 0, causes := [], replaying := none }
  let s := startChannels s p
  let s := place.foldl (fun s e => fset s (Reg.BP_SWEEP_LEN e.2) F.BP_SWEEP_LEN_LEN kept.length) s
  let s := linkPartners s g
  let s := (partDies s p).foldl (fun s d => setDie s d { getDie s d with bucket := 16384 }) s
  let s := oset (bumpVmap s p) (Od.VMAP_FOLD p) m.fold
  let slower := slowerElements s f
  let s := oset (oset (oset s (Od.LOAD_STATUS p) 0) (Od.LOAD_FOLD p) m.fold) (Od.SPARES_USED p) (sparesUsedBy place)
  let s := oset s (Od.SLOWER_ELEMENTS p) (slower.foldl (fun n e => n ||| 2 ^ e.1) 0)
  let s := oset (oset s (Od.PRED_SWEEP_PPM p) (predictedPpm slower kept.length m.len)) (Od.RETIMED p) removed.length
  let s := match creditLimit s m kept.length with
    | some n => oset s (Od.CREDIT_LIMIT p) n
    | none =>
      let n := drawNat s
      oset n.2 (Od.CREDIT_LIMIT p) (n.1 % 2 ^ 32)
  let s := oset s (Od.ROUTE_ADDED p) (routeAdded s m.ws ws m.foot vCluster (placedAt place))
  let s := oset (oset s (Od.PATTERN_ID p) (leAt f 0x28 8)) (Od.FAIL_AT p) 0
  let s := oset (osetTell (oset s (Od.STOP_ECYCLE p) noStop) p (Od.RUN_STATE p) 1) (Od.PAUSE_REASON p) 6
  let s := oset (oset s (Od.RUN_ECYCLE p) 0) (Od.CKPT_LAST p) 0
  let s := hemRebind (startLinks s p)
  logRecord s 10 2 p Code.PATTERN_COMMITTED 0 []

/-- Steps 8 and 9 of R183 for an image that maps. -/
def loadImage (s : State) (p : Nat) (f : List Byte) (first m : Image) (place : List (Nat × ClusterId)) (ws : List Host.Cell) :
    State × Golden :=
  let g := goldenOf s p f m place ws
  let s := dropLinks (restClusters s p) p
  let s := writeImage s p g
  (fillStores (fillMemories s p first g) first m g, g)

/-- A refused load reported (R185). -/
def loadRefused (s : State) (p : Nat) (e : PatFail) : State :=
  oset (oset s (Od.LOAD_STATUS p) e.code) (Od.FAIL_AT p) (e.type * 2 ^ 48 + e.fold * 2 ^ 40 + e.at_ % 2 ^ 40)

end Sys2Proof.Machine
end

