-- ==== Sys2Proof/Machine/FrameCheck.lean ====
section
/-! DEFINITION. The loader's checks of the frames that a stream would leave (R259): ownership, encodings, drivers, loops,
borders, trees, banks, fence points, channels, first commits and running slots. -/

namespace Sys2Proof.Machine

/-- A refused stream: the abort code, FAIL_AT's kind and place (R271), and the DRIVER_CONFLICT value. -/
structure CfgFail where
  code  : Nat
  kind  : Nat
  at_   : Nat
  drive : Nat := 0
deriving DecidableEq, Repr

/-- A failure at a frame. -/
def frameFail (code fa : Nat) : CfgFail := ⟨code, 2, fa, 0⟩

/-- The first frame of a list that fails its check. -/
def framesOk (l : List Nat) (ok : Nat → Bool) (code : Nat) : Option CfgFail :=
  (l.find? fun fa => !ok fa).map (frameFail code)

/-- The fields of a frame address (R244). -/
def faTarget (fa : Nat) : Nat := fa / 2 ^ 28
def faCol (fa : Nat) : Nat := fa / 2 ^ 22 % 64
def faRow (fa : Nat) : Nat := fa / 2 ^ 17 % 32
def faFrame (fa : Nat) : Nat := fa % 2 ^ 17

/-- A tree frame: its tree (R217). -/
def faTree (fa : Nat) : Option Nat :=
  if faTarget fa = 4 ∧ faCol fa = 0 ∧ faRow fa = 0 ∧ 0x10000 ≤ faFrame fa ∧ faFrame fa < 0x10008 then
    some (faFrame fa - 0x10000) else none

/-- A frame of targets 4 and 5 that is defined (R217, R244). -/
def frameDefined (fa : Nat) : Bool :=
  if faTarget fa = 4 then
    decide (faCol fa < 48) &&
    (decide (faFrame fa < 2) || (decide (faFrame fa = 2) && (decide (faCol fa = 0) || decide (faCol fa = 47))) ||
      (decide (0x100 ≤ faFrame fa ∧ faFrame fa ≤ 0x102) && decide (faCol fa = 16)) || (faTree fa).isSome)
  else decide (faTarget fa = 5) && decide (faCol fa = 0) && decide (faRow fa < 16) && decide (faFrame fa = 0)

/-! ## Weave frames (R245) -/

/-- Where a Weave frame's content stands. -/
inductive WeaveStore where
  /-- Instruction memory: physical BP, and the first of 512 slots. -/
  | slots (bp first : Nat)
  /-- SEND, POP and ACCEPT: an offset in the Warp schedule memory. -/
  | schedule (off : Nat)
  | switch
  | cluster
deriving DecidableEq, Repr

/-- The store of FRAME number `n` of a cluster of a Weave die, none where it is undefined. -/
def weaveStore (n : Nat) : Option WeaveStore :=
  if n ≤ 0x20F then some (.slots (n / 16) (n % 16 * 512))
  else if 0x400 ≤ n ∧ n ≤ 0x417 then some (.schedule ((n - 0x400) * 4096))
  else if n = 0x418 then some .switch
  else if n = 0x420 then some .cluster
  else none

/-- The cluster and store of a frame address of targets 0 to 3, none where it is undefined (R244, R245). -/
def weaveFrame (fa : Nat) : Option (ClusterId × WeaveStore) :=
  if h : faTarget fa < 4 ∧ faCol fa < 33 ∧ faRow fa < 32 then
    (weaveStore (faFrame fa)).map fun w => (⟨⟨faTarget fa, h.1⟩, ⟨faCol fa, h.2.1⟩, ⟨faRow fa, h.2.2⟩⟩, w)
  else none

/-- A Weave frame's 4,096 bytes (R245). -/
def weaveRead (s : State) (c : ClusterId) (w : WeaveStore) : List Byte :=
  match w with
  | .slots b t => memBytes s (slotAddr c b t) 4096
  | .schedule off => sreadBytes memDefault s.wsched (wsBase c + off) 4096
  | .switch => sreadBytes memDefault s.wsched (wsBase c + 0x18000) 376 ++ List.replicate 3720 0
  | .cluster => (List.range 32).flatMap (fun k => leBytes 4 (rget s (Reg.BP_PTRBASE c k)).toNat) ++ List.replicate 3968 0

/-- A Weave frame written (R245). -/
def weaveWrite (s : State) (c : ClusterId) (w : WeaveStore) (bs : List Byte) : State :=
  match w with
  | .slots b t => setMemBytes s (slotAddr c b t) bs
  | .schedule off => { s with wsched := swriteBytes memDefault s.wsched (wsBase c + off) bs }
  | .switch => { s with wsched := swriteBytes memDefault s.wsched (wsBase c + 0x18000) (bs.take 376) }
  | .cluster => (List.range 32).foldl (fun s k =>
      rset s (Reg.BP_PTRBASE c k) (BitVec.ofNat 32 (leNat ((bs.drop (4 * k)).take 4)))) s

/-! ## Cuff frames -/

/-- The region of a frame that is no tree frame. -/
def faRegion (fa : Nat) : Nat := if faTarget fa = 5 then faRow fa else faRow fa / 2

/-- Bit `i` of a mask. -/
def maskBit (m i : Nat) : Bool := decide (m / 2 ^ i % 2 = 1)

/-- The tiles of the regions in a mask, in frame-address order. -/
def tilesOf (mask : Nat) : List (Nat × Nat) :=
  (List.range 48).flatMap fun c => ((List.range 32).filter fun r => maskBit mask (r / 2)).map fun r => (c, r)

/-- The defined frames of the regions in a mask, in address order. -/
def regionFrames (mask : Nat) : List Nat :=
  ((tilesOf mask).flatMap fun t =>
    [frameAddr 4 t.1 t.2 0, frameAddr 4 t.1 t.2 1] ++
    (if t.1 = 0 ∨ t.1 = 47 then [frameAddr 4 t.1 t.2 2] else []) ++
    (if t.1 = 16 then [frameAddr 4 16 t.2 0x100, frameAddr 4 16 t.2 0x101, frameAddr 4 16 t.2 0x102] else [])) ++
  ((List.range 16).filter (maskBit mask)).map fun r => frameAddr 5 0 r 0

/-- Bytes of a frame from byte `lo` on are 0. -/
def restZero (m : List Host.Cell) (fa lo : Nat) : Bool := (sslice m (fa * 4096 + lo) (fa * 4096 + 4096)).isEmpty

/-- A cell input selector is not reserved (R221). -/
def selectorOk (n : Nat) : Bool := decide (n < 0xAA) || decide (0xC0 ≤ n)

/-- The encodings of one frame (R219, R222, R226, R229, R233, R240, R246). -/
def encodingOk (m : List Host.Cell) (fa : Nat) : Bool :=
  let c := faCol fa
  let r := faRow fa
  if faTarget fa = 5 then decide (frameLE m fa 0 4 < 3) && restZero m fa 4
  else if (faTree fa).isSome then
    let n := (faTree fa).getD 0
    decide (nbits (treeWord m n 0) 30 28 < 4) && decide (nbits (treeWord m n 0) 21 0 = 0) &&
    decide (nbits (treeWord m n 1) 31 20 = 0) && decide (nbits (treeWord m n 2) 31 22 = 0) &&
    decide (nbits (treeWord m n 2) 10 8 = 0) && restZero m fa 16
  else match faFrame fa with
    | 0 => (List.range 256).all (fun n =>
        let w := cellWord m c r n
        decide (w = 0) || (selectorOk (nbits w 63 56) && selectorOk (nbits w 55 48) && selectorOk (nbits w 47 40) &&
          selectorOk (nbits w 39 32) && decide (nbits w 24 23 ≠ 3) && decide (nbits w 21 0 = 0))) && restZero m fa 2048
    | 1 => (List.range 208).all (fun n =>
        decide (nbits (routeEntry m c r n) 14 10 = 0) && decide (nbits (routeEntry m c r n) 9 0 ≤ 0x191)) && restZero m fa 416
    | 2 => (List.range 10).all (fun k =>
        let w := pinWord m c r k
        decide (nbits w 27 26 ≠ 3) && decide (nbits w 24 23 ≠ 3) && decide (nbits w 22 21 ≠ 3) && decide (nbits w 9 0 = 0)) &&
        restZero m fa 40
    | 0x100 =>
      let w := slotCtl m r
      decide (ctlMode m r ≠ 3) && decide (ctlPolicy m r ≠ 3) && decide (nbits (w 0) 1 0 = 0) &&
      decide (nbits (w 1) 31 29 = 0) && decide (nbits (w 1) 15 13 = 0) && decide (nbits (w 2) 31 16 = 0) &&
      decide (nbits (w 2) 14 14 = 0) && decide (nbits (w 2) 7 0 = 0) && decide (nbits (w 3) 31 26 = 0) &&
      decide (nbits (w 3) 15 10 = 0) && restZero m fa 16 &&
      (decide (ctlMode m r ≠ 0) || decide (w 0 = 0)) &&
      (decide (ctlMode m r = 1) || (decide (nbits (w 0) 26 0 = 0) && decide (w 1 = 0) && decide (w 2 = 0))) &&
      (decide (ctlMode m r = 2) || decide (w 3 = 0))
    | _ => (List.range 512).all fun n =>
        let e := frameLE m fa (8 * n) 8
        decide (nbits e 61 60 = 0) && decide (nbits e 47 45 = 0) && decide (nbits e 31 10 = 0) &&
        decide (nbits e 59 48 < 3072)

/-- Two enabled drivers of a shared line of a named region: row, span, line and the first two drivers (R225). -/
def driverClash (m : List Host.Cell) (mask : Nat) : Option (Nat × Nat × Nat × Nat × Nat) :=
  ((List.range 4).flatMap fun sp => ((List.range 32).filter fun r => maskBit mask (r / 2)).flatMap fun r =>
    (List.range 16).filterMap fun l =>
      match (List.range 12).filter fun t => decide (routeEntry m (12 * sp + t) r (128 + l) / 0x8000 = 1) with
      | a :: b :: _ => some (r, sp, l, a, b)
      | _ => none).head?

/-- DRIVER_CONFLICT (R271). -/
def conflictWord (x : Nat × Nat × Nat × Nat × Nat) : Nat :=
  2 ^ 63 + x.1 * 2 ^ 43 + x.2.1 * 2 ^ 41 + x.2.2.1 * 2 ^ 37 + x.2.2.2.1 * 2 ^ 33 + x.2.2.2.2 * 2 ^ 29

/-- The nodes that a node's value comes from at once: a registered or unused cell, and a disabled entry, come from none;
a tree on a cell that is read as data comes from its root (R223, R226). `s` holds the frames. -/
def nodeSources (s : State) (x : Node) : List Node :=
  let inc := fun (c r d t dist : Nat) => match tileBeside c r d dist with
    | some (c', r') => [Node.entry c' r' ((if dist = 1 then 64 else 96) + 8 * ((d + 2) % 4) + t)]
    | none => []
  let line := fun (c r l : Nat) =>
    ((List.range 12).filter fun i => decide (routeEntry s.frames (c / 12 * 12 + i) r (128 + l) / 0x8000 = 1)).map fun i =>
      Node.entry (c / 12 * 12 + i) r (128 + l)
  match x with
  | .cell c r n =>
    let w := cellWord s.frames c r n
    if w = 0 ∨ nbits w 28 28 = 1 then []
    else [nbits w 63 56, nbits w 55 48, nbits w 47 40].flatMap fun k =>
      if k < 0x10 then [Node.cell c r (16 * (n / 16) + k)]
      else if k < 0x50 then [Node.entry c r (k - 0x10)]
      else if k < 0x70 then inc c r ((k - 0x50) / 8) ((k - 0x50) % 8) 1
      else if k < 0x90 then inc c r ((k - 0x70) / 8) ((k - 0x70) % 8) 4
      else if k < 0xA0 then line c r (k - 0x90)
      else if k < 0xA8 ∧ treeSrc s (k - 0xA0) = 2 ∧ nbits (treeWord s.frames (k - 0xA0) 0) 31 31 = 1 then
        let t := treeWord s.frames (k - 0xA0) 2
        [Node.cell (nbits t 21 16) (nbits t 15 11) (nbits t 7 0)]
      else []
  | .entry c r n =>
    let e := routeEntry s.frames c r n
    if e / 0x8000 = 0 then []
    else
      let k := e % 0x400
      if k < 0x100 then [Node.cell c r k]
      else if k < 0x120 then inc c r ((k - 0x100) / 8) ((k - 0x100) % 8) 1
      else if k < 0x140 then inc c r ((k - 0x120) / 8) ((k - 0x120) % 8) 4
      else if k < 0x150 then line c r (k - 0x140)
      else []

/-- The nodes from which a set of nodes gets its value in exactly `n` steps back. -/
def sourcesBack (s : State) (n : Nat) (l : List Node) : List Node :=
  match n with
  | 0 => l
  | n + 1 => sourcesBack s n ((l.flatMap (nodeSources s)).eraseDups)

/-- A node's value depends on another's at once, through one or more steps. -/
def dependsOn (s : State) (x y : Node) : Bool :=
  (List.range fabricFuel).any fun n => (sourcesBack s n (nodeSources s x)).contains y

/-- The used cells with OREG 0 that are among their own sources: each is on a combinational loop (R223). -/
def loopCells (m : List Host.Cell) : List Node :=
  let s : State := { frames := m }
  ((usedCells s).filter fun c => decide (nbits (cellWord m c.1 c.2.1 c.2.2) 28 28 = 0)).filterMap fun c =>
    if dependsOn s (.cell c.1 c.2.1 c.2.2) (.cell c.1 c.2.1 c.2.2) then some (.cell c.1 c.2.1 c.2.2) else none

/-- A cell frame or routing frame holds part of a combinational loop through a cell with OREG 0, which may lie in another region
(R223). -/
def frameLoops (m : List Host.Cell) (loops : List Node) (fa : Nat) : Bool :=
  let s : State := { frames := m }
  if faFrame fa = 0 then (List.range 256).any fun n => loops.contains (.cell (faCol fa) (faRow fa) n)
  else (List.range 208).any fun n =>
    let e := Node.entry (faCol fa) (faRow fa) n
    loops.any fun x => dependsOn s x e && dependsOn s e x

/-- No enabled wire between this tile and another partition's region, in either direction (R223). -/
def bordersOk (s : State) (p : Nat) (m : List Host.Cell) (fa : Nat) : Bool :=
  let c := faCol fa
  let r := faRow fa
  let other := fun (r' : Nat) => match regionPart s (r' / 2) with
    | some q => decide (q ≠ p)
    | none => false
  ([(0, 1), (2, 1), (0, 4), (2, 4)] : List (Nat × Nat)).all fun sd =>
    match tileBeside c r sd.1 sd.2 with
    | some (_, r') =>
      let base := if sd.2 = 1 then 64 else 96
      !other r' || (List.range 8).all fun t =>
        decide (routeEntry m c r (base + 8 * sd.1 + t) / 0x8000 = 0) &&
        decide (routeEntry m c r' (base + 8 * ((sd.1 + 2) % 4) + t) / 0x8000 = 0)
    | none => true

/-- A tree of partition `p`. -/
def ownTree (s : State) (p n : Nat) : Bool := maskBit (oget s (Od.TREES p)) n

/-- A tree's own word (R226): its SYN_KHZ whatever its source, and the pin or root cell of a tree that has one. -/
def treeOk (s : State) (p : Nat) (m : List Host.Cell) (n : Nat) : Bool :=
  let w := treeWord m n
  decide (1000 ≤ nbits (w 1) 19 0) && decide (nbits (w 1) 19 0 ≤ 600000) &&
  (match nbits (w 0) 30 28 with
   | 1 => maskBit (oget s (Od.REGIONS p)) (nbits (w 0) 27 22 / 4)
   | 2 => decide (nbits (w 2) 21 16 < 48) && maskBit (oget s (Od.REGIONS p)) (nbits (w 2) 15 11 / 2)
   | _ => true)

/-- A frame names only trees of the partition on CKSEL, and as data (R226). The CKSEL of an unused cell, of a pin with no register and
of a slot that is off selects no tree (R220, R229, R233). -/
def cksOk (s : State) (p : Nat) (m : List Host.Cell) (fa : Nat) : Bool :=
  let c := faCol fa
  let r := faRow fa
  if faTarget fa ≠ 4 then true
  else match faFrame fa with
    | 0 => (List.range 256).all fun n =>
        let w := cellWord m c r n
        decide (w = 0) || (ownTree s p (nbits w 27 25) &&
          [nbits w 63 56, nbits w 55 48, nbits w 47 40, nbits w 39 32].all fun k =>
            decide (k < 0xA0) || decide (0xA8 ≤ k) || ownTree s p (k - 0xA0))
    | 2 => (List.range 10).all fun k =>
        let w := pinWord m c r k
        (decide (nbits w 24 23 = 0) && decide (nbits w 22 21 = 0)) || ownTree s p (nbits w 20 18)
    | 0x100 => decide (ctlMode m r = 0) || ownTree s p (ctlCksel m r)
    | _ => true

/-- No DRIVE 0b10 in a bank declared 1.2 V (R229). -/
def bankOk (m : List Host.Cell) (fa : Nat) : Bool :=
  decide (faTarget fa ≠ 4) || decide (faFrame fa ≠ 2) ||
  decide (frameLE m (frameAddr 5 0 (faRow fa / 2) 0) 0 4 % 4 ≠ 1) ||
  (List.range 10).all fun k => decide (nbits (pinWord m (faCol fa) (faRow fa) k) 27 26 ≠ 2)

/-- The marks, pause rules and layouts of a slot (R233, R240). -/
def slotOk (m : List Host.Cell) (i : Nat) : Bool :=
  decide (ctlMode m i ≠ 1) ||
  (decide (ctlHigh m i ≤ 4096) && decide (ctlLow m i < ctlHigh m i) &&
   ((decide (ctlPolicy m i ≠ 2) && !ctlOutPause m i) ||
    (decide (nbits (treeWord m (ctlCksel m i) 0) 30 28 = 0) && maskBit (treeWord m (ctlCksel m i) 3) i)) &&
   decide (bindK m i * ctlInWidth m i + countBits (bindK m i) ≤ 1024) &&
   decide (outK m i * ctlOutWidth m i + (if ctlOutQueue m i then countBits (outK m i) else 0) +
     (if ctlAllow m i then 7 else 0) ≤ 1024))

/-- The DMA queues that a transactor slot names belong to the partition (R233, R259). -/
def queuesOwn (p : Nat) (m : List Host.Cell) (i : Nat) : Bool :=
  decide (ctlMode m i ≠ 2) || (decide (ctlTxq m i / 64 = p) && decide (ctlRxq m i / 64 = p))

/-- Slots enabled in a set of frames, in the whole module. -/
def slotsEnabled (m : List Host.Cell) : Nat := ((List.range 32).filter fun i => decide (ctlMode m i ≠ 0)).length

/-- The channel rules of R241 against the images of a pattern file, at whichever of the pattern and the Cuff configuration comes
second: the first channel-table frame with an entry that breaks one, else none with a channel of a route that has no entry. -/
def channelsFail (s : State) (p mask : Nat) (m : List Host.Cell) (file : List Byte) : Option CfgFail :=
  if file.isEmpty || !cuffPresent s p mask then none
  else
    let images := (patFolds file).filterMap fun k => match readImage file k with
      | .ok x => some (x, imgState x.ws)
      | .error _ => none
    let cuff := cuffChans s m p
    let chans := images.map fun x => (x.1, x.2, outChans x.2 x.1 (imageRoutes x.2 x.1), inboundRoutes x.2)
    let slots := (List.range 32).filter fun i => decide (slotPart s i = some p) && decide (ctlMode m i = 1)
    let entries := slots.flatMap fun i => (List.range 1024).filterMap fun n =>
      let e := chanEntry m i n
      if nbits e 63 63 = 1 then
        some (frameAddr 4 16 i (0x101 + n / 512), (nbits e 62 62, nbits e 59 48, nbits e 44 32)) else none
    match entries.find? fun x => !chans.all fun y => cuffEntryOk y.2.1 y.1 y.2.2.1 y.2.2.2 cuff x.2 with
    | some x => some (frameFail Code.CUFF_MAP_MISMATCH x.1)
    | none =>
      if chans.all fun y => cuffRoutesOk y.1 y.2.2.1 y.2.2.2 cuff then none
      else some ⟨Code.CUFF_MAP_MISMATCH, 3, 0, 0⟩

/-- The control block and channel table of a slot enabled for a running partition are unchanged (R259). -/
def slotUnchanged (s : State) (p : Nat) (old m : List Host.Cell) (fa : Nat) : Bool :=
  !partRunning s p || decide (ctlMode old (faRow fa) = 0) ||
  (List.range 3).all fun k =>
    decide (sslice old ((fa + k) * 4096) ((fa + k + 1) * 4096) = sslice m ((fa + k) * 4096) ((fa + k + 1) * 4096))

/-- The frame checks of R259 from "Ownership" to "Running slots", in the order of the table. `mask` names the regions, `old`
and `m` are the committed frames and what would stand, `wrote` the frame addresses written, `file` the pattern file. -/
def checkFrames (s : State) (p mask : Nat) (old m : List Host.Cell) (wrote : List Nat) (file : List Byte) : Option CfgFail :=
  let l := regionFrames mask
  let trees := wrote.filterMap faTree
  let tl := trees.map fun n => frameAddr 4 0 0 (0x10000 + n)
  let tiles := l.filter fun fa => decide (faTarget fa = 4) && decide (faFrame fa = 0)
  let slots := l.filter fun fa => decide (faTarget fa = 4) && decide (faFrame fa = 0x100)
  let fabric := l.filter fun fa => decide (faTarget fa = 4) && decide (faFrame fa < 2)
  let loops := loopCells m
  let chk := Code.CFG_FRAME_CHECK
  let fail : List (Option CfgFail) := [
    framesOk l (fun fa => maskBit (oget s (Od.REGIONS p)) (faRegion fa)) Code.CARVE_EXCEEDED,
    framesOk tl (fun fa => ownTree s p (faFrame fa - 0x10000)) Code.CARVE_EXCEEDED,
    framesOk slots (fun fa => queuesOwn p m (faRow fa)) Code.CARVE_EXCEEDED,
    framesOk (l ++ tl) (encodingOk m) chk,
    (driverClash m mask).map fun x => CfgFail.mk chk 2 (frameAddr 4 (12 * x.2.1 + x.2.2.2.1) x.1 1) (conflictWord x),
    framesOk fabric (fun fa => !frameLoops m loops fa) chk,
    framesOk tiles (bordersOk s p m) chk,
    framesOk tl (fun fa => treeOk s p m (faFrame fa - 0x10000)) chk,
    framesOk l (cksOk s p m) chk,
    framesOk l (bankOk m) chk,
    if 24 < slotsEnabled m then framesOk slots (fun fa => decide (ctlMode m (faRow fa) = 0)) chk else none,
    framesOk slots (fun fa => slotOk m (faRow fa)) chk,
    channelsFail s p mask m file,
    framesOk l (fun fa => regionLive s (faRegion fa) || wrote.contains fa) chk,
    framesOk slots (slotUnchanged s p old m) Code.NOT_IDLE]
  fail.findSome? id

end Sys2Proof.Machine
end

