-- ==== Sys2Proof/Machine/CfgLoad.lean ====
section
/-! DEFINITION. Configuration streams (09): staging, authentication, the stream commands, the checks, the commit, regions in
hold, and the INIT_N and DONE lines. -/

namespace Sys2Proof.Machine

/-! ## Staging (R253 to R255) -/

/-- BUSY of a partition's stream (R254). -/
def setBusy (s : State) (p : Nat) (b : Bool) : State :=
  let v := fget s Reg.CFG_STATUS F.CFG_STATUS_BUSY
  fset s Reg.CFG_STATUS F.CFG_STATUS_BUSY (v - v / 2 ^ p % 2 * 2 ^ p + (if b then 2 ^ p else 0))

/-- The report of a stream's end (R271). -/
def streamReport (s : State) (p code kind at_ : Nat) : State :=
  setBusy (oset (oset s (Od.STREAM_STATUS p) code) (Od.STREAM_FAIL_AT p) (kind * 2 ^ 62 + at_ % 2 ^ 32)) p false

/-- A record of a refused stream: severity 4, PLACE the value of 6p44.08 (R406, R445). -/
def streamLog (s : State) (p code : Nat) : State := logRecord s 10 4 p code (oget s (Od.STREAM_FAIL_AT p)) []

/-- The bytes of the present stream in its partition's staging area (R253). -/
def stageOf (s : State) (p : Nat) : List Byte := memBytes s ((getPart s p).stageAt.getD 0) (getPart s p).staged

/-- The staging area, placed in the carve at its first use (R253, R292). -/
def stageArea (s : State) (p : Nat) : State :=
  if (getPart s p).stageAt.isSome then s
  else
    let a := placeArea s p (oget s (Od.STAGE_MIB p))
    setPart a.2 p { getPart a.2 p with stageAt := some a.1, staged := 0 }

/-- Bytes added to the present stream in its staging area. -/
def stageAdd (s : State) (p : Nat) (bs : List Byte) : State :=
  let s := stageArea s p
  let x := getPart s p
  let a := x.stageAt.getD 0 + x.staged
  setPart (setMemBytes (noteFresh s a bs.length) a bs) p { x with staged := x.staged + bs.length }

/-- A stream refused before its commit point: nothing of it takes effect. Bytes of it still to come are discarded. It has written no
frame and held no region (R271). -/
def streamRefuse (s : State) (p code kind at_ : Nat) : State :=
  let x := getPart s p
  let bs := stageOf s p
  let rest := if x.stream.isNone ∧ bs.length < leAt bs 8 8 then bs else []
  let s := oset (oset s (Od.FRAMES_WRITTEN p) 0) (Od.HOLD_US p) 0
  streamLog (streamReport (setPart s p { x with staged := 0, stream := none, surplus := rest }) p code kind at_) p code

/-- Bytes of a stream that is being discarded: they count until its STREAM_LEN has passed. -/
def discardBytes (l : List Byte) : List Byte := if 16 ≤ l.length ∧ leAt l 8 8 ≤ l.length then [] else l

/-- Bytes from the configuration queue (R253, R254): they join the stream in staging; a second stream is refused with
NOT_IDLE; bytes for a partition that is not OPEN are discarded with WRONG_STATE (R255). -/
def stageBytes (s : State) (p : Nat) (bs : List Byte) : State :=
  let x := getPart s p
  if bs.isEmpty then s
  else if s.power.closing then answer s Code.NOT_IDLE
  else if partState s p ≠ 2 then
    (if x.surplus.isEmpty then streamLog (streamReport s p Code.WRONG_STATE 0 0) p Code.WRONG_STATE else s)
  else if !x.surplus.isEmpty then setPart s p { x with surplus := discardBytes (x.surplus ++ bs) }
  else if x.stream.isSome || (decide (64 ≤ x.staged) && decide (leAt (stageOf s p) 8 8 ≤ x.staged)) then
    streamLog (setPart s p { x with surplus := discardBytes bs }) p Code.NOT_IDLE
  else
    let all := stageOf s p ++ bs
    let n := if 16 ≤ all.length then max 64 (leAt all 8 8) else all.length
    let s := stageAdd (setPart s p { x with surplus := discardBytes (all.drop n) }) p ((all.take n).drop x.staged)
    let s := setBusy s p true
    if (all.drop n).isEmpty then s else streamLog s p Code.NOT_IDLE

/-- A partition's configuration key: 32 bytes (R286). -/
def cfgKey (s : State) (p : Nat) : Option (List Nat) := (liveKey s p classCfg 0).map fun k => keyBytes classCfg k.1

/-- The IV of a stream, its 64 header bytes, its body and its tag (R248, R249). -/
def streamIv (h : List Byte) : List Nat := ofBytes (bytesAt h 0x1C 12)
def streamHead (h : List Byte) : List Nat := ofBytes (h.take 64)
def streamBody (h : List Byte) (n : Nat) : List Nat := ofBytes ((h.take (n - 16)).drop 64)
def streamTag (h : List Byte) (n : Nat) : List Nat := ofBytes ((h.take n).drop (n - 16))

/-- The tag of a stream of `n` bytes verifies under the partition's configuration key (R249, R256). -/
def streamTagOk (s : State) (p : Nat) (h : List Byte) (n : Nat) : Bool :=
  match cfgKey s p with
  | some k => decide (gcmTag k (streamIv h) (streamHead h) (streamBody h n) = streamTag h n)
  | none => false

/-- The decrypted body of a stream of `n` bytes (R249). -/
def streamPlain (s : State) (p : Nat) (h : List Byte) (n : Nat) : List Byte :=
  match cfgKey s p with
  | some k => toBytes (gcmDecrypt k (streamIv h) (streamBody h n))
  | none => []

/-- Bytes as little-endian words (R9). -/
def wordsLE (n : Nat) (l : List Byte) : List Word :=
  match n with
  | 0 => []
  | n + 1 => BitVec.ofNat 32 (leNat (l.take 4)) :: wordsLE n (l.drop 4)

/-- STREAM_ARRIVED's checks of the header, tag and sequence (R248, R252, R255 to R257), in order. -/
def headerRefusal (s : State) (p : Nat) (h : List Byte) : Option Nat :=
  let n := leAt h 8 8
  if partState s p ≠ 2 then some Code.WRONG_STATE
  else if leAt h 0 4 ≠ 0x47464356 ∨ leAt h 4 2 ≠ 2 ∨ leAt h 7 1 ≠ 0 ∨ leAt h 0x1A 2 ≠ 0 ∨ leAt h 0x28 24 ≠ 0 then
    some Code.CFG_FORMAT
  else if leAt h 6 1 ≠ p then some Code.ACCESS_DENIED
  else if oget s (Od.STAGE_MIB p) * 2 ^ 20 < n then some Code.LENGTH_EXCEEDS_BUFFER
  else if n % 16 ≠ 0 ∨ n < 96 then some Code.CFG_FORMAT
  else if h.length < n then none
  else if leAt h 0x18 2 ≠ oget s (Od.CFG_KEY_ID p) ∨ streamTagOk s p h n = false then some Code.CFG_AUTH_FAIL
  else if leAt h 0x10 8 ≤ oget s (Od.STREAM_SEQ_LAST p) then some Code.CFG_STREAM_SEQ
  else none

/-- The next word of a stream's body must hold a listed OP (R250, R251). -/
def settleStream (s : State) (p : Nat) : State :=
  match (getPart s p).stream with
  | some x =>
    if x.phase = 0 then
      match x.body[x.pos]? with
      | some w => if w.toNat / 2 ^ 24 ≤ 7 then s else streamRefuse s p Code.CFG_FORMAT 1 x.pos
      | none => streamRefuse s p Code.CFG_FORMAT 1 x.pos
    else s
  | none => s

/-- STREAM_ARRIVED: the stream's bytes have arrived: they are read from their staging area, the tag is checked over the whole of it
and the body decrypted in place before a command is interpreted (R253, R256, R257). `e` says what the reads of the staging area's
lines meet. -/
def streamArrived (s : State) (p : Nat) (e : AccessEvent) : State :=
  let x := getPart s p
  if x.stream.isSome || decide (x.staged < 64) || !leased s then s
  else
    let r := engineRead s (x.stageAt.getD 0) x.staged e
    let s := r.1
    let h := stageOf s p
    if halted s then s
    else
      match if r.2 = 0 then headerRefusal s p h else some r.2 with
      | some code => streamRefuse s p code 0 0
      | none =>
        let n := leAt h 8 8
        if x.staged < n then s
        else
          let b := streamPlain s p h n
          let s := setMemBytes s (x.stageAt.getD 0 + 64) b
          settleStream (setPart s p { x with stream := some { seq := leAt h 0x10 8, body := wordsLE ((n - 80) / 4) b } }) p

/-- STAGE_TIMEOUT: the bytes of a stream stop arriving (R253). -/
def stageTimeout (s : State) (p : Nat) : State :=
  let x := getPart s p
  let s := setPart s p { x with surplus := [] }
  if x.stream.isNone ∧ x.staged ≠ 0 ∧ ¬ (64 ≤ x.staged ∧ leAt (stageOf s p) 8 8 ≤ x.staged) then
    let s := streamRefuse s p Code.TIMEOUT 0 0
    setPart s p { getPart s p with surplus := [] }
  else s

/-! ## The stream commands (R250 to R252) -/

/-- One stream command: `f` runs on the command word's ARG where the next body word has this OP, and answers the failure or
the stream with the words it took. -/
def streamOp (s : State) (p op : Nat) (f : Stream → Nat → Except CfgFail Stream) : State :=
  match (getPart s p).stream with
  | some x =>
    match x.body[x.pos]? with
    | some w =>
      if x.phase = 0 ∧ w.toNat / 2 ^ 24 = op then
        match f x (w.toNat % 2 ^ 24) with
        | .ok y => settleStream (setPart s p { getPart s p with stream := some y }) p
        | .error e => streamRefuse s p e.code e.kind e.at_
      else s
    | none => s
  | none => s

/-- A failure in the body's structure, at a word offset. -/
def bodyFail (x : Stream) (code : Nat) : Except CfgFail Stream := .error ⟨code, 1, x.pos, 0⟩

/-- CFG_NOP. -/
def opNop (x : Stream) (arg : Nat) : Except CfgFail Stream :=
  if arg ≠ 0 then bodyFail x Code.CFG_FORMAT else .ok { x with pos := x.pos + 1 }

/-- FAR. -/
def opFar (x : Stream) (arg : Nat) : Except CfgFail Stream :=
  match x.body[x.pos + 1]? with
  | some w => if arg ≠ 0 then bodyFail x Code.CFG_FORMAT else .ok { x with pos := x.pos + 2, far := some w.toNat }
  | none => bodyFail x Code.CFG_FORMAT

/-- WRITE and ZERO: `n` consecutive frames from the current address, with their data in the body or zeros (R247, R250,
R251). -/
def opFrames (x : Stream) (n : Nat) (data : Bool) : Except CfgFail Stream :=
  if data ∧ x.body.length < x.pos + 1 + 1024 * n then bodyFail x Code.LENGTH_EXCEEDS_BUFFER
  else
    match x.far with
    | none => bodyFail x Code.CFG_FORMAT
    | some fa =>
      if faTarget fa < 4 ∨ 5 < faTarget fa then bodyFail x Code.ACCESS_DENIED
      else if x.regions.isNone ∨ 0x20000 < faFrame fa + n then bodyFail x Code.CFG_FORMAT
      else
        let fs := (List.range n).map fun i => fa + i
        if fs.all fun f => frameDefined f && (!x.writes.any fun w => decide (w.1 = f)) &&
            ((faTree f).isSome || maskBit (x.regions.getD 0) (faRegion f)) then
          let new := (List.range n).map fun i => (fa + i, if data then some (x.pos + 1 + 1024 * i) else none)
          .ok { x with
            pos := x.pos + 1 + (if data then 1024 * n else 0),
            far := some (fa / 2 ^ 17 * 2 ^ 17 + (faFrame fa + n) % 2 ^ 17), writes := x.writes ++ new }
        else bodyFail x Code.CFG_FORMAT

/-- REGIONS. -/
def opRegions (x : Stream) (arg : Nat) : Except CfgFail Stream :=
  if x.regions.isSome ∨ 2 ^ 16 ≤ arg then bodyFail x Code.CFG_FORMAT
  else .ok { x with pos := x.pos + 1, regions := some arg }

/-- PATTERN. -/
def opPattern (x : Stream) (arg : Nat) : Except CfgFail Stream :=
  match x.body[x.pos + 1]?, x.body[x.pos + 2]? with
  | some lo, some hi =>
    let n := lo.toNat + hi.toNat * 2 ^ 32
    if arg ≠ 0 ∨ x.pattern.isSome then bodyFail x Code.CFG_FORMAT
    else if x.body.length < x.pos + 3 + (n + 3) / 4 then bodyFail x Code.LENGTH_EXCEEDS_BUFFER
    else .ok { x with pos := x.pos + 3 + (n + 3) / 4, pattern := some (x.pos + 3, n) }
  | _, _ => bodyFail x Code.CFG_FORMAT

/-- KEY_ROLL: the wrapped key in the 10 words that follow (R250). -/
def opKeyRoll (x : Stream) (arg : Nat) : Except CfgFail Stream :=
  if arg ≠ 0 ∨ x.keyRoll.isSome ∨ x.body.length < x.pos + 11 then bodyFail x Code.CFG_FORMAT
  else .ok { x with pos := x.pos + 11, keyRoll := some (x.pos + 1) }

/-! ## Checks (R259) -/

/-- The bytes of body words from word `a`, `n` of them. -/
def bodyBytes (x : Stream) (a n : Nat) : List Byte := ((x.body.drop a).take ((n + 3) / 4)).flatMap (fun w => leBytes 4 w.toNat) |>.take n

/-- The key that KEY_ROLL's words unwrap to under the present key, or none (R250, R258). -/
def rolledKey (s : State) (p : Nat) (x : Stream) (a : Nat) : Option (BitVec 768) :=
  match cfgKey s p with
  | some k => (keyUnwrap k (ofBytes (bodyBytes x a 40))).map keyOfBytes
  | none => none

/-- The pattern file a stream carries; empty where it carries none. -/
def streamFile (x : Stream) : List Byte :=
  match x.pattern with
  | some (a, n) => bodyBytes x a n
  | none => []

/-- One of a stream's frames written over a set of frames. -/
def putFrame (x : Stream) (m : List Host.Cell) (w : Nat × Option Nat) : List Host.Cell :=
  let m := sclear m (w.1 * 4096) (w.1 * 4096 + 4096)
  match w.2 with
  | some a => swriteBytes memDefault m (w.1 * 4096) (bodyBytes x a 4096)
  | none => m

/-- The committed frames overlaid with a stream's frames (R259). -/
def mergeFrames (m : List Host.Cell) (x : Stream) : List Host.Cell := x.writes.foldl (putFrame x) m

/-- R183 steps 2 to 5 for a stream with PATTERN. -/
def patternRefusal (s : State) (p : Nat) (x : Stream) (ch : List (List SwitchChange)) : Option PatFail :=
  match x.pattern with
  | none => none
  | some (_, n) =>
    match checkPattern s p (streamFile x) n (mergeFrames s.goldenFrames x) (x.regions.getD 0) with
    | .error e => some e
    | .ok l => if (mapFirst s p l ch).isNone then some ⟨Code.NO_CAPACITY, 0, 0, 0⟩ else none

/-- COMMIT: the words after it are 0, then every check of R259 in the order of its table; a stream that passes waits to commit
with its rolled key's slot and ID reserved (R251, R258 to R260). -/
def streamCheck (s : State) (p : Nat) (ch : List (List SwitchChange)) : State :=
  match (getPart s p).stream with
  | some x =>
    match x.body[x.pos]? with
    | some w =>
      if ¬ (x.phase = 0 ∧ w.toNat / 2 ^ 24 = 7) then s
      else if w.toNat % 2 ^ 24 ≠ 0 then streamRefuse s p Code.CFG_FORMAT 1 x.pos
      else
        match (x.body.drop (x.pos + 1)).findIdx? fun w => w != 0 with
        | some i => streamRefuse s p Code.CFG_FORMAT 1 (x.pos + 1 + i)
        | none =>
          match patternRefusal s p x ch with
          | some e => streamRefuse (loadRefused s p e) p e.code 3 0
          | none =>
            let file := if x.pattern.isSome then streamFile x else (getPart s p).golden.file
            match checkFrames s p (x.regions.getD 0) s.goldenFrames (mergeFrames s.goldenFrames x) (x.writes.map fun w => w.1) file with
            | some e =>
              streamRefuse (if e.drive = 0 then s else oset s (Od.DRIVER_CONFLICT p) e.drive) p e.code e.kind e.at_
            | none =>
              match x.keyRoll with
              | none => setPart s p { getPart s p with stream := some { x with phase := 1 } }
              | some a =>
                match rolledKey s p x a, keyRefusal s with
                | none, _ => streamRefuse s p Code.CFG_AUTH_FAIL 0 0
                | some _, some code => streamRefuse s p code 0 0
                | some key, none =>
                  let k := keyTake s
                  setPart k.2 p { getPart k.2 p with
                    stream := some { x with phase := 1, newKey := key, keySlot := some k.1 } }
    | none => s
  | none => s

/-! ## Commit (R260 to R262) -/

/-- The Lining holds the partition for a rollback or a capture (R183 step 7). -/
def liningHolds (s : State) (p : Nat) : Bool :=
  let x := getPart s p
  decide (x.hold ≠ .none) || ((decide (oget s (Od.RUN_STATE p) = 1) || decide (oget s (Od.RUN_STATE p) = 2)) && captureDue s p x.completed)

/-- A stream may not commit yet (R260 order 1, R400). -/
def commitWaits (s : State) (p : Nat) (x : Stream) : Bool :=
  !fbit s Reg.CFG_STATUS F.CFG_STATUS_INIT_N_IN || (x.pattern.isSome && liningHolds s p) || !leased s

/-- The named regions enter or leave hold: CFG_REGION.HOLD and CUFF_STATUS.RECONF (R265). -/
def setHold (s : State) (mask : Nat) (b : Bool) : State :=
  let v := fget s Reg.CFG_REGION F.CFG_REGION_HOLD
  let v := if b then v ||| mask else v - (v &&& mask)
  fset (fset s Reg.CFG_REGION F.CFG_REGION_HOLD v) Reg.CUFF_STATUS F.CUFF_STATUS_RECONF v

/-- The trees that a stream writes. -/
def treesWritten (x : Stream) : Nat := (x.writes.filterMap fun w => faTree w.1).foldl (fun m n => maskPut m n true) 0

/-- Regions placed in hold: pins to their hold states, border latches held, flip-flops in reset at INIT, and the trees that the stream
writes stopped (R265). -/
def enterHold (s : State) (x : Stream) : State :=
  let mask := x.regions.getD 0
  let s := setHold (closeLatches (holdPins s mask) mask) mask true
  initCells { s with resetRegions := s.resetRegions ||| mask, treesHeld := s.treesHeld ||| treesWritten x } mask

/-- Order 1 of R266: the reset of the regions is released, and their stopped trees may start again at the next rising edge. -/
def releaseReset (s : State) (x : Stream) : State :=
  { s with resetRegions := maskLess s.resetRegions (x.regions.getD 0), treesHeld := maskLess s.treesHeld (treesWritten x) }

/-- One slot takes its committed mode, off where 24 others are enabled (R232). One whose control block or channel table has changed starts
afresh at the partition's completed count. -/
def takeSlot (p : Nat) (old : List Host.Cell) (s : State) (i : Nat) : State :=
  let n := (getPart s p).completed
  let fa := frameAddr 4 16 i 0x100
  let s := if (List.range 3).all fun k =>
      decide (sslice old ((fa + k) * 4096) ((fa + k + 1) * 4096) = sslice s.frames ((fa + k) * 4096) ((fa + k + 1) * 4096)) then s
    else
      rset (rset (setSlot s i { bound := n, moved := n, moveMark := n }) (Reg.CUFF_FP_BOUND i) 0xFFFFFFFF#32)
        (Reg.CUFF_FP_MOVED i) 0xFFFFFFFF#32
  let others := ((List.range 32).filter fun k => decide (k ≠ i) && decide (slotMode s k ≠ 0)).length
  let full := decide (ctlMode s.frames i ≠ 0) && decide (24 ≤ others)
  let s := fset s (Reg.CUFF_FP_STATUS i) F.CUFF_FP_STATUS_MODE (if full then 0 else ctlMode s.frames i)
  let s := if full then
      logRecord (fset s Reg.CUFF_STATUS F.CUFF_STATUS_FENCE_LIMIT 1) 9 (Config.severity Code.FENCE_LIMIT).val p Code.FENCE_LIMIT
        (Reg.CUFF_FP_STATUS i) []
    else s
  refreshSlot s i

/-- The slots of the regions in a mask take their committed modes, those that go off first; FENCES counts what is enabled (R232). -/
def takeSlots (s : State) (p mask : Nat) (old : List Host.Cell) : State :=
  let mine := (List.range 32).filter fun i => maskBit mask (i / 2)
  let off := mine.filter fun i => decide (ctlMode s.frames i = 0)
  let on := mine.filter fun i => decide (ctlMode s.frames i ≠ 0)
  let s := (off ++ on).foldl (takeSlot p old) s
  fset s Reg.CUFF_STATUS F.CUFF_STATUS_FENCES ((List.range 32).filter fun i => decide (slotMode s i ≠ 0)).length

/-- The supply declarations of the region blocks written (R246, R262). -/
def takeBanks (s : State) (mask : Nat) : State :=
  (List.range 16).foldl (fun s b =>
    if maskBit mask b then
      bankCheck (fset s (Reg.CUFF_BANK b) F.CUFF_BANK_VIO_SEL (frameLE s.frames (frameAddr 5 0 b 0) 0 4 % 4)) b
    else s) s

/-- KEY_ROLL at the commit point: the new key and ID become the partition's configuration key, the old slot is zeroised and
freed (R258). -/
def takeKey (s : State) (p : Nat) (x : Stream) : State :=
  match x.keySlot with
  | some (slot, id) =>
    oset (keyPut (zeroiseAll s (keySlots s p classCfg 0)) p classCfg x.newKey slot id) (Od.CFG_KEY_ID p) id
  | none => s

/-- MiB of one golden copy of a partition's Cuff frames: those of its regions and of the 8 trees (R217, R370). -/
def cuffMib (s : State) (p : Nat) : Nat := (4096 * ((regionFrames (oget s (Od.REGIONS p))).length + 8) + 0xFFFFF) / 0x100000

/-- The places of a partition's two golden copies of its Cuff frames, from its first commit on (R262, R370). -/
def cuffArea (s : State) (p : Nat) : State :=
  if (getPart s p).cuffAt.isSome then s
  else
    let a := placeTwo s p (cuffMib s p)
    setPart a.2 p { getPart a.2 p with cuffAt := some a.1 }

/-- The trees that a stream has written start from their new configuration: low, until the next rising edge of their source (R266). -/
def takeTrees (s : State) (x : Stream) : State :=
  (x.writes.filterMap fun w => faTree w.1).foldl (fun s n =>
    { s with treeHigh := maskPut s.treeHigh n false,
             treeRaw := maskPut s.treeRaw n (decide (treeSrc s n ≠ 0) && sourceLevel s n) }) s

/-- The commit point of a stream but for its pattern: its frames stand, their golden copies are replaced, and the commit record holds
its sequence (R262). -/
def commitFrames (s : State) (p : Nat) (x : Stream) : State :=
  let mask := x.regions.getD 0
  let old := s.goldenFrames
  let s := if x.writes.isEmpty then s else cuffArea s p
  let s := { s with frames := mergeFrames s.frames x, goldenFrames := mergeFrames s.goldenFrames x }
  let s := takeKey (takeBanks (takeSlots s p mask old) mask) p x
  let s := setPart s p { getPart s p with commitRec := some x.seq }
  let s := oset (oset s (Od.STREAM_SEQ_LAST p) x.seq) (Od.FRAMES_WRITTEN p) x.writes.length
  let s := fset s Reg.CFG_REGION F.CFG_REGION_FIRST (fget s Reg.CFG_REGION F.CFG_REGION_FIRST ||| mask)
  let s := if mask = 0 then s else fset s Reg.CUFF_STATUS F.CUFF_STATUS_COMMITTED 1
  takeTrees (initCells s mask) x

/-- The frame address `fa` names a frame that the load writes: one of the stream's, or with a pattern a Weave frame of the partition's
band (R183 step 8, R245). -/
def loadWrites (s : State) (p : Nat) (x : Stream) (fa : Nat) : Bool :=
  (x.writes.any fun w => decide (w.1 = fa)) ||
  (x.pattern.isSome && match weaveFrame fa with
    | some (c, _) => rowInBand s p c.die.val c.row.val
    | none => false)

/-- What stands after a frame has failed its read-back: the stream's frames up to it, and in its own place what read back, which is not
what was staged (R261). -/
def failedFrame (s : State) (x : Stream) (fa : Nat) : State :=
  match x.writes.findIdx? fun w => decide (w.1 = fa) with
  | some i =>
    let b := freeBytes s 4096
    { b.2 with frames := swriteBytes memDefault ((x.writes.take i).foldl (putFrame x) b.2.frames) (fa * 4096) b.1 }
  | none =>
    match weaveFrame fa with
    | some (c, w) =>
      let b := freeBytes s 4096
      weaveWrite b.2 c w b.1
    | none => s

/-- A read-back mismatch that rewriting did not cure: the stream stops before its commit point and its regions stay in hold
(R261). A pattern whose writing had begun leaves no runnable pattern (R184). -/
def readbackFail (s : State) (p : Nat) (x : Stream) (fa : Nat) : State :=
  let s := fadd (failedFrame s x fa) Reg.CFG_READBACK_CNT F.CFG_READBACK_CNT_COUNT 1
  let s := if x.pattern.isSome then
      let s := restClusters (unloadDone s p) p
      let s := setPart s p { getPart s p with golden := {}, vmap := [], ckptGate := none, seamMap := none }
      let s := oset (oset (osetTell s p (Od.RUN_STATE p) 0) (Od.VMAP_FOLD p) 0) (Od.LOAD_STATUS p) Code.CFG_READBACK
      bumpVmap s p
    else s
  let n := match x.writes.findIdx? fun w => decide (w.1 = fa) with
    | some i => i + 1
    | none => 0
  oset (streamRefuse s p Code.CFG_READBACK 2 fa) (Od.FRAMES_WRITTEN p) n

/-- STREAM_COMMIT: orders 1 to 5 of R260 and order 1 of R266, once nothing is waited for. `ch` gives the switch entries re-derived for
each image tried, and `bad` the address of the first frame that does not read back, or none (R261). -/
def streamCommit (s : State) (p : Nat) (ch : List (List SwitchChange)) (bad : Option Nat) : State :=
  match (getPart s p).stream with
  | some x =>
    if x.phase ≠ 1 ∨ commitWaits s p x = true then s
    else if x.pattern.isSome ∧ partRunning s p = true then
      streamRefuse (loadRefused s p ⟨Code.NOT_IDLE, 0, 0, 0⟩) p Code.NOT_IDLE 0 0
    else
      let file := streamFile x
      let mapped : Option (Image × List (Nat × ClusterId) × List Host.Cell) :=
        match checkPattern s p file file.length (mergeFrames s.goldenFrames x) (x.regions.getD 0) with
        | .ok l => mapFirst s p l ch
        | .error _ => none
      if x.pattern.isSome ∧ mapped.isNone then
        streamRefuse (loadRefused s p ⟨Code.NO_CAPACITY, 0, 0, 0⟩) p Code.NO_CAPACITY 3 0
      else
        let s := enterHold s x
        let s := setPart s p { getPart s p with stream := some { x with heldAt := s.ticks } }
        let first : Image := match readImage file 1 with
          | .ok m => m
          | .error _ => { fold := 1, len := 0, foot := [] }
        let r := match mapped with
          | some (m, place, ws) => loadImage s p file first m place ws
          | none => (s, {})
        match bad.filter (loadWrites s p x) with
        | some fa => readbackFail r.1 p x fa
        | none =>
          let s := commitFrames r.1 p x
          let s := match mapped with
            | some (m, place, ws) => commitPattern s p file first m place ws r.2
            | none => s
          releaseReset (setPart s p { getPart s p with stream := some { x with phase := 2, heldAt := s.ticks } }) x
  | none => s

/-- LOAD_WAIT_END: the wait for the Lining is over, and a stream with PATTERN tests that its partition is stopped (R183 step 7,
R260 order 1). -/
def loadWaitEnd (s : State) (p : Nat) : State :=
  match (getPart s p).stream with
  | some x =>
    if x.phase = 1 ∧ commitWaits s p x = false ∧ x.pattern.isSome ∧ partRunning s p = true then
      streamRefuse (loadRefused s p ⟨Code.NOT_IDLE, 0, 0, 0⟩) p Code.NOT_IDLE 0 0
    else s
  | none => s

/-! ## INIT_N and DONE (R268 to R270) -/

/-- REGION_RELEASE: 2 µs after order 1 of R266, the pins, the isolation latches and the slot signals follow the fabric again, and the
stream is reported (R260 orders 6 and 7, R266). -/
def regionRelease (s : State) (p : Nat) : State :=
  match (getPart s p).stream with
  | some x =>
    if x.phase ≠ 2 then s
    else
      let mask := x.regions.getD 0
      let s := settleFabric (openLatches (setHold s mask false))
      let s := oset s (Od.HOLD_US p) (min ((s.ticks - x.heldAt) * 100 / 15625) 0xFFFFFFFF)
      let s := setPart s p { getPart s p with stream := none, staged := 0 }
      let s := streamReport s p 0 0 0
      doneEval (logRecord s 10 2 p Code.STREAM_COMMITTED 0 [])
  | none => s

/-- The module pulls a line, INIT_N or DONE, low: only with valid VIN (R268, R269, R526). -/
def pullsLine (s : State) (f : Fld) : Bool := fbit s Reg.PWR_STATUS F.PWR_STATUS_VIN_OK && fbit s Reg.CFG_STATUS f

/-- INIT_N_CHANGE: the line's level; it is low while this module pulls it (R268). -/
def initN (s : State) (high : Bool) : State :=
  fset s Reg.CFG_STATUS F.CFG_STATUS_INIT_N_IN
    (if high && !pullsLine s F.CFG_STATUS_INIT_N_PULL then 1 else 0)

/-- DONE_RISE: every party has released the line. Partitions with START_ON_DONE receive RUN (R269, R439), and stops of a DONE
fall no longer hold (R270). -/
def doneRise (s : State) : State :=
  if fbit s Reg.CFG_STATUS F.CFG_STATUS_DONE_PULL || fbit s Reg.CFG_STATUS F.CFG_STATUS_DONE_IN then s
  else
    let s := oset (fset s Reg.CFG_STATUS F.CFG_STATUS_DONE_IN 1) Od.DONE_STATE 2
    (List.range 16).foldl (fun s p =>
      let s := if (getPart s p).doneFall.isSome then setPart s p { getPart s p with doneFall := none } else s
      if oget s (Od.START_ON_DONE p) = 1 ∧ runState s p = 1 then resumeRun s p else s) s

/-- The first ecycle that no cluster of a partition has begun. -/
def nextBoundary (s : State) (p : Nat) : Nat :=
  ((partClusters s p).filter (participating s)).foldl (fun n c =>
    let k := getCl s c.idx
    max n (if k.inSweep then k.ecycle + 1 else k.ecycle)) (getPart s p).completed

/-- DONE_FALL: counted and logged while this module has released the line; DONE_FALL_ACTION 1 closes the gates of DONE_GROUP
partitions at their next sweep boundary (R270). -/
def doneFall (s : State) : State :=
  if !fbit s Reg.CFG_STATUS F.CFG_STATUS_DONE_IN || fbit s Reg.CFG_STATUS F.CFG_STATUS_DONE_PULL then s
  else
    let s := oset (fset s Reg.CFG_STATUS F.CFG_STATUS_DONE_IN 0) Od.DONE_STATE 1
    let s := fadd s Reg.CFG_DONE_FALL_CNT F.CFG_DONE_FALL_CNT_COUNT 1
    let s := logRecord s 10 (Config.severity (Config.code 270)).val modulePart (Config.code 270) 0 []
    if oget s Od.DONE_FALL_ACTION = 1 then
      (List.range 16).foldl (fun s p =>
        if oget s (Od.DONE_GROUP p) = 1 ∧ (runState s p = 1 ∨ runState s p = 2) then
          clearStoppedRun (pauseIfDue (setPart s p { getPart s p with doneFall := some (nextBoundary s p) }) p) p
        else s) s
    else s

/-- DONE_HOLD_TIMEOUT: a region of a DONE_GROUP partition has been in hold for longer than 10 ms (R269). -/
def doneHoldTimeout (s : State) (r : Nat) : State :=
  match regionPart s r with
  | some p => if regionHeld s r ∧ oget s (Od.DONE_GROUP p) = 1 then setRelease s false else s
  | none => s

/-! ## The commands -/

def execStreamArrived (p : Fin 16) (e : AccessEvent) (s : State) : Host.Outcome State Fault Refusal := .next (streamArrived s p.val e)
def execStageTimeout (p : Fin 16) (s : State) : Host.Outcome State Fault Refusal := .next (stageTimeout s p.val)
def execCfgNop (p : Fin 16) (s : State) : Host.Outcome State Fault Refusal := .next (streamOp s p.val 0 opNop)
def execFar (p : Fin 16) (s : State) : Host.Outcome State Fault Refusal := .next (streamOp s p.val 1 opFar)
def execWrite (p : Fin 16) (s : State) : Host.Outcome State Fault Refusal :=
  .next (streamOp s p.val 2 fun x arg => opFrames x (arg + 1) true)
def execZero (p : Fin 16) (s : State) : Host.Outcome State Fault Refusal :=
  .next (streamOp s p.val 3 fun x arg => opFrames x (arg + 1) false)
def execRegions (p : Fin 16) (s : State) : Host.Outcome State Fault Refusal := .next (streamOp s p.val 4 opRegions)
def execPattern (p : Fin 16) (s : State) : Host.Outcome State Fault Refusal := .next (streamOp s p.val 5 opPattern)
def execKeyRoll (p : Fin 16) (s : State) : Host.Outcome State Fault Refusal := .next (streamOp s p.val 6 opKeyRoll)
def execCommit (p : Fin 16) (ch : List (List SwitchChange)) (s : State) : Host.Outcome State Fault Refusal :=
  .next (streamCheck s p.val ch)
def execStreamCommit (p : Fin 16) (ch : List (List SwitchChange)) (bad : Option Nat) (s : State) :
    Host.Outcome State Fault Refusal :=
  .next (streamCommit s p.val ch bad)
def execRegionRelease (p : Fin 16) (s : State) : Host.Outcome State Fault Refusal := .next (regionRelease s p.val)
def execLoadWaitEnd (p : Fin 16) (s : State) : Host.Outcome State Fault Refusal := .next (loadWaitEnd s p.val)
def execInitNChange (high : Bool) (s : State) : Host.Outcome State Fault Refusal := .next (initN s high)
def execDoneRise (s : State) : Host.Outcome State Fault Refusal := .next (doneRise s)
def execDoneFall (s : State) : Host.Outcome State Fault Refusal := .next (doneFall s)
def execCfgDoneRelease (release : Bool) (s : State) : Host.Outcome State Fault Refusal := .next (setRelease s release)
def execDoneHoldTimeout (r : Fin 16) (s : State) : Host.Outcome State Fault Refusal := .next (doneHoldTimeout s r.val)

end Sys2Proof.Machine
end

