-- ==== Sys2Proof/Machine/Checkpoint.lean ====
section
/-! DEFINITION. Checkpoints (R379 to R383): the carried values in unfolded coordinates, the commit, the spill, and the restore
of a partition to a checkpoint (R386 order 4). -/

namespace Sys2Proof.Machine

/-! ## Capture (R379, R381) -/

/-- The unfolded image and the image that runs, of a golden copy. -/
def goldenImages (g : Golden) : Option (Image × Image) :=
  match readImage g.file 1, readImage g.file g.fold with
  | .ok a, .ok b => some (a, b)
  | _, _ => none

/-- The stores that carry values, as (kind, BP, offset within a checkpoint's room for one cluster) (R71). -/
def carriedStores : List (Nat × Nat × Nat) :=
  (0, 0, 0) :: (2, 0, 0x20000) :: (List.range 32).map fun b => (1, b, 0x10000 + 0x800 * b)

/-- The stores of every virtual cluster of the image, translated out of the fold (R161, R379). -/
def captureStores (s : State) (first m : Image) (g : Golden) : List Host.Cell :=
  first.foot.foldl (fun t v =>
    let x := memberOf m v
    let c := placedAt (goldenPlace g) x.1
    carriedStores.foldl (fun t k =>
      let n := storeSize k.1 / m.fold
      swriteBytes memDefault t (v * 0x40000 + k.2.2) (memBytes s (storeAddr c k.1 k.2.1 + x.2 * n) n)) t) []

/-- A NoC address lies in a Pocket bank of a descriptor of the golden copy that satisfies `q`. -/
def inBankOf (g : Golden) (q : BitVec 128 → Bool) (a : Nat) : Bool :=
  g.descs.any fun e =>
    descValid e.2 && descPocket e.2 && q e.2 &&
    decide (pocketAddr (e.1 / 65536) (descBankFirst e.2) ≤ a) &&
    decide (a < pocketAddr (e.1 / 65536) (descBankFirst e.2 + descBankCountM1 e.2 + 1))

/-- Checkpoint `x` of a partition whose image maps (R379). -/
def captureCkpt (s : State) (p : Nat) : Option Checkpoint :=
  let x := getPart s p
  match goldenImages x.golden with
  | some (first, m) =>
    some ⟨x.completed, captureStores s first m x.golden, s.mem.filter fun e => inBankOf x.golden (fun d => !descRo d) e.1⟩
  | none => none

/-- No design-memory operation of the partition is in flight (R381 order 2, R386 order 2). -/
def opsDrained (s : State) (p : Nat) : Bool :=
  (List.range 4).all fun d => (getDie s d).ops.all fun o => decide (partOf s (clusterOf o.cluster) ≠ some p)

/-- Every cluster of the partition stands at the sweep boundary before its completed count. -/
def atBoundary (s : State) (p : Nat) : Bool :=
  ((partClusters s p).filter (participating s)).all fun c =>
    !(getCl s c.idx).inSweep && decide ((getCl s c.idx).ecycle = (getPart s p).completed)

/-- A partition that runs or may run again: PAUSED or RUNNING. -/
def runnable (s : State) (p : Nat) : Bool := decide (runState s p = 1) || decide (runState s p = 2)

/-- No cluster of the partition has a word or LDSW result still to come: the carried values are complete (R71). -/
def resultsDone (s : State) (p : Nat) : Bool := (partClusters s p).all fun c => (getCl s c.idx).pend.isEmpty

/-- CHECKPOINT_COMMIT: the capture of R381, orders 2 to 6. The gate holds for it, the partition stands at the boundary, and
its operations have drained. -/
def checkpointCommit (s : State) (p : Nat) : State :=
  let x := getPart s p
  if !runnable s p || decide (x.hold ≠ .none) || !captureDue s p x.completed || !atBoundary s p ||
      !(partDies s p).all (fun d => partIdle s p d) || !resultsDone s p then s
  else
    match captureCkpt s p with
    | some k =>
      let s := setPart s p { x with
        ckpt := some k, ckptDone := some x.completed, rolls := 0,
        ckptGate := (match x.ckptGate with
          | some g => if g ≤ x.completed then none else some g
          | none => none),
        undoPrev := if x.spilled then x.undo else [], spilled := false, undo := [], undoOld := false,
        inlog := x.inlog.filter fun r => decide (x.completed ≤ r.ecycle) }
      reviewPart (oset s (Od.CKPT_LAST p) x.completed) p
    | none => s

/-! ## Spills (R383) -/

/-- The virtual clusters that a partition's carve could hold: 32 for each carved row of each die (R379). -/
def carveVirtual (s : State) (p : Nat) : List Nat :=
  (List.range 4096).filter fun v => rowInBand s p (vCluster v).die.val (vCluster v).row.val

/-- The Pocket banks of a partition's carve, as (die, bank). -/
def carveBanks (s : State) (p : Nat) : List (Nat × Nat) :=
  (List.range 4).flatMap fun d => (List.range (oget s (Od.BANK_COUNT_W p d))).map fun i => (d, oget s (Od.BANK_FIRST_W p d) + i)

/-- The bytes of a checkpoint slot (R379): 76 KiB for each virtual cluster the carve could hold, in ascending number, then 32 KiB for
each carved bank. The order is the model's (assumption 86). -/
def slotImage (s : State) (p : Nat) (k : Checkpoint) : List Byte :=
  (carveVirtual s p).flatMap (fun v => carriedStores.flatMap fun t =>
    sreadBytes memDefault k.stores (v * 0x40000 + t.2.2) (storeSize t.1)) ++
  (carveBanks s p).flatMap fun b => sreadBytes memDefault k.pocket (pocketAddr b.1 b.2) 32768

/-- A 128-byte record of the undo log: the line's address, ciphertext, tag and key-generation bit, the rest 0 (R382). -/
def undoRecord (s : State) (p : Nat) (r : Nat × List Byte) : List Byte :=
  let g := lineBit s p r.1
  match keyForBit s p g with
  | some k =>
    let c := lineCipher k.1 r.1 (ofBytes r.2)
    leBytes 8 r.1 ++ toBytes c ++ leBytes 3 (lineTag k.1 k.2 r.1 c) ++ [if g then 1 else 0] ++ List.replicate 52 0
  | none => List.replicate 128 0

/-- The payload of a spilled object: the ecycle, the number of undo records, the slot, the records (assumption 86). -/
def spillPayload (s : State) (p : Nat) (k : Checkpoint) (undo : List (Nat × List Byte)) : List Byte :=
  leBytes 8 k.ecycle ++ leBytes 8 undo.length ++ slotImage s p k ++ undo.flatMap (undoRecord s p)

/-- Sector `i` of an object: its 4,096 bytes of plaintext encrypted as one data unit (R284). -/
def sectorBytes (key : BitVec 768) (object epoch i : Nat) (payload : List Nat) : List Nat :=
  let b := (payload ++ List.replicate (4064 - payload.length) 0) ++ natLE 4 object ++ natLE 4 i ++ natLE 8 epoch
  xtsEncrypt (keyK1 key) (keyK2 key) (object * 2 ^ 32 + i) (b ++ aesCmac (keyKM key) b)

/-- The sectors of an object. -/
def objectBytes (key : BitVec 768) (object epoch : Nat) (payload : List Byte) : List Byte :=
  toBytes (((pieces 4064 ((payload.length + 4063) / 4064) (ofBytes payload)).zipIdx).flatMap fun x =>
    sectorBytes key object epoch x.2 x.1)

/-- CHECKPOINT_SPILL: the last committed checkpoint leaves as sectors through SPILL_QUEUE, with the undo log of the epoch
before it; OBJECT_ID and EPOCH are the module's to assign (R284, R383). -/
def checkpointSpill (s : State) (p : Nat) : State :=
  let x := getPart s p
  let q := oget s (Od.SPILL_QUEUE p)
  match x.ckpt, liveKey s p classSector 0 with
  | some k, some key =>
    if oget s (Od.SPILL p) = 0 ∨ x.spilled = true ∨ ¬ dmaServes s q 4 1 = true then s
    else
      let o := drawNat s
      let e := drawNat o.2
      let object := o.1 % 2 ^ 32
      let epoch := e.1 % 2 ^ 64
      let s := e.2
      let s := sendHost s q ⟨objectBytes key.1 object epoch (spillPayload s p k x.undoPrev), true⟩
      let s := { s with spills := s.spills ++ [⟨object, epoch, key.2, k, x.undoPrev⟩] }
      let s := setPart s p { x with spilled := true, undoPrev := [] }
      let s := if oget s (Od.SPILL p) = 2 then oset s (Od.SPILL p) 0 else s
      oset s (Od.SPILL_LAST p) (object + epoch * 2 ^ 32 + key.2 * 2 ^ 96)
  | _, _ => s

/-- The payload of sector `i` of an object, where its CMAC verifies and its OBJECT_ID, SECTOR and EPOCH are those asked for
(R285). -/
def openSector (key : BitVec 768) (object epoch i : Nat) (c : List Nat) : Option (List Nat) :=
  let b := xtsDecrypt (keyK1 key) (keyK2 key) (object * 2 ^ 32 + i) c
  let t := b.take 4080
  if c.length = 4096 ∧ aesCmac (keyKM key) t = b.drop 4080 ∧
      t.drop 4064 = natLE 4 object ++ natLE 4 i ++ natLE 8 epoch then some (t.take 4064) else none

/-- The payload of an object's sectors, none where one of them is refused (R285). -/
def openObject (key : BitVec 768) (object epoch : Nat) (l : List Byte) : Option (List Byte) :=
  let cs := pieces 4096 ((l.length + 4095) / 4096) (ofBytes l)
  if cs.isEmpty then none
  else ((cs.zipIdx.mapM fun x => openSector key object epoch x.2 x.1).map List.flatten).map toBytes

/-- The checkpoint that a payload holds. -/
def payloadCkpt (s : State) (p : Nat) (b : List Byte) : Checkpoint :=
  let cl := carveVirtual s p
  let stores := cl.zipIdx.flatMap fun v =>
    (carriedStores.foldl (fun (t : Nat × List Host.Cell) k =>
      (t.1 + storeSize k.1, t.2 ++ (List.range (storeSize k.1)).map fun i =>
        (v.1 * 0x40000 + k.2.2 + i, b.getD (16 + v.2 * 77824 + t.1 + i) 0))) (0, [])).2
  let pocket := (carveBanks s p).zipIdx.flatMap fun x => (List.range 32768).map fun i =>
    (pocketAddr x.1.1 x.1.2 + i, b.getD (16 + cl.length * 77824 + x.2 * 32768 + i) 0)
  let put := fun (l : List Host.Cell) => l.foldl (fun m e => sset memDefault m e.1 e.2) []
  ⟨leAt b 0 8, put stores, put (pocket.filter fun e => inBankOf (getPart s p).golden (fun d => !descRo d) e.1)⟩

/-- The undo records that a payload holds: addresses and lines as they decrypt under the partition's line keys; a line whose tag
verifies under none of them holds free bytes. -/
def payloadUndo (s : State) (p : Nat) (b : List Byte) : State × List (Nat × List Byte) :=
  let at_ := 16 + ckptSlotBytes s p
  (List.range (leAt b 8 8)).foldl (fun (t : State × List (Nat × List Byte)) i =>
    let r := bytesAt b (at_ + 128 * i) 128
    match openLine t.1 (leAt r 0 8)
        ⟨BitVec.ofNat 512 (leAt r 8 64), BitVec.ofNat 24 (leAt r 72 3), decide (leAt r 75 1 = 1)⟩ with
    | some l => (t.1, t.2 ++ [(leAt r 0 8, l)])
    | none =>
      let f := freeBytes t.1 64
      (f.2, t.2 ++ [(leAt r 0 8, f.1)])) (s, [])

/-! ## Restore (R386 order 4) -/

/-- The clusters of the band as a restore leaves them: at stitch 0 of ecycle `n`, nothing in flight, queues and stages empty
(R71, R113). A spare that BP_SPARE_MAP selects is in use from this boundary on (R74). -/
def resetClusters (s : State) (p n : Nat) : State :=
  (partClusters s p).foldl (fun s c =>
    let k := getCl s c.idx
    let sp := rget s (Reg.BP_SPARE_MAP c)
    let held := participating s c
    let s := setCl s c.idx
      { ecycle := n, retired := k.retired, spareBad := k.spareBad, faultAt := k.faultAt,
        spareFor := if fldGet sp F.BP_SPARE_MAP_ACTIVE = 1 then some (fldGet sp F.BP_SPARE_MAP_REPLACED) else none,
        waits := if held then [causeRepair] else [], waited := held, repairWait := held }
    let s := showProgress (fset s (Reg.BP_CL_STATUS c) F.BP_CL_STATUS_RUN 0) c
    { s with stages := sclear s.stages (c.idx * 512) (c.idx * 512 + 512) }) s

/-- The operations and credit requests of the partition on a die dropped, and the bucket full (R180). -/
def resetDie (s : State) (p d : Nat) : State :=
  let x := getDie s d
  refreshHbmOut (setDie s d { x with
    ops := x.ops.filter (fun o => decide (partOf s (clusterOf o.cluster) ≠ some p)),
    credits := x.credits.filter (fun r => decide (partOf s (clusterOf r.1) ≠ some p)), bucket := 16384 }) d

/-- Channels that the partition's map, slots and probes name. -/
def partChannels (s : State) (p : Nat) : List Nat :=
  let m := seamMapOf s p
  (m.outs.map fun o => o.channel) ++ (m.ins.map fun i => i.channel) ++
  ((List.range 32).filter fun i => decide (slotPart s i = some p)).flatMap (fun i =>
    (slotChans s.frames i 0 ++ slotChans s.frames i 1).map fun c => c.1) ++
  (getPart s p).probeMap.map fun r => r.channel

/-- The channels return to ecycle `n`: values of ecycles from `n` on are gone, and what each lacks starts there. -/
def resetChannels (s : State) (p n : Nat) : State :=
  (partChannels s p).foldl (fun s c =>
    let before := fun (t : Nat × Nat) => if t.1 < n then t else (n, 0)
    { s with
      outbound := sset (fun _ => []) s.outbound c ((sget (fun _ => []) s.outbound c).filter fun v => decide (v.1 < n)),
      rings := sset (fun _ => []) s.rings c ((sget (fun _ => []) s.rings c).filter fun v => decide (v.ecycle < n)),
      inNext := sset (fun _ => (0, 0)) s.inNext c (before (sget (fun _ => (0, 0)) s.inNext c)),
      outNext := sset (fun _ => (0, 0)) s.outNext c (before (sget (fun _ => (0, 0)) s.outNext c)),
      fences := sset (fun _ => none) s.fences c none }) s

/-- The speed bridges enter REPLAY (R239): they bind and move again from ecycle `n`. -/
def resetBridges (s : State) (p n : Nat) : State :=
  (List.range 32).foldl (fun s i =>
    if bridgeSlot s p i then
      let y := getSlot s i
      let s := fset (setSlot s i { y with bound := min y.bound n, moved := min y.moved n })
        (Reg.CUFF_FP_STATUS i) F.CUFF_FP_STATUS_REPLAY 1
      rset s (Reg.CUFF_FP_BOUND i) (BitVec.ofNat 32 (min y.bound n + 0xFFFFFFFF))
    else s) s

/-- The carried values written back, translated into the image (R161). -/
def restoreStores (s : State) (first m : Image) (g : Golden) (t : List Host.Cell) : State :=
  let s := (goldenPlace g).foldl (fun s e => zeroMem s (stateBase e.2) (clusterBase e.2 + 0x330000)) s
  first.foot.foldl (fun s v =>
    let x := memberOf m v
    let c := placedAt (goldenPlace g) x.1
    carriedStores.foldl (fun s k =>
      let n := storeSize k.1 / m.fold
      setMemBytes s (storeAddr c k.1 k.2.1 + x.2 * n) (sreadBytes memDefault t (v * 0x40000 + k.2.2) n)) s) s

/-- Read-only design memories rewritten from the staged file: the elements of read-only descriptors as the load wrote them
(R379). -/
def restoreReadOnly (s : State) (p : Nat) (first : Image) (g : Golden) : State :=
  let filled := fillMemories s p first g
  g.descs.foldl (fun s e =>
    if descValid e.2 && descRo e.2 then
      (List.range (descDepthM1 e.2 + 1)).foldl (fun s a =>
        let b := descBase (e.1 / 65536) e.2
        elemWrite s b (a * descElemBits e.2) (descElemBits e.2) (elemRead filled b (a * descElemBits e.2) (descElemBits e.2))) s
    else s) s

/-- The lines of an undo log written back. -/
def applyUndo (s : State) (l : List (Nat × List Byte)) : State := l.foldl (fun s r => setMemBytes s r.1 r.2) s

/-- The partition's run state returns to ecycle `n` (R93, R386, R387). -/
def resetPart (s : State) (p n : Nat) : State :=
  let x := getPart s p
  let s := setPart s p { x with
    completed := n, taken := min x.taken n, breaks := x.breaks.filter (fun b => decide (b.1 < n)),
    marks := x.marks.filter (fun m => decide (m.ecycle < n)), posted := x.posted.filter (fun b => decide (b < n)),
    undo := [], undoOld := false, hold := .none, causes := [], tested := [], retire := [] }
  (List.range 4).foldl (fun s d => (captureHi s (Reg.BP_ECYCLE_HI d p) n).1) (oset s (Od.RUN_ECYCLE p) n)

/-- The golden copy that runs after a restore: instruction and schedule memories, descriptors and pointers written, and the
sweep lengths of its clusters set. -/
def writeGolden (s : State) (p : Nat) (g : Golden) : State :=
  let s := (partClusters s p).foldl (fun s c => rset s (Reg.BP_SWEEP_LEN c) 0) s
  let s := (goldenPlace g).foldl (fun s e => fset s (Reg.BP_SWEEP_LEN e.2) F.BP_SWEEP_LEN_LEN g.len) s
  writeImage s p g

/-- Order 4 and 6 of R386 over carried values already in place: everything else returns to ecycle `n`. -/
def resetRun (s : State) (p n : Nat) (g : Golden) : State :=
  let s := resetBridges (resetChannels ((List.range 4).foldl (fun s d => resetDie s p d) (resetClusters s p n)) p n) p n
  let s := (partPorts s p).foldl (fun s i => setPort s i { getPort s i with breach := false }) s
  linkPartners (resetPart s p n) g

/-- A partition restored to a checkpoint (R386 orders 4 to 6): `g` is the golden copy in force after the repair. A restore
rewrites instruction and schedule memories from it (R379); descriptors, pointers and sweep lengths only where the repair has
moved clusters. -/
def restoreCkpt (s : State) (p : Nat) (g : Golden) (k : Checkpoint) : State :=
  match goldenImages g with
  | some (first, m) =>
    let x := getPart s p
    let s := if x.retire.isEmpty then writeSlots s p g else writeGolden s p g
    let s := restoreStores s first m g k.stores
    let s := restoreReadOnly s p first g
    let s := { s with mem := (s.mem.filter fun e => !inBankOf g (fun d => !descRo d) e.1) }
    let s := k.pocket.foldl (fun s e => { s with mem := sset memDefault s.mem e.1 e.2 }) s
    let s := resetRun (applyUndo s x.undo) p k.ecycle g
    let s := if hemOwner s = some p then hemNeedSync s true else s
    let s := sendResume s p k.ecycle
    pauseIfDue s p
  | none => s

/-- A partition whose first capture was abandoned: the load's values written again (R388). -/
def reloadStart (s : State) (p : Nat) (g : Golden) : State :=
  match goldenImages g with
  | some (first, m) =>
    let s := if (getPart s p).retire.isEmpty then s else writeGolden s p g
    let s := fillStores (fillMemories s p first g) first m g
    resetRun s p 0 g
  | none => s

/-! ## The commands -/

def execCheckpointCommit (p : Fin 16) (s : State) : Host.Outcome State Fault Refusal := .next (checkpointCommit s p.val)
def execCheckpointSpill (p : Fin 16) (s : State) : Host.Outcome State Fault Refusal := .next (checkpointSpill s p.val)

end Sys2Proof.Machine
end

