-- ==== Sys2Proof/Machine/Lining.lean ====
section
/-! DEFINITION. The Lining (14): rollbacks, self-tests and retirement, reloads from the golden copy, scrubbers and their
voters. -/

namespace Sys2Proof.Machine

/-! ## Causes (R369, R373, R388) -/

/-- Faults of a cluster at the point of `f`, of the kinds given; a design-memory error belongs to one BP's request (R84, R146,
R373). -/
def faultCount (k : Cluster) (kinds : List Nat) (f : FaultAt) : Nat :=
  (k.faultAt.filter fun g => kinds.contains g.kind && decide (g.ecycle = f.ecycle) && decide (g.stitch = f.stitch) &&
    (decide (f.kind ≠ 3) || decide (g.bp = f.bp))).length

/-- The place of a cause that a Seam port raises: above every cluster number. -/
def portPlace (i : Nat) : Nat := 8192 + i

/-- The causes of a rollback that stand in a partition: cluster number and fault of each cluster that holds, and the breaches of its
Seam links (R212). -/
def heldCauses (s : State) (p : Nat) : List (Nat × FaultAt) :=
  (((partClusters s p).filter fun c => (getCl s c.idx).hold).map fun c =>
    (c.idx, (getCl s c.idx).faultAt.headD ⟨6, 0, 0, 0⟩)) ++
  ((partPorts s p).filter fun i => (getPort s i).breach).map fun i =>
    (portPlace i, (getPort s i).breaches.headD ⟨7, 0, 0, 0⟩)

/-- The kind of fault of a store: 4 the cluster's own state memory or word file, whose failure R75 answers at cluster level; 6 data
memory and Pocket. -/
def storeKind (m : DesignStore) : Nat :=
  match m with
  | .state => 4
  | .wordFile => 4
  | .data => 6
  | .pocket => 6

/-- An uncorrectable error that a read of a store met: the cluster holds (R369). -/
def memoryFault (s : State) (c : ClusterId) (m : DesignStore) : State :=
  match partOf s c with
  | some _ =>
    let k := getCl s c.idx
    setCl s c.idx { k with hold := true, faultAt := ⟨storeKind m, k.ecycle, k.stitch, 0⟩ :: k.faultAt }
  | none => s

/-- A cause that stops the partition because it recurs at the same point after replay: a tag fault, a code error, a design-memory
error or a Seam protocol breach (the last row of R391's table). -/
def recurs (s : State) (f : Nat × FaultAt) : Bool :=
  (decide (f.2.kind = 7) && decide (2 ≤ ((getPort s (f.1 - portPlace 0)).breaches.filter fun g => decide (g = f.2)).length)) ||
  ([1, 3, 5].contains f.2.kind) && decide (2 ≤ faultCount (getCl s f.1) [f.2.kind] f.2)

/-- A cause calls for the self-test (R373): the second spare-check mismatch or residue failure at the same point. -/
def needsTest (s : State) (f : Nat × FaultAt) : Bool :=
  ([0, 2].contains f.2.kind) && decide (faultCount (getCl s f.1) [0, 2] f.2 = 2)

/-- A cause retires the cluster without a further test: the third mismatch or residue failure at the same point (R373), or the
second error of its state memory or word file there, which is a failure of the store (R75, assumption 85). -/
def retiresNow (s : State) (f : Nat × FaultAt) : Bool :=
  (([0, 2].contains f.2.kind) && decide (3 ≤ faultCount (getCl s f.1) [0, 2] f.2)) ||
  (decide (f.2.kind = 4) && decide (2 ≤ faultCount (getCl s f.1) [4] f.2))

/-! ## Order 1 of R386 -/

/-- A rollback counted (R386 order 1). -/
def countRollback (s : State) (p : Nat) : State :=
  fadd (oinc (oinc s (Od.PART_ROLLBACKS p)) Od.ROLLBACKS) Reg.LNG_ROLLBACK_CNT F.LNG_ROLLBACK_CNT_COUNT 1

/-- The gate closes for a rollback: clusters at their boundary stop, and the others wait in it (R91, R95, R386 order 1). -/
def closeForRollback (s : State) (p : Nat) : State := reviewPart (clearStoppedRun s p) p

/-- ROLLBACK: the causes that hold clusters of the partition start a rollback, or join the one in progress (R386 order 1,
R388), or stop the partition (R391). -/
def rollback (s : State) (p : Nat) (cause : RollCause) : State :=
  let s := match cause with
    | .held => s
    | .memory c m => if partOf s c = some p then memoryFault s c m else s
  let x := getPart s p
  let new := (heldCauses s p).filter fun f => !x.causes.contains f
  if new.isEmpty || !runnable s p then s
  else if new.any (recurs s) then stopPart s p Code.ENVELOPE_EXCEEDED 12
  else
    let x' := { x with
      causes := x.causes ++ new,
      retire := x.retire ++ (new.filter (retiresNow s)).map fun f => f.1 }
    if x.ckpt.isNone then closeForRollback (setPart s p { x' with hold := .stopping }) p
    else if x.hold = .stopping then setPart s p x'
    else if oget s Od.ROLLBACK_LIMIT ≤ x.rolls then stopPart s p Code.ENVELOPE_EXCEEDED 4
    else closeForRollback (setPart (countRollback s p) p { x' with hold := .stopping, rolls := x.rolls + 1 }) p

/-! ## The self-test (R373) -/

/-- The spare BP takes over logical BP `b` (R74, R373). -/
def spareSwap (s : State) (p : Nat) (c : ClusterId) (b : Nat) : State :=
  let g := (getPart s p).golden
  let s := (List.range 8192).foldl (fun s t => setMemLE s (slotAddr c 32 t) 8 (goldenSlot g c b t).toNat) s
  raiseHealth (spareMapWrite s c (fldSet (fldSet 0 F.BP_SPARE_MAP_ACTIVE 1) F.BP_SPARE_MAP_REPLACED b)) 1

/-- The BPs in use that a self-test found failed, by physical number. -/
def failedBps (s : State) (c : ClusterId) (r : SelfTest) : List Nat :=
  (List.range 32).filter fun k => r.bps.getLsbD k &&
    !(fbit s (Reg.BP_SPARE_MAP c) F.BP_SPARE_MAP_ACTIVE && decide (fget s (Reg.BP_SPARE_MAP c) F.BP_SPARE_MAP_REPLACED = k))

/-- SELF_TEST_DONE: the outcome of the cluster self-test decides the repair (R373). -/
def selfTestDone (s : State) (c : ClusterId) (r : SelfTest) : State :=
  match partOf s c with
  | none => s
  | some p =>
    let x := getPart s p
    let k := getCl s c.idx
    if x.hold = .none ∨ x.tested.contains c.idx = true ∨
        ¬ (x.causes.any fun f => decide (f.1 = c.idx) && needsTest s f) = true then s
    else
      let active := fbit s (Reg.BP_SPARE_MAP c) F.BP_SPARE_MAP_ACTIVE
      let spareFails := r.bps.getLsbD 32
      let bad := failedBps s c r
      let y := { x with tested := c.idx :: x.tested }
      if r.word || decide (2 ≤ bad.length) || (active && spareFails) ||
          (decide (bad.length = 1) && (active || k.spareBad || spareFails)) then
        setPart s p { y with retire := c.idx :: y.retire }
      else
        match bad with
        | b :: _ => spareSwap (setPart s p y) p c b
        | [] =>
          if spareFails && !k.spareBad then
            raiseHealth (oset (setCl (setPart s p y) c.idx { k with spareBad := true }) Od.SPARE_BP_FAILED
              (oget s Od.SPARE_BP_FAILED + 1)) 1
          else setPart s p y

/-! ## Retirement and folding (R374, R375) -/

/-- The golden copy after its clusters have moved from `cur` to `new` with schedule memory `ws` (R133, R374). -/
def moveGolden (g : Golden) (moved : List (ClusterId × ClusterId)) (place : List (Nat × ClusterId)) (ws : List Host.Cell) :
    Golden :=
  let dst := fun (c : ClusterId) => match moved.find? fun m => decide (m.1 = c) with
    | some m => m.2
    | none => c
  { g with
    place := place.foldl (fun t e => sset (fun _ => 0) t e.1 (e.2.idx + 1)) [],
    slots := g.slots.foldl (fun t e =>
      sset (fun _ => nopSlot) t ((dst (clusterOf (e.1 / 262144))).idx * 262144 + e.1 % 262144) e.2) [],
    ws := ws,
    ptrs := g.ptrs.foldl (fun t e => sset (fun _ => 0) t ((dst (clusterOf (e.1 / 32))).idx * 32 + e.1 % 32) e.2) [],
    descs := g.descs.map fun e =>
      if descValid e.2 then
        let c : ClusterId := clusterOf (e.1 / 65536 * 1056 + descOwnerCol e.2 * 32 + descOwnerRow e.2)
        (e.1, ownDesc e.2 (dst c))
      else e }

/-- The mapping reports after a repair has moved clusters (R157, R158, R185, R320). -/
def reportMap (s : State) (p : Nat) (first m : Image) (g : Golden) : State :=
  let place := goldenPlace g
  let s := setPart s p { getPart s p with vmap := vmapOf first m place, golden := g }
  let s := oset (bumpVmap s p) (Od.SPARES_USED p) (sparesUsedBy place)
  hemRebind (oset s (Od.ROUTE_ADDED p) (routeAdded s m.ws g.ws m.foot vCluster (placedAt place)))

/-- The partition folded to the first higher image that maps (R375). -/
def foldPart (s : State) (p : Nat) (first : Image) (g : Golden) (ch : List (List SwitchChange)) : Option (State × Golden) :=
  let rest := (patFolds g.file).filterMap fun f => if g.fold < f then (match readImage g.file f with
    | .ok m => some m
    | .error _ => none) else none
  match mapFirst s p rest ch with
  | some (m, place, ws) =>
    let g' := goldenOf s p g.file m place ws
    let kept := keptStitches m (removedStitches s p m)
    let s := setPart s p { getPart s p with
      seamMap := m.seam, translate := kept.zipIdx.foldl (fun t e => sset (fun _ => 0xFFFF) t e.2 e.1) [],
      probeMap := m.probes.map fun r => { r with probe := r.probe + oget s (Od.ACQ_PROBE_FIRST p) } }
    let s := oset (oset (oset s (Od.LOAD_FOLD p) m.fold) (Od.VMAP_FOLD p) m.fold) (Od.RETIMED p) (m.len - kept.length)
    some (reportMap s p first m g', g')
  | none => none

/-- Order 3 of R386 for the clusters to retire: each marked, replaced by a spare of the band, or the partition folded; the same for
routes on a bridge track that has no spare left, which no re-derived route can leave (R121, R156, R391). None where neither is
possible. -/
def retireClusters (s : State) (p : Nat) (ch : List (List SwitchChange)) : Option (State × Golden) :=
  let x := getPart s p
  let l := x.retire.eraseDups
  let g := x.golden
  if l.isEmpty && (s.deadTracks.isEmpty || !(partClusters s p).any (usesDead s (imgState g.ws))) then some (s, g)
  else
    let s := l.foldl (fun s i =>
      let s := setCl s i { getCl s i with retired := true }
      raiseHealth (oset s Od.CLUSTERS_RETIRED (oget s Od.CLUSTERS_RETIRED + 1)) 1) s
    match goldenImages g with
    | some (first, m) =>
      let cur := placedAt (goldenPlace g)
      let moved := fun (place : List (Nat × ClusterId)) =>
        (m.foot.filter fun v => decide (cur v ≠ placedAt place v)).map fun v => (cur v, placedAt place v)
      let spared := match placeFoot s p cur m.foot with
        | some place => (rewire s p g.ws m.foot cur (placedAt place) (ch.headD [])).map fun ws => (place, ws)
        | none => none
      match spared with
      | some (place, ws) =>
        let g' := moveGolden g (moved place) place ws
        some (reportMap s p first m g', g')
      | none => foldPart s p first g ch.tail
    | none => some (s, g)

/-! ## Bridge spares (R121) -/

/-- A faulty track is replaced by the lowest spare of its direction that is not in use, in effect at once, since the partition is
stopped; with none left the track is given up (R121, R391). -/
def repairTrack (s : State) (x : BridgeTrack) : State :=
  let d := x.die.val
  let i := x.bridge.val
  if !bridgeExists d i || decide (bridgeTracks d i ≤ x.track.val) || trackTaken s d i 32 x.out x.track.val then s
  else
    match (List.range (bridgeSpares d i)).find? fun k => !fbit s (spareReg d i k x.out) F.BRG_SPARE_OUT_ACTIVE with
    | some k => spareWrite s d i k x.out (fldSet (fldSet 0 F.BRG_SPARE_OUT_ACTIVE 1) F.BRG_SPARE_OUT_TRACK x.track.val)
    | none =>
      if s.deadTracks.contains (d, i, x.out, x.track.val) then s
      else raiseHealth { s with deadTracks := s.deadTracks ++ [(d, i, x.out, x.track.val)] } 1

/-! ## Orders 2 to 6 of R386 -/

/-- The staging area still holds the committed stream (R370). -/
def stagedStill (s : State) (p : Nat) : Bool := decide ((getPart s p).staged = 0) && (getPart s p).stream.isNone

/-- The read of an area of `n` bytes at HBM address `a` by the Lining (R274, R279, R282, R283): the state, and whether every line
is delivered. -/
def areaRead (s : State) (a n : Nat) (x : AreaRead) : State × Bool :=
  if halted s then (s, false)
  else
    let b := lineOf a + 64 * (x.line % max ((n + 63) / 64) 1)
    match lineRead s b x.read with
    | (s, .ok) => (s, true)
    | (s, .uncorrectable) => (s, false)
    | (s, .halt) => (haltAt s b 0, false)

/-- A read of two golden copies of `n` bytes: the first, and the second where that fails (R370). -/
def copiesRead (s : State) (at_ : Nat × Nat) (n : Nat) (first second : AreaRead) : State × Bool :=
  let r := areaRead s at_.1 n first
  if r.2 then r else areaRead r.1 at_.2 n second

/-- A read of a partition's golden copies of its pattern. -/
def goldenRead (s : State) (p : Nat) (first second : AreaRead) : State × Bool :=
  let x := getPart s p
  copiesRead s x.goldenAt x.golden.file.length first second

/-- Orders 4 to 6 of R386 after the repair: the checkpoint is read and restored, or before the first one the load's values are
written again (R388). -/
def restoreDrained (s : State) (p : Nat) (g : Golden) (x : Part) (slot : AreaRead) : State :=
  match x.ckpt with
  | none => reviewPart (reloadStart s p g) p
  | some k =>
    let r := areaRead s x.ckptAt (ckptSlotBytes s p) slot
    let s := r.1
    if halted s then s
    else if !r.2 then stopPart s p Code.CKPT_UNREADABLE 5
    else
      let last := x.causes.foldl (fun (b : Nat × Nat × Nat) f =>
        if b.2.2 ≤ f.2.ecycle then (f.2.kind, f.1, f.2.ecycle) else b) (x.replaying.getD (0, 0, 0))
      let s := restoreCkpt s p g k
      reviewPart (setPart s p { getPart s p with replaying := some last }) p

/-- ROLLBACK_DRAINED: the partition has stopped and drained; the repair is made and the checkpoint restored (R386 orders 2 to 6).
It waits for a holder of the lease (R400), and its order 3 for the self-tests it needs. `faulty` are the bridge tracks found
faulty (R121); `slot`, `first` and `second` say what the reads of the checkpoint slot with its undo log and of the two golden copies
meet. -/
def rollbackDrained (s : State) (p : Nat) (ch : List (List SwitchChange)) (faulty : List BridgeTrack)
    (slot first second : AreaRead) : State :=
  let x := getPart s p
  if x.hold = .none ∨ ¬ leased s = true ∨ ¬ opsDrained s p = true then s
  else
    let s := settleSpares (stopClusters (setPart s p { x with hold := .drained }) p)
    if x.causes.any fun f => needsTest s f && !x.tested.contains f.1 then s
    else
      let r := goldenRead s p first second
      let s := r.1
      if halted s then s
      else if !r.2 && !stagedStill s p then stopPart s p Code.ENVELOPE_EXCEEDED 6
      else
        let s := faulty.foldl repairTrack s
        match retireClusters s p ch with
        | none => stopPart s p Code.ENVELOPE_EXCEEDED 3
        | some (s, g) => restoreDrained s p g x slot

/-- REPLAY_PASSES_FAULT: one record names the cause, the place and the checkpoint (R386 order 8). -/
def replayPasses (s : State) (p : Nat) : State :=
  let x := getPart s p
  match x.replaying with
  | some f =>
    if x.hold = .none ∧ f.2.2 < x.completed then
      logRecord (setPart s p { x with replaying := none }) 17 3 p Code.REPAIRED (clusterBase (clusterOf f.2.1))
        [f.1, f.2.2, x.ckptDone.getD 0]
    else s
  | none => s

/-! ## Reloads (R73, R134, R369, R370) -/

/-- An item of the golden copy written, and its wait ended. -/
def reloadItem (s : State) (p : Nat) (c : ClusterId) (i : ReloadItem) : State :=
  let g := (getPart s p).golden
  let k := getCl s c.idx
  match i with
  | .slot phys n =>
    let b := if phys.val = 32 then fget s (Reg.BP_SPARE_MAP c) F.BP_SPARE_MAP_REPLACED else phys.val
    let s := setMemLE s (slotAddr c phys.val n.val) 8 (goldenSlot g c b n.val).toNat
    setCl s c.idx { k with reloads := k.reloads.filter fun r => decide (r ≠ phys.val * 8192 + n.val) }
  | .desc n =>
    let x := getDie s c.die.val
    setDie s c.die.val { x with
      descs := sset (fun _ => 0) x.descs n.val (sget (fun _ => 0) g.descs (c.die.val * 65536 + n.val)),
      badDesc := x.badDesc.filter fun b => decide (b ≠ n.val) }
  | .schedule =>
    let old := sclear s.wsched (wsBase c) (wsBase c + 0x20000)
    let new := (sslice g.ws (wsBase c) (wsBase c + 0x20000)).foldl (fun w e => sset memDefault w e.1 e.2) old
    setCl { s with wsched := new } c.idx { k with reloadWs := false }

/-- The item awaits a reload. -/
def reloadPending (s : State) (c : ClusterId) (i : ReloadItem) : Bool :=
  match i with
  | .slot phys n => (getCl s c.idx).reloads.contains (phys.val * 8192 + n.val)
  | .desc n => (getDie s c.die.val).badDesc.contains n.val
  | .schedule => (getCl s c.idx).reloadWs

/-- RELOAD_DONE: from the first golden copy, from the second, or where both fail from the staged stream if it is still there;
otherwise the partition stops (R370, R391). -/
def reloadDone (s : State) (c : ClusterId) (i : ReloadItem) (first second : AreaRead) : State :=
  match partOf s c with
  | none => s
  | some p =>
    if !reloadPending s c i then s
    else
      let r := goldenRead s p first second
      let s := r.1
      if halted s then s
      else if !r.2 && !stagedStill s p then stopPart s p Code.ENVELOPE_EXCEEDED 6
      else reviewPart (reloadItem s p c i) p

/-! ## Scrubbers (R376 to R378) -/

/-- A scrubber's own state. -/
def getScrub (s : State) (k : Nat) : Scrubber := sget (fun _ => {}) s.scrub k
def setScrub (s : State) (k : Nat) (x : Scrubber) : State := { s with scrub := sset (fun _ => {}) s.scrub k x }

/-- The voted parameters, as the registers show them. -/
def scrubVoted (s : State) (k : Nat) : ScrubParam :=
  ⟨fget s (Reg.LNG_SCRUB_CFG k) F.LNG_SCRUB_CFG_PERIOD, fget s (Reg.LNG_SCRUB_CFG k) F.LNG_SCRUB_CFG_MODE,
   (rget s (Reg.LNG_SCRUB_RANGE k)).toNat⟩

/-- The built-in defaults of a scrubber (R376). -/
def scrubDefaults (k : Nat) : ScrubParam := ⟨scrubPeriodDefault k, 0, 0xFFFF⟩

/-- The legal range of a scrubber's parameters (R376). -/
def scrubLegal (k : Nat) (v : ScrubParam) : Bool :=
  (if k = 5 then decide (3600 ≤ v.period) && decide (v.period ≤ 86400)
   else decide (1 ≤ v.period) && decide (v.period ≤ 3600)) &&
  decide (v.mode ≤ 1) && decide (v.range / 2 ^ 16 ≤ v.range % 2 ^ 16)

/-- LNG_STATUS.DEFAULTS follows the scrubbers. -/
def showDefaults (s : State) : State :=
  fset s Reg.LNG_STATUS F.LNG_STATUS_DEFAULTS
    (if (List.range 6).any fun k => fbit s (Reg.LNG_SCRUB_CFG k) F.LNG_SCRUB_CFG_DEFAULT then 1 else 0)

/-- The parameters in use set, in all three copies. -/
def putScrub (s : State) (k : Nat) (v : ScrubParam) (default : Bool) : State :=
  let s := fsets s (Reg.LNG_SCRUB_CFG k) [(F.LNG_SCRUB_CFG_PERIOD, v.period), (F.LNG_SCRUB_CFG_MODE, v.mode),
    (F.LNG_SCRUB_CFG_DEFAULT, if default then 1 else 0)]
  let s := rset s (Reg.LNG_SCRUB_RANGE k) (BitVec.ofNat 32 v.range)
  showDefaults (setScrub s k { getScrub s k with copy0 := none, copy1 := none, copy2 := none })

/-- A write of LNG_SCRUB_k_CFG or _RANGE (R377). -/
def scrubCfgWrite (s : State) (k : Nat) (w : Word) : State :=
  let n := fldGet w F.LNG_SCRUB_CFG_PERIOD
  let v := min (max n 1) 86400
  let a := Reg.LNG_SCRUB_CFG k
  let s := if fldGet w F.LNG_SCRUB_CFG_WERR = 1 then fset s a F.LNG_SCRUB_CFG_WERR 0 else s
  let s := putScrub s k { scrubVoted s k with period := v, mode := fldGet w F.LNG_SCRUB_CFG_MODE } false
  if v = n then s else fset s a F.LNG_SCRUB_CFG_WERR 1
def scrubRangeWrite (s : State) (k : Nat) (w : Word) : State :=
  if w.toNat % 2 ^ 16 < w.toNat / 2 ^ 16 then fset s (Reg.LNG_SCRUB_CFG k) F.LNG_SCRUB_CFG_WERR 1
  else putScrub s k { scrubVoted s k with range := w.toNat } false

/-- The majority of three values. -/
def majority (a b c : Nat) : Option Nat := if a = b ∨ a = c then some a else if b = c then some b else none

/-- An upset copy. -/
def applyUpset (s : State) (u : ScrubUpset) : State :=
  let x := getScrub s u.k.val
  let v : ScrubParam := ⟨u.period.toNat, if u.mode then 1 else 0, u.range.toNat⟩
  setScrub s u.k.val (match u.copy.val with
    | 0 => { x with copy0 := some v }
    | 1 => { x with copy1 := some v }
    | _ => { x with copy2 := some v })

/-- One scrubber's vote (R377, R378). -/
def voteScrub (s : State) (k : Nat) : State :=
  if fbit s (Reg.LNG_SCRUB_CFG k) F.LNG_SCRUB_CFG_DEFAULT then s
  else
    let x := getScrub s k
    let v := scrubVoted s k
    let c0 := x.copy0.getD v
    let c1 := x.copy1.getD v
    let c2 := x.copy2.getD v
    let a := Reg.LNG_SCRUB_DIAG k
    let vote : Option ScrubParam :=
      match majority c0.period c1.period c2.period, majority c0.mode c1.mode c2.mode, majority c0.range c1.range c2.range with
      | some n, some m, some r => if scrubLegal k ⟨n, m, r⟩ then some ⟨n, m, r⟩ else none
      | _, _, _ => none
    match vote with
    | some w =>
      let d := [c0, c1, c2].map fun c => if c = w then 0 else 1
      let s := fset s a F.LNG_SCRUB_DIAG_DIFFER (d.getD 0 0 + 2 * d.getD 1 0 + 4 * d.getD 2 0)
      fadd (putScrub s k w false) a F.LNG_SCRUB_DIAG_REPAIRS d.sum
    | none =>
      let d := [c0, c1, c2].map fun c => if c = v then 0 else 1
      let s := fset (fset s a F.LNG_SCRUB_DIAG_NOMAJ 1) a F.LNG_SCRUB_DIAG_DIFFER
        (d.getD 0 0 + 2 * d.getD 1 0 + 4 * d.getD 2 0)
      logRecord (putScrub s k (scrubDefaults k) true) 17 6 modulePart (Config.code 378) a []

/-- VOTER_TICK: every voter runs, over copies that upsets may have changed. -/
def voterTick (s : State) (upsets : List ScrubUpset) : State :=
  (List.range 6).foldl voteScrub (upsets.foldl applyUpset s)

/-- The parameters that the dictionary holds. -/
def scrubOd (s : State) (k : Nat) : ScrubParam :=
  ⟨oget s (Od.SCRUB_PERIOD k), oget s (Od.SCRUB_MODE k), oget s (Od.SCRUB_RANGE k)⟩

/-- SCRUB_PARAM_REWRITE: Collar rewrites every copy from the dictionary, and logs a double upset (R377, R378). -/
def scrubRewrite (s : State) : State :=
  if !leased s then s
  else
    (List.range 6).foldl (fun s k =>
      let v := scrubOd s k
      let upset := !fbit s (Reg.LNG_SCRUB_CFG k) F.LNG_SCRUB_CFG_DEFAULT && decide ((getScrub s k).written = some v) &&
        decide (scrubVoted s k ≠ v)
      let s := if upset then logRecord s 17 6 modulePart (Config.code 1378) (Reg.LNG_SCRUB_CFG k) [] else s
      let s := putScrub s k v (!scrubLegal k v)
      setScrub s k { getScrub s k with written := some v }) s

/-- The next unit of a scrubber, within RANGE; MODE 1 goes back 64 units from an error (R376). -/
def scrubAdvance (s : State) (k : Nat) (error : Bool) : State :=
  let v := scrubVoted s k
  let first := v.range / 2 ^ 16
  let last := v.range % 2 ^ 16
  let x := getScrub s k
  let at_ := if x.next < first ∨ last < x.next then first else x.next
  let next := if error && decide (v.mode = 1) then max first (at_ - 64) else if at_ = last then first else at_ + 1
  setScrub s k { x with next := next }

/-- What the scrubber does with an uncorrectable item: a reload is asked for where a partition needs it (R369). -/
def askReload (s : State) (c : ClusterId) (i : ReloadItem) : State :=
  match partOf s c with
  | none => s
  | some p =>
    if (getPart s p).golden.fold = 0 then s
    else
      let k := getCl s c.idx
      match i with
      | .slot phys n => setCl s c.idx { k with reloads := ((phys.val * 8192 + n.val) :: k.reloads).eraseDups }
      | .desc n =>
        let x := getDie s c.die.val
        setDie s c.die.val { x with badDesc := (n.val :: x.badDesc).eraseDups }
      | .schedule => setCl s c.idx { k with reloadWs := true }

/-- The scrubber covers the store in which the find lies (R376). -/
def scrubCovers (k : Nat) (f : ScrubFind) : Bool :=
  match f with
  | .clean => true
  | .corrected _ => true
  | .item _ (.slot ..) => decide (k = 0)
  | .item _ _ => decide (k = 1)
  | .memory _ m => if m = .pocket then decide (k = 3) else decide (k = 2)
  | .frame .. => decide (k = 4)
  | .line _ _ => decide (k = 5)

/-- The partition that owns a Cuff frame: its region's, or its tree's (R217). -/
def framePart (s : State) (fa : Nat) : Option Nat :=
  match faTree fa with
  | some n => (List.range 16).find? fun p => decide (oget s (Od.PART_STATE p) ≠ 0) && ownTree s p n
  | none => regionPart s (faRegion fa)

/-- A Cuff frame is being rewritten by a stream, so the scrubber skips it (R265). -/
def frameHeld (s : State) (fa : Nat) : Bool :=
  match faTree fa with
  | some n => maskHas s.treesHeld n
  | none => regionHeld s (faRegion fa)

/-- A Cuff frame rewritten from its golden copy, from the staged stream where both copies fail; where that is gone too, the partition
stops (R369, R370, R391). A frame that no one has committed is written with 0 (R217). -/
def restoreFrame (s : State) (fa : Nat) (first second : AreaRead) : State :=
  let lo := fa * 4096
  let put := fun (s : State) =>
    let m := sclear s.frames lo (lo + 4096)
    settleFabric { s with frames := (sslice s.goldenFrames lo (lo + 4096)).foldl (fun m e => sset memDefault m e.1 e.2) m }
  match framePart s fa with
  | none => put s
  | some p =>
    match (getPart s p).cuffAt with
    | none => put s
    | some a =>
      let r := copiesRead s a (0x100000 * cuffMib s p) first second
      if halted r.1 then r.1
      else if !r.2 && !stagedStill r.1 p then stopPart r.1 p Code.ENVELOPE_EXCEEDED 6
      else put r.1

/-- SCRUB_STEP: the scrubber reads its next unit, and acts on what it finds as R369 gives (R376). A frame of a region in hold is skipped
(R265). -/
def scrubStep (s : State) (k : Nat) (f : ScrubFind) : State :=
  let f := if scrubCovers k f then f else .clean
  let error := decide (f ≠ .clean)
  let s := scrubAdvance s k error
  let skipped := match f with
    | .frame fa _ _ => frameHeld s fa.toNat
    | _ => false
  if !error || skipped then s
  else
    let s := fadd s (Reg.LNG_SCRUB_DIAG k) F.LNG_SCRUB_DIAG_ERRORS 1
    match f with
    | .clean => s
    | .corrected d => if k = 5 then fadd s (Reg.HBM_CE_CNT d.val) F.HBM_CE_CNT_COUNT 1 else s
    | .item c i => askReload s c i
    | .memory c m => memoryFault s c m
    | .frame fa first second => restoreFrame s fa.toNat first second
    | .line d _ => fadd s (Reg.HBM_UE_CNT d.val) F.HBM_UE_CNT_COUNT 1

/-! ## The commands -/

def execReloadDone (c : ClusterId) (item : ReloadItem) (first second : AreaRead) (s : State) :
    Host.Outcome State Fault Refusal :=
  .next (reloadDone s c item first second)
def execRollback (p : Fin 16) (cause : RollCause) (s : State) : Host.Outcome State Fault Refusal :=
  .next (rollback s p.val cause)
def execRollbackDrained (p : Fin 16) (ch : List (List SwitchChange)) (faulty : List BridgeTrack)
    (slot first second : AreaRead) (s : State) : Host.Outcome State Fault Refusal :=
  .next (rollbackDrained s p.val ch faulty slot first second)
def execSelfTestDone (c : ClusterId) (found : SelfTest) (s : State) : Host.Outcome State Fault Refusal :=
  .next (selfTestDone s c found)
def execReplayPassesFault (p : Fin 16) (s : State) : Host.Outcome State Fault Refusal := .next (replayPasses s p.val)
def execScrubStep (k : Fin 6) (found : ScrubFind) (s : State) : Host.Outcome State Fault Refusal :=
  .next (scrubStep s k.val found)
def execVoterTick (upsets : List ScrubUpset) (s : State) : Host.Outcome State Fault Refusal := .next (voterTick s upsets)
def execScrubParamRewrite (s : State) : Host.Outcome State Fault Refusal := .next (scrubRewrite s)

end Sys2Proof.Machine
end

