-- ==== Sys2Proof/Machine/Collar.lean ====
section
/-! DEFINITION. Collar (15): the two controllers and the charge lease, sensors, the log in flash, the configuration store,
firmware images and updates, fuses and recovery. -/

namespace Sys2Proof.Machine

/-! ## Controllers (R393 to R400) -/

/-- A controller's own state. -/
def getCtl (s : State) (n : Nat) : Controller := sget (fun _ => {}) s.collar.ctl n

/-- A controller's own state replaced. -/
def setCtl (s : State) (n : Nat) (x : Controller) : State :=
  { s with collar := { s.collar with ctl := sset (fun _ => {}) s.collar.ctl n x } }

/-- STATE of a controller: 0 off, 1 boot ROM, 2 observer, 3 holder, 4 FAILED. -/
def ctlState (s : State) (n : Nat) : Nat := fget s (Reg.COL_STATE n) F.COL_STATE_STATE

/-- STATE of a controller set, with its dictionary entry. -/
def setCtlState (s : State) (n v : Nat) : State :=
  oset (fset s (Reg.COL_STATE n) F.COL_STATE_STATE v) (if n = 0 then Od.COL_A_STATE else Od.COL_B_STATE) v

/-- FW_VALID of a controller. -/
def fwValid (s : State) (n : Nat) : Bool := fbit s (Reg.COL_STATE n) F.COL_STATE_FW_VALID

/-- The lease holder, or none. -/
def holder (s : State) : Option Nat :=
  let h := fget s Reg.COL_LEASE F.COL_LEASE_HOLDER
  if h < 2 then some h else none

/-- The number of a controller that makes an access, or none for another initiator. -/
def colByCtl (src : ColBy) : Option Nat :=
  match src with
  | .a => some 0
  | .b => some 1
  | .other => none

/-- A write of the observer is discarded: counted, and one log record for the refusals of 1 s (R399). -/
def refuseObserver (s : State) (n : Nat) : State :=
  let s := fadd s Reg.COL_REFUSED_CNT F.COL_REFUSED_CNT_COUNT 1
  let x := getCtl s n
  match x.refused with
  | some (t, seq, count) =>
    if s.ticks < t + 156250000 then
      setCtl { s with logQueue := s.logQueue.map fun r => if r.seq = seq then { r with detail := [0x81 + n, count + 1] } else r } n
        { x with refused := some (t, seq, count + 1) }
    else
      setCtl (logRecord s 14 4 modulePart Code.ACCESS_DENIED 0 [0x81 + n, 1]) n
        { x with refused := some (s.ticks, s.logSeq, 1) }
  | none =>
    setCtl (logRecord s 14 4 modulePart Code.ACCESS_DENIED 0 [0x81 + n, 1]) n { x with refused := some (s.ticks, s.logSeq, 1) }

/-- A controller may be granted the lease (R397). -/
def eligible (s : State) (n : Nat) : Bool := fwValid s n && (getCtl s n).request && decide (ctlState s n = 2 ∨ ctlState s n = 3)

/-- OD 2001.01 COL_HOLDER, whose change is an event of PCI_EVENT (R482). -/
def setHolder (s : State) (v : Nat) : State :=
  if oget s Od.COL_HOLDER = v then s else pciEvent (oset s Od.COL_HOLDER v) F.PCI_EVENT_LEASE

/-- The lease granted to controller `n` (R397). A trial of R414 begins where the new image now holds it. -/
def grant (s : State) (n : Nat) : State :=
  let s := fsets s Reg.COL_LEASE [(F.COL_LEASE_HOLDER, n), (F.COL_LEASE_NONE, 0)]
  let s := setCtlState { s with collar := { s.collar with leaseAt := s.ticks } } n 3
  let s := oset (setHolder s n) Od.FW_RUNNING (getCtl s n).version
  match s.collar.fw with
  | .booting m => if m = n then { s with collar := { s.collar with fw := .trial n } } else s
  | .single m => if m = n then { s with collar := { s.collar with fw := .trial n } } else s
  | _ => s

/-- The new holder reads the commit records: a stream that has not passed its commit point runs again from its checks under the new holder (R263). -/
def restartStreams (s : State) : State :=
  (List.range 16).foldl (fun s p =>
    match (getPart s p).stream with
    | some x =>
      if (getPart s p).commitRec = some x.seq then s
      else setPart s p { getPart s p with stream := some { seq := x.seq, body := x.body } }
    | none => s) s

/-- No controller holds the lease. -/
def noHolder (s : State) : State := setHolder (fset s Reg.COL_LEASE F.COL_LEASE_HOLDER 3) 255

/-- The holder `n` loses the lease, which passes at once to the other controller where that is eligible (R398). -/
def lapse (s : State) (n : Nat) (yield : Bool) : State :=
  let s := if ctlState s n = 3 then setCtlState s n 2 else s
  let s := noHolder s
  if eligible s (1 - n) then
    restartStreams (grant (if yield then s else oinc s Od.COL_FAILOVERS) (1 - n))
  else s

/-- A firmware update has failed: TRIAL is cleared and FW_STATUS records the code (R414). -/
def fwFailed (s : State) (code : Nat) : State :=
  oset { s with collar := { s.collar with fw := .none, trial := none } } Od.FW_STATUS code

/-- The trial of a new image fails where its controller loses the lease otherwise than by YIELD (R414 order 6). -/
def trialLost (s : State) (n : Nat) : State :=
  if s.collar.fw = .trial n then fwFailed s Code.FW_REJECTED else s

/-- RENEW: the holder's lease runs 100 ms from now (R396). -/
def renew (s : State) (n : Nat) : State :=
  if holder s = some n then { s with collar := { s.collar with leaseAt := s.ticks } } else s

/-- LEASE_GRANT: with no holder, the lower-numbered eligible controller (R397). -/
def leaseGrant (s : State) : State :=
  if holder s ≠ none then s
  else if eligible s 0 then restartStreams (grant s 0)
  else if eligible s 1 then restartStreams (grant s 1)
  else s

/-- COL_LEASE.YIELD written (R398); a write from any other initiator than the holder is refused. -/
def yieldLease (s : State) (src : ColBy) : State :=
  match colByCtl src with
  | some n => if holder s = some n then lapse s n true else refuseObserver s n
  | none => s

/-- LEASE_EXPIRY (R398). -/
def leaseExpiry (s : State) : State :=
  match holder s with
  | some n => lapse (trialLost s n) n false
  | none => s

/-- LEASE_NONE_TIMEOUT: no controller has held the lease for 1 s (R400). -/
def leaseNone (s : State) : State :=
  if holder s = none then assertAlert (fset s Reg.COL_LEASE F.COL_LEASE_NONE 1) else s

/-- COL_SELF written by controller `n` (R397, R414). -/
def colSelfWrite (s : State) (n : Nat) (request ready : Bool) : State :=
  setCtl s n { getCtl s n with request := request, ready := ready }

/-- A controller leaves its image: FW_VALID clears, and with it a lease it holds (R398). -/
def stopCtl (s : State) (n state : Nat) : State :=
  let held := decide (holder s = some n)
  let s := fsets s (Reg.COL_STATE n) [(F.COL_STATE_FW_VALID, 0), (F.COL_STATE_SVN, 0)]
  let s := setCtl (setCtlState s n state) n { getCtl s n with request := false, ready := false, version := 0 }
  if held then lapse s n false else s

/-- REFCLK periods in 24 hours. -/
def dayTicks : Nat := 86400 * 156250000

/-- Lockstep failures of a controller in the last 24 hours. -/
def recentFails (s : State) (n : Nat) : Nat := ((getCtl s n).fails.filter fun t => decide (s.ticks < t + dayTicks)).length

/-- LOCKSTEP_FAIL (R395). The other controller makes the record, where it runs. -/
def lockstepFail (s : State) (n : Nat) : State :=
  if !fwValid s n then s
  else
    let s := trialLost s n
    let x := getCtl s n
    let s := setCtl s n { x with fails := s.ticks :: x.fails.filter fun t => decide (s.ticks < t + dayTicks) }
    let s := fset s (Reg.COL_STATE n) F.COL_STATE_LOCKSTEP_FAILS (min (recentFails s n) 7)
    let s := if 3 ≤ recentFails s n then setCtl s n { getCtl s n with stuck := true } else s
    let s := stopCtl s n 4
    if fwValid s (1 - n) then logRecord s 14 5 modulePart (Config.code 395) (Reg.COL_STATE n) [] else s

/-! ## Images (R407, R412, R413) -/

/-- A byte of an image slot. -/
def flashByte (s : State) (slot b : Nat) : Byte := sget (fun _ => 0xFF) s.collar.flash (slot * 0x1000000 + b)

/-- A little-endian field of an image header. -/
def flashLE (s : State) (slot b n : Nat) : Nat := sreadLE (fun _ => 0xFF) s.collar.flash (slot * 0x1000000 + b) n

/-- Bytes of an image slot. -/
def flashBytes (s : State) (slot b n : Nat) : List Byte := sreadBytes (fun _ => 0xFF) s.collar.flash (slot * 0x1000000 + b) n

/-- Header fields of the image in a slot. -/
def imgVersion (s : State) (slot : Nat) : Nat := flashLE s slot 0x04 4
def imgSvn (s : State) (slot : Nat) : Nat := flashLE s slot 0x08 1
def imgLength (s : State) (slot : Nat) : Nat := flashLE s slot 0x0C 4

/-- Anti-rollback steps blown. -/
def fuseUsed (s : State) : Nat := fget s Reg.COL_FUSE F.COL_FUSE_USED

/-- The checks of R412 on the image in a slot, but for the SVN of check 5. -/
def imgSound (s : State) (slot : Nat) : Bool :=
  let len := imgLength s slot
  decide (flashLE s slot 0 4 = 0x4C4F4356) && decide (flashLE s slot 0x09 3 = 0) &&
  decide ((flashBytes s slot 0x44 92).all fun b => decide (b = 0)) &&
  decide (len ≤ 16776960) && decide (flashLE s slot 0x10 4 ≤ len) && decide (flashLE s slot 0x10 4 ≤ 1835008) &&
  decide (sha384 (ofBytes (flashBytes s slot 0x100 len)) = ofBytes (flashBytes s slot 0x14 48)) &&
  (if slot = 0 then s.collar.sigA else s.collar.sigB)

/-- The image in a slot passes every check of R412. -/
def imgOk (s : State) (slot : Nat) : Bool := imgSound s slot && decide (fuseUsed s ≤ imgSvn s slot)

/-- FW_SLOT_A and FW_SLOT_B follow the slots: 0 where the image fails R412 (R417). -/
def showSlots (s : State) : State :=
  let v := fun k => if imgOk s k then imgVersion s k else 0
  oset (oset s Od.FW_SLOT_A (v 0)) Od.FW_SLOT_B (v 1)

/-- Controller `n` runs the image of a slot (R412). -/
def runImage (s : State) (n slot : Nat) : State :=
  let s := fsets s (Reg.COL_STATE n) [(F.COL_STATE_FW_VALID, 1), (F.COL_STATE_SLOT, slot), (F.COL_STATE_SVN, imgSvn s slot)]
  setCtl (setCtlState s n 2) n { getCtl s n with request := false, ready := false, version := imgVersion s slot }

/-- The slot that controller `n` boots first: COL_BOOT's for one boot of the controller that does not hold the lease, the
trial slot of a holder that reset itself, otherwise COMMITTED (R412, R414). -/
def bootSlot (s : State) (n : Nat) : Nat :=
  if s.collar.fw = .single n then s.collar.trial.getD s.collar.committed
  else if fbit s Reg.COL_BOOT F.COL_BOOT_ONCE_EN then fget s Reg.COL_BOOT F.COL_BOOT_ONCE_SLOT
  else s.collar.committed

/-- CONTROLLER_BOOT: controller `n` leaves reset; its boot ROM checks the slot to boot, then the other one (R412). -/
def controllerBoot (s : State) (n : Nat) : State :=
  if !s.power.tack || fwValid s n || (getCtl s n).stuck then s
  else
    let slot := bootSlot s n
    let s := fset s Reg.COL_BOOT F.COL_BOOT_ONCE_EN 0
    if imgOk s slot then runImage s n slot
    else
      let s := logRecord s 19 6 modulePart (Config.code 412) slot []
      let s := if s.collar.fw = .single n ∨ s.collar.fw = .booting n then fwFailed s Code.FW_REJECTED else s
      if imgOk s (1 - slot) then runImage s n (1 - slot) else setCtlState s n 1

/-! ## Updates (R413, R414, R418) -/

/-- Path of the control entries of R418: a module-owner path over the physical function, a secure channel or PAP. -/
def controlPath (w : Path) : Bool := ownerPath w

/-- An image written into a slot. -/
def programSlot (s : State) (slot : Nat) (bs : List Byte) (sig : Bool) : State :=
  let f := swriteBytes (fun _ => 0xFF) (sclear s.collar.flash (slot * 0x1000000) ((slot + 1) * 0x1000000)) (slot * 0x1000000) bs
  let c := { s.collar with flash := f }
  { s with collar := if slot = 0 then { c with sigA := sig } else { c with sigB := sig } }

/-- Why the image just written is not accepted (R412, R413). -/
def imgRefusal (s : State) (slot : Nat) : Option Nat :=
  if !imgSound s slot then some Code.FW_REJECTED
  else if imgSvn s slot < fuseUsed s then some Code.FW_ROLLBACK
  else if 96 < imgSvn s slot then some Code.FW_FUSES_SPENT
  else none

/-- FW_IMAGE written: the slot that is not COMMITTED is programmed and checked (R414 order 1). -/
def fwImage (s : State) (bs : List Byte) (sig : Bool) (w : Path) : State :=
  if !leased s then s
  else if !controlPath w then answer s Code.ACCESS_DENIED
  else if 0x1000000 < bs.length then answer s Code.LENGTH_EXCEEDS_BUFFER
  else if s.collar.fw ≠ .none then answer s Code.NOT_IDLE
  else
    let slot := 1 - s.collar.committed
    let s := showSlots (programSlot s slot bs sig)
    match imgRefusal s slot with
    | some code =>
      let s := if code = Code.FW_FUSES_SPENT then logRecord s 14 4 modulePart code 0 [] else s
      answer (oset s Od.FW_STATUS code) code
    | none => answer (oset { s with collar := { s.collar with fw := .checked } } Od.FW_STATUS 0) 0

/-- Controller `n` reset into its boot ROM. -/
def resetCtl (s : State) (n : Nat) : State := if (getCtl s n).stuck then s else stopCtl s n 1

/-- FW_START written: the new slot becomes TRIAL and the observer is reset onto it, or with FW_FORCE_SINGLE and one working
controller the holder itself is (R414 orders 2 and 3). -/
def fwStart (s : State) (w : Path) : State :=
  match holder s with
  | none => s
  | some h =>
    if !controlPath w then answer s Code.ACCESS_DENIED
    else
      match s.collar.fw with
      | .checked =>
        let slot := 1 - s.collar.committed
        let peer := decide (ctlState s (1 - h) = 2)
        if peer then
          let s := { s with collar := { s.collar with trial := some slot, fw := .booting (1 - h) } }
          let s := fsets s Reg.COL_BOOT [(F.COL_BOOT_ONCE_EN, 1), (F.COL_BOOT_ONCE_SLOT, slot)]
          answer (resetCtl s (1 - h)) 0
        else if oget s Od.FW_FORCE_SINGLE = 1 then
          let s := { s with collar := { s.collar with trial := some slot, fw := .single h } }
          answer (resetCtl s h) 0
        else answer (oset { s with collar := { s.collar with fw := .none } } Od.FW_STATUS Code.FW_NO_PEER) Code.FW_NO_PEER
      | .none => answer s Code.WRONG_STATE
      | _ => answer s Code.NOT_IDLE

/-- FW_READY_TIMEOUT: READY has not come within 10 s; the observer is reset onto COMMITTED (R414 order 4). -/
def fwReadyTimeout (s : State) : State :=
  match s.collar.fw with
  | .booting n =>
    if (getCtl s n).ready then s
    else resetCtl (fset (fwFailed s Code.FW_REJECTED) Reg.COL_BOOT F.COL_BOOT_ONCE_EN 0) n
  | _ => s

/-- FW_CONFIRM_EXPIRY: the new slot is committed, the fuses advance to its SVN, and the other controller is reset onto it
(R414 orders 7 and 8). -/
def fwConfirm (s : State) : State :=
  match s.collar.fw with
  | .trial n =>
    if holder s ≠ some n then s
    else
      let slot := s.collar.trial.getD s.collar.committed
      let f := max (fuseUsed s) (min (imgSvn s slot) 96)
      let s := { s with collar := { s.collar with fw := .none, trial := none, committed := slot } }
      let s := oset (oset (fset s Reg.COL_FUSE F.COL_FUSE_USED f) Od.FUSE_STEPS_USED f) Od.FW_COMMITTED slot
      let s := resetCtl (oset (showSlots s) Od.FW_STATUS 0) (1 - n)
      logRecord s 14 2 modulePart (Config.code 414) slot []
  | _ => s

/-- FW_ABORT written: before order 7 the update ends as at a failed trial, and the lease returns to the old image (R418). -/
def fwAbort (s : State) (w : Path) : State :=
  if !leased s then s
  else if !controlPath w then answer s Code.ACCESS_DENIED
  else
    match s.collar.fw with
    | .none => answer s Code.WRONG_STATE
    | .checked => answer (fwFailed s Code.FW_REJECTED) 0
    | .booting n => answer (resetCtl (fset (fwFailed s Code.FW_REJECTED) Reg.COL_BOOT F.COL_BOOT_ONCE_EN 0) n) 0
    | .single n => answer (resetCtl (fwFailed s Code.FW_REJECTED) n) 0
    | .trial n => answer (resetCtl (fwFailed s Code.FW_REJECTED) n) 0

/-- COL_FUSE.BLOW written (R413): only by the holder, and only below the SVN of its running image. -/
def fuseBlow (s : State) (src : ColBy) : State :=
  match colByCtl src with
  | some n =>
    if holder s ≠ some n then refuseObserver s n
    else if fuseUsed s < fget s (Reg.COL_STATE n) F.COL_STATE_SVN ∧ fuseUsed s < 96 then fset s Reg.COL_FUSE F.COL_FUSE_BLOW 1
    else fset s Reg.COL_FUSE F.COL_FUSE_WERR 1
  | none => fset s Reg.COL_FUSE F.COL_FUSE_WERR 1

/-- FUSE_BLOW_DONE (R413). -/
def fuseBlown (s : State) : State :=
  if fbit s Reg.COL_FUSE F.COL_FUSE_BLOW then
    let f := fuseUsed s + 1
    showSlots (oset (fsets s Reg.COL_FUSE [(F.COL_FUSE_BLOW, 0), (F.COL_FUSE_USED, f)]) Od.FUSE_STEPS_USED f)
  else s

/-- COL_BOOT written with RESET_OTHER (R413). -/
def resetOther (s : State) (src : ColBy) (onceEn : Bool) (slot : Nat) : State :=
  match colByCtl src with
  | some n =>
    if holder s ≠ some n then refuseObserver s n
    else
      let s := fsets s Reg.COL_BOOT [(F.COL_BOOT_ONCE_EN, if onceEn then 1 else 0), (F.COL_BOOT_ONCE_SLOT, slot)]
      resetCtl s (1 - n)
  | none => s

/-! ## Recovery (R415) -/

/-- The NoC address of the recovery buffer. -/
def recoveryBuffer : Nat := Reg.COL_LEASE + 0x80000

/-- The recovery buffer and its registers are mapped: no controller runs firmware and neither slot verifies. -/
def recoveryOpen (s : State) : Bool := s.power.tack && !fwValid s 0 && !fwValid s 1 && !imgOk s 0 && !imgOk s 1

/-- COL_RECOVERY written (R415). -/
def recoveryWrite (s : State) (len16 index : Nat) : State :=
  if !recoveryOpen s then s
  else if len16 = 0 ∨ 32768 < len16 ∨ 0x1000000 < index * 0x80000 + len16 * 16 ∨
      fbit s Reg.COL_RECOVERY_STATUS F.COL_RECOVERY_STATUS_BUSY = true then
    fset s Reg.COL_RECOVERY_STATUS F.COL_RECOVERY_STATUS_ERR 1
  else
    fset { s with collar := { s.collar with chunk := some (index * 0x80000, len16 * 16) } }
      Reg.COL_RECOVERY_STATUS F.COL_RECOVERY_STATUS_BUSY 1

/-- Every byte of `[0, n)` lies in a programmed part. -/
def covered (fuel : Nat) (parts : List (Nat × Nat)) (from_ n : Nat) : Bool :=
  match fuel with
  | 0 => decide (n ≤ from_)
  | k + 1 =>
    decide (n ≤ from_) ||
    (match parts.find? fun p => decide (p.1 ≤ from_) && decide (from_ < p.1 + p.2) with
     | some p => covered k parts (p.1 + p.2) n
     | none => false)

/-- RECOVERY_CHUNK_DONE: the chunk stands in slot A; after the one that completes LENGTH the image is checked and booted by
controller A (R415). `sig`: its SIGNATURE verifies. -/
def recoveryDone (s : State) (sig : Bool) : State :=
  match s.collar.chunk with
  | none => s
  | some (o, n) =>
    let f := swriteBytes (fun _ => 0xFF) s.collar.flash o (memBytes s recoveryBuffer n)
    let parts := (o, n) :: s.collar.chunks
    let s := { s with collar := { s.collar with flash := f, chunk := none, chunks := parts, sigA := sig } }
    let s := fadd (fset s Reg.COL_RECOVERY_STATUS F.COL_RECOVERY_STATUS_BUSY 0)
      Reg.COL_RECOVERY_STATUS F.COL_RECOVERY_STATUS_CHUNKS 1
    if covered (parts.length + 1) parts 0 256 && covered (parts.length + 1) parts 0 (256 + imgLength s 0) then
      if imgOk s 0 then
        runImage (fset (showSlots { s with collar := { s.collar with chunks := [] } })
          Reg.COL_RECOVERY_STATUS F.COL_RECOVERY_STATUS_DONE 1) 0 0
      else
        fset { s with collar := { s.collar with chunks := [] } } Reg.COL_RECOVERY_STATUS F.COL_RECOVERY_STATUS_FAIL 1
    else s

/-! ## Sensors (R402 to R404) -/

/-- The register of a sensor, where the sensor exists: nine thermal sensors on a Weave die, four on the Yoke die. -/
def sensorReg (x : Sensor) : Option Nat :=
  match x with
  | .temp d n => if n.val < (if d.val = 4 then 4 else 9) then some (Reg.SNS_TEMP d.val n.val) else none
  | .hbmTemp d => some (Reg.SNS_HBM_TEMP d.val)
  | .railV d => some (Reg.SNS_RAIL_V d.val)
  | .railI d => some (Reg.SNS_RAIL_I d.val)
  | .vin => some Reg.SNS_VIN
  | .iin => some Reg.SNS_IIN

/-- SENSOR_SAMPLE: the sensor holds its latest reading, and while it is being recalibrated its last one (R402, R404). The
sensors share one register layout. A sample of the input current counts toward the average input power (R513). -/
def sensorSample (s : State) (x : Sensor) (v : Nat) : State :=
  match sensorReg x with
  | some a =>
    let s := if fbit s a F.SNS_TEMP_CAL then s else fset s a F.SNS_TEMP_VALUE v
    if x = .iin then
      { s with power := { s.power with
          wattSum := s.power.wattSum + fget s Reg.SNS_VIN F.SNS_VIN_VALUE * fget s Reg.SNS_IIN F.SNS_IIN_VALUE,
          wattCount := s.power.wattCount + 1 } }
    else s
  | none => s

/-- The register of a sensor that SNS_CAL names: KIND 0 thermal, 1 delay monitor. -/
def calReg (kind d n : Nat) : Option Nat :=
  if kind = 0 then
    (if d < 4 ∧ n < 9 ∨ d = 4 ∧ n < 4 then some (Reg.SNS_TEMP d n) else none)
  else if kind = 1 then
    (if d < 4 ∧ n < 32 then some (Reg.SNS_DLYMON d n) else if d = 4 ∧ n < 2 then some (Reg.SNS_DLYMON_YOKE n) else none)
  else none

/-- A calibration runs on die `d`. -/
def calRuns (s : State) (d : Nat) : Bool :=
  [0, 1].any fun kind => (List.range 32).any fun n =>
    match calReg kind d n with
    | some a => fbit s a F.SNS_TEMP_CAL
    | none => false

/-- SNS_CAL written with GO (R404). -/
def snsCal (s : State) (kind d n : Nat) : State :=
  let s := fsets s Reg.SNS_CAL [(F.SNS_CAL_KIND, kind), (F.SNS_CAL_DIE, d), (F.SNS_CAL_SENSOR, n)]
  match calReg kind d n with
  | some a => if calRuns s d then fset s Reg.SNS_CAL F.SNS_CAL_WERR 1 else fset (fset s a F.SNS_TEMP_CAL 1) Reg.SNS_CAL F.SNS_CAL_GO 1
  | none => fset s Reg.SNS_CAL F.SNS_CAL_WERR 1

/-- SENSOR_CAL_DONE: the sensor is calibrated and resumes live readings (R404). -/
def sensorCalDone (s : State) (kind d n : Nat) : State :=
  match calReg kind d n with
  | some a =>
    if fbit s a F.SNS_TEMP_CAL then
      let s := fsets s a [(F.SNS_TEMP_CAL, 0), (F.SNS_TEMP_VALID, 1)]
      fset s Reg.SNS_CAL F.SNS_CAL_GO (if (List.range 5).any (calRuns s) then 1 else 0)
    else s
  | none => s

/-! ## The log in flash (R407 to R409) -/

/-- Records of a sector, its header record among them (R407). -/
def sectorRecords : Nat := 1024

/-- The highest erase count of an area. -/
def eraseMax (s : State) (area : Nat) : Nat :=
  (sslice s.logFlash.erases (area * 1024) (area * 1024 + 1024)).foldl (fun m e => max m e.2) 0

/-- The sector after `n` in its ring, past retired ones. -/
def nextSector (x : LogFlash) (fuel n : Nat) : Nat :=
  match fuel with
  | 0 => n
  | k + 1 =>
    let m := n / 1024 * 1024 + (n + 1) % 1024
    if x.retired.contains m then nextSector x k m else m

/-- A sector erased: its records are gone and its count rises; one that fails is retired and the next one erased (R409). -/
def eraseSector (s : State) (n : Nat) (fails : Bool) : State :=
  let x := s.logFlash
  let drop := fun (y : LogFlash) (m : Nat) =>
    { y with records := y.records.filter (fun r => decide (r.1 ≠ m)),
             erases := sset (fun _ => 0) y.erases m (sget (fun _ => 0) y.erases m + 1) }
  let x := drop x n
  let x := if fails then
      let y := { x with retired := x.retired ++ [n] }
      drop y (nextSector y 1024 n)
    else x
  { s with logFlash := x }

/-- LOG_OLDEST and LOG_ERASE_MAX follow the flash (R410). -/
def showLog (s : State) : State :=
  let s := match s.logFlash.records with
    | r :: _ => oset s Od.LOG_OLDEST r.2.seq
    | [] => s
  oset (oset s Od.LOG_ERASE_MAX (eraseMax s s.logFlash.area)) Od.LOG_AREA s.logFlash.area

/-- The head sector is full: the head moves to the next sector, or to the spare area once the active one has reached 90,000
erases, and the sector after the new head is erased (R407, R409). -/
def advanceSector (s : State) (fails : Bool) : State :=
  let x := s.logFlash
  let worn := decide (90000 ≤ eraseMax s x.area)
  if x.area = 0 ∧ worn = true then
    let s := eraseSector { s with logFlash := { x with area := 1, head := 1024, used := 1 } } 1025 fails
    logRecord s 14 6 modulePart (Config.code 409) 1 []
  else
    let h := nextSector x 1024 x.head
    let s := eraseSector { s with logFlash := { x with head := h, used := 1 } } (nextSector x 1024 h) fails
    if x.area = 1 ∧ worn = true ∧ eraseMax s 1 / 1000 ≠ eraseMax { s with logFlash := x } 1 / 1000 then
      logRecord s 14 6 modulePart (Config.code 1409) (eraseMax s 1) []
    else s

/-- One record programmed. -/
def programRecord (s : State) (r : LogRecord) (fails : Bool) : State :=
  let s := if s.logFlash.used = 0 then { s with logFlash := { s.logFlash with used := 1 } }
    else if sectorRecords ≤ s.logFlash.used then advanceSector s fails else s
  let x := s.logFlash
  showLog (oset { s with logFlash := { x with records := x.records ++ [(x.head, r)], used := x.used + 1 } } Od.LOG_NEWEST r.seq)

/-- LOG_PROGRAM: the holder programs the oldest queued record. `fails`: a sector erased on the way fails to erase. -/
def logProgram (s : State) (fails : Bool) : State :=
  if !leased s then s
  else
    match s.logQueue with
    | r :: rest => programRecord { s with logQueue := rest } r fails
    | [] => s

/-! ## The configuration store (R411) -/

/-- An entry is kept over a restart (R435). -/
def odKept (key : Nat) : Bool :=
  let i := key / 256
  (match odDesc key with
   | some d => decide (d.access = .rw ∨ d.access = .rwi)
   | none => false) &&
  !(decide (0x3100 ≤ i) && decide (i ≤ 0x310F)) && !(decide (0x6000 ≤ i) && decide (i ≤ 0x6FFF)) &&
  decide (key ≠ Od.HEM_OWNER) && decide (key ≠ Od.HEM_PORT_ALLOW)

/-- The kept entries that do not hold their default: what the store has to hold. -/
def keptValues (s : State) : SMap Nat := s.od.filter fun e => odKept e.1

/-- CONFIG_STORE_WRITE: a new generation of the whole store, on both devices (R411, R436). -/
def storeWrite (s : State) : State :=
  if !leased s then s
  else
    let c : StoreCopy := ⟨max s.collar.storeA.gen s.collar.storeB.gen + 1, keptValues s⟩
    { s with collar := { s.collar with storeA := c, storeB := c } }

/-! ## The commands -/

def execRenew (n : Fin 2) (s : State) : Host.Outcome State Fault Refusal := .next (renew s n.val)
def execLeaseGrant (s : State) : Host.Outcome State Fault Refusal := .next (leaseGrant s)
def execYield (src : ColBy) (s : State) : Host.Outcome State Fault Refusal := .next (yieldLease s src)
def execLeaseExpiry (s : State) : Host.Outcome State Fault Refusal := .next (leaseExpiry s)
def execLeaseNoneTimeout (s : State) : Host.Outcome State Fault Refusal := .next (leaseNone s)
def execColSelfWrite (n : Fin 2) (request ready : Bool) (s : State) : Host.Outcome State Fault Refusal :=
  .next (colSelfWrite s n.val request ready)
def execLockstepFail (n : Fin 2) (s : State) : Host.Outcome State Fault Refusal := .next (lockstepFail s n.val)
def execControllerBoot (n : Fin 2) (s : State) : Host.Outcome State Fault Refusal := .next (controllerBoot s n.val)
def execSensorSample (x : Sensor) (v : BitVec 16) (s : State) : Host.Outcome State Fault Refusal :=
  .next (sensorSample s x v.toNat)
def execSnsCal (kind : Fin 4) (d : Fin 8) (n : Fin 32) (s : State) : Host.Outcome State Fault Refusal :=
  .next (snsCal s kind.val d.val n.val)
def execSensorCalDone (kind : Fin 2) (d : Fin 5) (n : Fin 32) (s : State) : Host.Outcome State Fault Refusal :=
  .next (sensorCalDone s kind.val d.val n.val)
def execLogProgram (eraseFails : Bool) (s : State) : Host.Outcome State Fault Refusal := .next (logProgram s eraseFails)
def execConfigStoreWrite (s : State) : Host.Outcome State Fault Refusal := .next (storeWrite s)
def execFwImage (bytes : List (BitVec 8)) (sigOk : Bool) (w : Path) (s : State) : Host.Outcome State Fault Refusal :=
  .next (served s fun s => fwImage s bytes sigOk w)
def execFwStart (w : Path) (s : State) : Host.Outcome State Fault Refusal := .next (served s fun s => fwStart s w)
def execFwReadyTimeout (s : State) : Host.Outcome State Fault Refusal := .next (fwReadyTimeout s)
def execFwConfirmExpiry (s : State) : Host.Outcome State Fault Refusal := .next (fwConfirm s)
def execFwAbort (w : Path) (s : State) : Host.Outcome State Fault Refusal := .next (fwAbort s w)
def execBlow (src : ColBy) (s : State) : Host.Outcome State Fault Refusal := .next (fuseBlow s src)
def execResetOther (src : ColBy) (onceEn onceSlot : Bool) (s : State) : Host.Outcome State Fault Refusal :=
  .next (resetOther s src onceEn (if onceSlot then 1 else 0))
def execColRecovery (len16 index : BitVec 16) (s : State) : Host.Outcome State Fault Refusal :=
  .next (recoveryWrite s len16.toNat index.toNat)
def execRecoveryChunkDone (sigOk : Bool) (s : State) : Host.Outcome State Fault Refusal := .next (recoveryDone s sigOk)
def execFuseBlowDone (s : State) : Host.Outcome State Fault Refusal := .next (fuseBlown s)

end Sys2Proof.Machine
end

