-- ==== Sys2Proof/Machine/Noc.lean ====
section
/-! DEFINITION. The packet network (11): nodes and routers, forwarding by the active tables, responses at their initiators,
tags, route swaps and domains. Serving a request is in NocServe. -/

namespace Sys2Proof.Machine

/-! ## Issuing a request -/

/-- A request issued by its initiator's interface: answered there where its address is in no range of R27, else sent with
its tag in use (R298, R307, R309). An initiator that is fenced issues nothing (R317), nor one whose tag is in use. -/
def nocIssue (s : State) (opc : Nat) (r : NocRequest) : State :=
  let n := r.src.toNat
  if !initiates n || fenced s n || (decide (opc ≠ opMsg) && (getTag s n r.tag.val).isSome) then s
  else
    match nocDest r.addr.toNat with
    | none =>
      giveClient (captureErr (countCode s Code.UNMAPPED) true n 0 opc Code.UNMAPPED) n r.tag.val opErr Code.UNMAPPED []
    | some d =>
      let s := if opc = opMsg then s else
        let s := setTag s n r.tag.val (some { opc := opc, dest := d, len := r.lenM1.toNat + 1, sent := s.timeA })
        let s := fadd s (Reg.NOC_ST_REQ n) F.NOC_ST_REQ_COUNT 1
        fset s (Reg.NOC_ST_OUT n) F.NOC_ST_OUT_PEAK
          (max (fget s (Reg.NOC_ST_OUT n) F.NOC_ST_OUT_PEAK) (tagsOut s n true))
      let q : NocPacket :=
        { opc := opc, vc := r.vc.val, dest := d, src := n, part := r.part.val, sys := r.sys, gen := getGen s n r.tag.val,
          tag := r.tag.val, addr := r.addr.toNat, lenM1 := r.lenM1.toNat, flits := r.flits, reserved := r.reserved,
          data := r.data, mask := r.mask, router := nodeRouter n, port := nodePort n }
      { s with noc := s.noc ++ [q] }

/-! ## Routers (R305, R309, R312) -/

/-- The answer to a request: the packet that leaves for its initiator. -/
def nocAnswer (q : NocPacket) (opc code : Nat) (synth : Bool) (data : List Byte) (router port : Nat) : NocPacket :=
  { opc := opc, vc := 0, dest := q.src, src := q.dest, part := q.part, sys := q.sys, gen := q.gen, tag := q.tag, code := code,
    synth := synth, lenM1 := if opc = opRdresp then data.length - 1 else 0, flits := 1 + (data.length + 63) / 64,
    data := data, router := router, port := port }

/-- The port number under which a packet that a router itself makes waits there. -/
def ownPort : Nat := 31

/-- A packet that router `i` cannot pass on: a request is answered with a synthesised ERR, a response is discarded and
counted (R309). -/
def routerRefuse (s : State) (i : Nat) (q : NocPacket) (code : Nat) : State :=
  if isRequest q.opc then
    let s := captureErr (countCode s code) true q.src q.dest q.opc code
    if q.opc = opMsg then s else { s with noc := s.noc ++ [nocAnswer q opErr code true [] i ownPort] }
  else nocCount s Reg.NOC_DROP_CNT

/-- Requests that an HBM port holds (R307): those that stand there, and the design-memory requests outstanding to it. -/
def portHolds (s : State) (n : Nat) : Nat :=
  (s.noc.filter fun q => q.atNode && isRequest q.opc && decide (q.dest = n)).length +
  ((List.range 4).map fun d =>
    ((getDie s d).ops.filter fun o => o.tag.isSome && decide (nocDest o.addr = some n)).length).sum

/-- The next hop is an HBM port that is full: the request waits on its virtual channel (R307). -/
def portFull (s : State) (i : Nat) (q : NocPacket) : Bool :=
  match nocLocal i (fget s (Reg.NOC_RT_ACT i q.dest) F.NOC_RT_ACT_PORT) with
  | some n => isRequest q.opc && decide (n < 0x80) && decide (0x10 ≤ n % 0x20) && decide (64 ≤ portHolds s n)
  | none => false

/-- A router passes a packet by its active table (R305, R309, R312). -/
def routePacket (s : State) (i : Nat) (q : NocPacket) (codeError : Bool) : State :=
  let a := Reg.NOC_RT_ACT i q.dest
  let port := fget s a F.NOC_RT_ACT_PORT
  let sleeping := match nocLocal i port with
    | some n => fenced s n
    | none => false
  if !fbit s a F.NOC_RT_ACT_VALID then routerRefuse s i q Code.UNMAPPED
  else if fbit s a F.NOC_RT_ACT_ASLEEP || sleeping then routerRefuse s i q Code.DOMAIN_ASLEEP
  else if 31 < q.hops + 1 then routerRefuse s i q Code.NOC_ROUTE_LOOP
  else
    let q := { q with hops := q.hops + 1, bad := q.bad || (codeError && crossesBridge i port) }
    match nocLink i port with
    | some (j, r) => { s with noc := s.noc ++ [{ q with router := j, port := r }] }
    | none => { s with noc := s.noc ++ [{ q with atNode := true }] }

/-- ROUTER_FORWARD: the packet at the head of an input port's virtual channel is taken (R305). -/
def routerForward (s : State) (i port vc : Nat) (codeError : Bool) : State :=
  let here := fun (q : NocPacket) =>
    !q.atNode && decide (q.router = i) && decide (q.port = port) && decide (q.vc = vc)
  match s.noc.find? here with
  | some q => if portFull s i q then s else routePacket { s with noc := s.noc.eraseP here } i q codeError
  | none => s

/-! ## Responses at their initiators (R310, R311, R319) -/

/-- What a client reads where its read is answered with an error: ones from a domain without power, on a timeout (R33), and
from a store that a running partition holds (R150). -/
def errData (opc code len : Nat) : List Byte :=
  if opc = opRd ∧ (code = Code.DOMAIN_ASLEEP ∨ code = Code.TIMEOUT ∨ code = Code.NOT_IDLE) then List.replicate len 0xFF else []

/-- A response completes its request: the tag is free, the statistics count it, and its client has it (R310, R319). -/
def completeTag (s : State) (q : NocPacket) (t : NocTag) : State :=
  let s := tagDone s q.dest q.tag q.opc t
  let s := if q.opc ≠ opRdresp ∧ q.opc ≠ opWrack then captureErr s q.synth q.dest t.dest t.opc q.code else s
  giveClient s q.dest q.tag q.opc q.code (if q.opc = opErr then errData t.opc q.code t.len else q.data)

/-- A response that has reached its initiator's interface: it completes its tag, or is sunk as late (R311). -/
def takeResponse (s : State) (q : NocPacket) : State :=
  if q.bad then nocCount s Reg.NOC_FCHK_CNT
  else
    match getTag s q.dest q.tag with
    | some t =>
      if q.gen ≠ getGen s q.dest q.tag then nocCount s Reg.NOC_LATE_CNT
      else if t.quarantined then releaseTag (nocCount s Reg.NOC_LATE_CNT) q.dest q.tag
      else completeTag s q t
    | none => nocCount s Reg.NOC_LATE_CNT

/-- RDRESP, WRACK and ERR: the first such response standing at the node's interface is taken. -/
def nocResponse (s : State) (opc node tag gen : Nat) : State :=
  let here := fun (q : NocPacket) =>
    q.atNode && decide (q.opc = opc) && decide (q.dest = node) && decide (q.tag = tag) && decide (q.gen = gen)
  match s.noc.find? here with
  | some q => takeResponse { s with noc := s.noc.eraseP here } q
  | none => s

/-- The design-memory operation that holds a tag of a block node. -/
def opOfTag (s : State) (node tag : Nat) : Option DmemOp :=
  ((List.range 4).flatMap fun d => (getDie s d).ops).find? fun o =>
    decide (blockNode (clusterOf o.cluster) = node) && decide (o.tag = some tag)

/-- NOC_TIMEOUT: no response has come within the time of R310: the tag is quarantined and the client has ERR TIMEOUT (R310, R311),
which for the design-memory engine is a fault (R146). -/
def nocTimeout (s : State) (node tag : Nat) : State :=
  match getTag s node tag with
  | some t =>
    if t.quarantined then s
    else
      match opOfTag s node tag with
      | some o => opError s (clusterOf o.cluster) o Code.TIMEOUT
      | none =>
        let s := tagTimeout s node tag t
        giveClient (captureErr s true node t.dest t.opc Code.TIMEOUT) node tag opErr Code.TIMEOUT (errData t.opc Code.TIMEOUT t.len)
  | none => s

/-- TAG_QUARANTINE_EXPIRY: 16 × NOC_TIMEOUT has passed with no late response (R311). -/
def quarantineOver (s : State) (node tag : Nat) : State :=
  match getTag s node tag with
  | some t => if t.quarantined then releaseTag s node tag else s
  | none => s

/-! ## Registers of the NOC_ window -/

/-- A firmware write that a hardware limit of R26 clamps or refuses, logged with the register as its PLACE. -/
def limitRecord (s : State) (source code reg : Nat) : State := logRecord s source 4 modulePart code reg []

/-- NOC_TIMEOUT_WRITE: clamped to 10 to 100,000 µs (R310). -/
def nocTimeoutWrite (s : State) (us : Nat) : State :=
  let v := min (max us 10) 100000
  let s := fset s Reg.NOC_TIMEOUT F.NOC_TIMEOUT_US v
  if v = us then s
  else limitRecord (fset s Reg.NOC_STATUS F.NOC_STATUS_WERR 1) 7 Code.LIMIT_CLAMPED Reg.NOC_TIMEOUT

/-- The active and shadow tables of router `i` exchanged. -/
def swapTables (s : State) (i : Nat) : State :=
  (List.range 256).foldl (fun s e =>
    let a := rget s (Reg.NOC_RT_ACT i e)
    rset (rset s (Reg.NOC_RT_ACT i e) (rget s (Reg.NOC_RT_SH i e))) (Reg.NOC_RT_SH i e) a) s

/-- NOC_RT_SWAP.GO written with ROUTER (R313): packets are whole in the model, so every input port takes its next head flit
by the new table. -/
def rtSwap (s : State) (r : Nat) : State :=
  if 0x40 < r ∧ r ≠ 0x7F then fset s Reg.NOC_STATUS F.NOC_STATUS_WERR 1
  else if fbit s Reg.NOC_RT_SWAP F.NOC_RT_SWAP_GO then fset s Reg.NOC_RT_SWAP F.NOC_RT_SWAP_ROUTER r
  else
    let s := if r = 0x7F then (List.range 65).foldl swapTables s else swapTables s r
    fset (fsets s Reg.NOC_RT_SWAP [(F.NOC_RT_SWAP_GO, 1), (F.NOC_RT_SWAP_ROUTER, r)])
      Reg.NOC_STATUS F.NOC_STATUS_SWAPPING 1

/-- RT_SWAP_DONE: every input port of the named routers has swapped. -/
def rtSwapDone (s : State) : State :=
  fset (fset s Reg.NOC_RT_SWAP F.NOC_RT_SWAP_GO 0) Reg.NOC_STATUS F.NOC_STATUS_SWAPPING 0

/-- A write of NOC_RT_SH: a port that the router lacks is refused (R312). -/
def rtShadowWrite (s : State) (i e : Nat) (w : Word) : State :=
  if portExists i (fldGet w F.NOC_RT_SH_PORT) then rset s (Reg.NOC_RT_SH i e) (w &&& 0xDF#32)
  else fset s Reg.NOC_STATUS F.NOC_STATUS_WERR 1

/-- CLRERR: the error counters and NOC_ERR_CAP cleared. -/
def nocClrErr (s : State) : State :=
  [Reg.NOC_ASLEEP_CNT, Reg.NOC_UNMAPPED_CNT, Reg.NOC_LOOP_CNT, Reg.NOC_LATE_CNT, Reg.NOC_FCHK_CNT, Reg.NOC_DROP_CNT,
   Reg.NOC_ERR_CAP, Reg.NOC_ERR_CODE].foldl (fun s a => rset s a 0) s

/-- CLRSTAT: every statistics block cleared; PEAK restarts from the requests now outstanding (R319). -/
def nocClrStat (s : State) : State :=
  (List.range 256).foldl (fun s n =>
    let s := (List.range 11).foldl (fun s j => rset s (Reg.NOC_ST_REQ n + 4 * j) 0) s
    fset s (Reg.NOC_ST_OUT n) F.NOC_ST_OUT_PEAK (tagsOut s n true)) s

/-! ## Domain sleep (R317, R318) -/

/-- The clusters of a block node (R297). -/
def blockClusters (k : Nat) : List ClusterId :=
  ((List.finRange 33).filter fun c => decide (min c.val 31 / 8 = k % 4)).flatMap fun c =>
    ((List.finRange 32).filter fun r => decide (r.val / 8 = k % 16 / 4)).map fun r =>
      ⟨⟨k / 16 % 4, Nat.mod_lt _ (by decide)⟩, c, r⟩

/-- A router's buffers hold no flit. -/
def routerEmpty (s : State) (i : Nat) : Bool := !s.noc.any fun q => !q.atNode && decide (q.router = i)

/-- Router `j`'s active table has an entry that sends packets toward router `i`. -/
def routesToward (s : State) (j i : Nat) : Bool :=
  (List.range 256).any fun e =>
    let a := Reg.NOC_RT_ACT j e
    fbit s a F.NOC_RT_ACT_VALID && !fbit s a F.NOC_RT_ACT_ASLEEP &&
    (match nocLink j (fget s a F.NOC_RT_ACT_PORT) with
     | some (x, _) => decide (x = i)
     | none => false)

/-- SLEEP 1 is refused (R318). -/
def sleepRefused (s : State) (k : Nat) : Bool :=
  if k < 0x40 then (blockClusters k).any fun c => clRun s c
  else if k < 0x80 then
    let d := (k - 0x40) / 16
    fbit s (Reg.HBM_STATUS d) F.HBM_STATUS_COPYING ||
    (List.range 16).any fun p => decide (partState s p ≠ 0) && decide (carveCount s p d ≠ 0) && partRunning s p
  else
    let i := k - 0x80
    (List.range 65).any (fun j => decide (j ≠ i) && routesToward s j i) || !routerEmpty s i ||
    (decide (i < 0x40) && (decide (domState s i ≠ 3) || decide (domState s (0x40 + i) ≠ 3)))

/-- DOMAIN_SLEEP: SLEEP 1 written (R317 orders 1 and 2). -/
def domainSleep (s : State) (k : Nat) : State :=
  let a := Reg.NOC_DOM k
  if domState s k ≠ 0 ∧ domState s k ≠ 4 then s
  else if sleepRefused s k then fset s a F.NOC_DOM_REFUSED 1
  else fsets s a [(F.NOC_DOM_SLEEP, 1), (F.NOC_DOM_STATE, 1)]

/-- The domain's targets hold no request and its initiators wait for no response (R317 orders 3 and 4). -/
def domainDrained (s : State) (k : Nat) : Bool :=
  if k < 0x80 then
    decide (tagsOut s (domainNode k) false = 0) && !s.noc.any fun q => q.atNode && decide (q.dest = domainNode k)
  else routerEmpty s (k - 0x80)

/-- DOMAIN_GATED: a fenced domain that has drained is gated, and Hem is told; one that has not is draining (R317, R330). -/
def domainGated (s : State) (k : Nat) : State :=
  if domState s k = 1 ∨ domState s k = 2 then
    if domainDrained s k then hemGap (fset s (Reg.NOC_DOM k) F.NOC_DOM_STATE 3) k
    else fset s (Reg.NOC_DOM k) F.NOC_DOM_STATE 2
  else s

/-- DOMAIN_WAKE: SLEEP 0 written (R317). -/
def domainWake (s : State) (k : Nat) : State :=
  if domState s k = 0 then s else fsets s (Reg.NOC_DOM k) [(F.NOC_DOM_SLEEP, 0), (F.NOC_DOM_STATE, 4)]

/-- DOMAIN_AWAKE: every target behind the gatekeeper is ready, the router port is open again, and Hem is told (R317, R330). -/
def domainAwake (s : State) (k : Nat) : State :=
  if domState s k = 4 then hemResume (fset s (Reg.NOC_DOM k) F.NOC_DOM_STATE 0) k else s

/-! ## The commands -/

def execRouterForward (router : Fin 65) (port : Fin 32) (vc : Fin 4) (codeError : Bool) (s : State) :
    Host.Outcome State Fault Refusal :=
  .next (routerForward s router.val port.val vc.val codeError)
def execRdresp (node : BitVec 8) (tag : Fin 1024) (gen : Fin 4) (s : State) : Host.Outcome State Fault Refusal :=
  .next (nocResponse s opRdresp node.toNat tag.val gen.val)
def execWrack (node : BitVec 8) (tag : Fin 1024) (gen : Fin 4) (s : State) : Host.Outcome State Fault Refusal :=
  .next (nocResponse s opWrack node.toNat tag.val gen.val)
def execErr (node : BitVec 8) (tag : Fin 1024) (gen : Fin 4) (s : State) : Host.Outcome State Fault Refusal :=
  .next (nocResponse s opErr node.toNat tag.val gen.val)
def execNocRequestTimeout (node : BitVec 8) (tag : Fin 1024) (s : State) : Host.Outcome State Fault Refusal :=
  .next (nocTimeout s node.toNat tag.val)
def execTagQuarantineExpiry (node : BitVec 8) (tag : Fin 1024) (s : State) : Host.Outcome State Fault Refusal :=
  .next (quarantineOver s node.toNat tag.val)
def execNocTimeoutWrite (us : BitVec 20) (s : State) : Host.Outcome State Fault Refusal := .next (nocTimeoutWrite s us.toNat)
def execNocRtSwap (router : BitVec 7) (s : State) : Host.Outcome State Fault Refusal := .next (rtSwap s router.toNat)
def execRtSwapDone (s : State) : Host.Outcome State Fault Refusal := .next (rtSwapDone s)
def execNocClrerr (s : State) : Host.Outcome State Fault Refusal := .next (nocClrErr s)
def execNocClrstat (s : State) : Host.Outcome State Fault Refusal := .next (nocClrStat s)
def execDomainSleep (k : Fin 193) (s : State) : Host.Outcome State Fault Refusal := .next (domainSleep s k.val)
def execDomainGated (k : Fin 193) (s : State) : Host.Outcome State Fault Refusal := .next (domainGated s k.val)
def execDomainWake (k : Fin 193) (s : State) : Host.Outcome State Fault Refusal := .next (domainWake s k.val)
def execDomainAwake (k : Fin 193) (s : State) : Host.Outcome State Fault Refusal := .next (domainAwake s k.val)

end Sys2Proof.Machine
end

