-- ==== Sys2Proof/Machine/Power.lean ====
section
/-! DEFINITION. Power (19, with R98 to R101 and R390): VIN and PORST_N, rails and phases, brakes, credits and the power cap,
rate control, thermal limits, REFCLK, and what a loss of power leaves. -/

namespace Sys2Proof.Machine

/-! ## Brakes (R512) -/

/-- PWR_CREDIT_d.BRAKE and PWR_STATUS.BRAKE follow the causes that stand. -/
def showBrake (s : State) (d : Nat) : State :=
  let a := Reg.PWR_CREDIT d
  let b := fbit s a F.PWR_CREDIT_THERMAL || fbit s a F.PWR_CREDIT_RAIL || fbit s a F.PWR_CREDIT_INPUT ||
    fbit s a F.PWR_CREDIT_VINWARN
  let s := fset s a F.PWR_CREDIT_BRAKE (if b then 1 else 0)
  let m := fget s Reg.PWR_STATUS F.PWR_STATUS_BRAKE
  fset s Reg.PWR_STATUS F.PWR_STATUS_BRAKE (if b then m ||| 2 ^ d else m - m / 2 ^ d % 2 * 2 ^ d)

/-- A cause of a die's brake set or cleared. -/
def setCause (s : State) (d : Nat) (f : Fld) (on : Bool) : State :=
  showBrake (fset s (Reg.PWR_CREDIT d) f (if on then 1 else 0)) d

/-- A cause of every Weave die's brake set or cleared. -/
def setCauses (s : State) (f : Fld) (on : Bool) : State := (List.range 4).foldl (fun s d => setCause s d f on) s

/-- RAIL_OVERCURRENT (R510). -/
def railOver (s : State) (d : Nat) : State := setCause s d F.PWR_CREDIT_RAIL true

/-- INPUT_OVERCURRENT (R506). -/
def inputOver (s : State) : State := setCauses s F.PWR_CREDIT_INPUT true

/-- BRAKE_RELEASE: a cause has ended; the brake lifts with the last one (R510, R512). -/
def brakeRelease (s : State) (c : BrakeCause) : State :=
  match c with
  | .rail d => setCause s d.val F.PWR_CREDIT_RAIL false
  | .input => setCauses s F.PWR_CREDIT_INPUT false

/-! ## Rails (R390, R507 to R511) -/

/-- A PWR_ write was refused or clamped. -/
def pwrWerr (s : State) : State := fset s Reg.PWR_STATUS F.PWR_STATUS_WERR 1

/-- A write of PWR_VCORE_d: refused outside 500 to 900 mV, else rounded down to 5 mV (R26, R100, R508). -/
def vcoreWrite (s : State) (d mv : Nat) : State :=
  if mv < 500 ∨ 900 < mv then limitRecord (pwrWerr s) 16 Code.LIMIT_REFUSED (Reg.PWR_VCORE d)
  else fset s (Reg.PWR_VCORE d) F.PWR_VCORE_TARGET (mv / 5 * 5)

/-- Phases left of a rail: 10 of a Weave rail, 6 of the Yoke rail (R390). -/
def phasesLeft (s : State) (d : Nat) : Nat := (if d = 4 then 6 else 10) - sget (fun _ => 0) s.power.phases d

/-- The current limit of a core rail, in A (R510). -/
def railLimit (s : State) (d : Nat) : Nat := min (if d = 4 then 4 else 8) (phasesLeft s d) * 25

/-- The ceiling of a die's refill rate, which falls in proportion to the phases lost (R510, R511). -/
def creditCeiling (s : State) (d : Nat) : Nat := min 8 (phasesLeft s d) * 1000

/-- A refill rate held between the floor and the ceiling (R511). -/
def creditClamp (s : State) (d n : Nat) : Nat := max 64 (min n (creditCeiling s d))

/-- A write of PWR_CREDIT_d.REFILL (R26, R511). -/
def creditWrite (s : State) (d n : Nat) : State :=
  let v := creditClamp s d n
  let s := fset s (Reg.PWR_CREDIT d) F.PWR_CREDIT_REFILL v
  if v = n then s
  else if n < 64 then limitRecord (pwrWerr s) 16 Code.LIMIT_CLAMPED (Reg.PWR_CREDIT d)
  else pwrWerr s

/-- A write of PWR_VIN_WARN: clamped to 5,600 to 36,000 mV. -/
def vinWarnWrite (s : State) (mv : Nat) : State :=
  let v := max 5600 (min mv 36000)
  let s := fset s Reg.PWR_VIN_WARN F.PWR_VIN_WARN_MV v
  if v = mv then s else pwrWerr s

/-- PHASE_DROP: a phase of a rail is switched off; the limits fall at once (R390, R510, R511, R531). -/
def phaseDrop (s : State) (d : Nat) : State :=
  if phasesLeft s d = 0 then s
  else
    let n := sget (fun _ => 0) s.power.phases d + 1
    let s := { s with power := { s.power with phases := sset (fun _ => 0) s.power.phases d n } }
    let at_ := if d = 4 then 2 ^ 12 else 8 ^ d
    let top := if d = 4 then 15 else 7
    let old := oget s Od.PHASES_LOST
    let s := oset s Od.PHASES_LOST (old - old / at_ % (top + 1) * at_ + min n top * at_)
    let s := if d < 4 then
        fset s (Reg.PWR_CREDIT d) F.PWR_CREDIT_REFILL (creditClamp s d (fget s (Reg.PWR_CREDIT d) F.PWR_CREDIT_REFILL))
      else s
    raiseHealth s 1

/-- One idle REFCLK period of the regulators: a setpoint moves by at most 2 mV/µs toward its target (R509). -/
def vcoreTick (s : State) (d : Nat) : State :=
  let a := Reg.PWR_VCORE d
  let step := (s.ticks + 1) * 128 / 10000 - s.ticks * 128 / 10000
  let now := fget s a F.PWR_VCORE_NOW
  let dst := fget s a F.PWR_VCORE_TARGET
  if step = 0 ∨ now = dst ∨ now = 0 then s
  else fset s a F.PWR_VCORE_NOW (if now < dst then min dst (now + step) else max dst (now - step))

/-! ## The rate meter and the delay monitors (R98, R514) -/

/-- The lowest completed count of a die's participating clusters, if it runs a pattern. -/
def lowestCount (s : State) (d : Nat) : Option Nat :=
  (((List.range 16).flatMap fun p => (partClusters s p).filter fun c =>
    decide (c.die.val = d) && decide (partState s p ≠ 0) && participating s c).map (completedCount s)).min?

/-- The die runs a pattern: a partition on it is RUNNING. -/
def dieRuns (s : State) (d : Nat) : Bool :=
  (List.range 16).any fun p => decide (runState s p = 2) && (partDies s p).contains d

/-- RATE_METER_WINDOW: a 1 ms window closes (R96, R98); the credits spent in it are shown (R514). The meter is valid once a full
window of a running pattern has been measured. -/
def rateWindow (s : State) (d : Nat) : State :=
  let x := getDie s d
  let now := if dieRuns s d then lowestCount s d else none
  let s := fset s (Reg.PWR_CREDIT_MW d) F.PWR_CREDIT_MW_MW (min (x.spent / 100000) 0xFFFFFFFF)
  let s := match x.meter, now with
    | some a, some b =>
      fsets s (Reg.BP_RATE_METER d) [(F.BP_RATE_METER_VALID, 1), (F.BP_RATE_METER_RATE, min ((b - a) / 1000) 0xFFFF)]
    | _, _ => s
  setDie s d { x with meter := now, spent := 0 }

/-- The register of delay monitor `m` of die `d`, where it exists. -/
def monitorReg (d m : Nat) : Option Nat := calReg 1 d m

/-- DELAY_MONITOR_SAMPLE: a monitor's reading in ps, held while it is being recalibrated (R98). -/
def monitorSample (s : State) (d m ps : Nat) : State :=
  match monitorReg d m with
  | some a => if fbit s a F.SNS_DLYMON_CAL then s else fset s a F.SNS_DLYMON_TSTITCH ps
  | none => s

/-- A die's predicted intrinsic rate in M stitch/s: the reciprocal of the largest calibrated reading (R98). R98 gives none for a die
none of whose monitors has a calibrated reading: the model takes 0, which is below every target (assumption 87). -/
def predictedRate (s : State) (d : Nat) : Nat :=
  let big := (List.range 32).foldl (fun m i =>
    if fbit s (Reg.SNS_DLYMON d i) F.SNS_DLYMON_VALID then max m (fget s (Reg.SNS_DLYMON d i) F.SNS_DLYMON_TSTITCH) else m) 0
  if big = 0 then 0 else 1000000 / big

/-- The Yoke core's longest handshake cycle, the larger calibrated reading of its two monitors, limits the packet network and the
Seam packers (R98). The cycle at which it does is the implementation's. -/
def yokeLimited (s : State) : Bool :=
  (List.range 2).any fun m => match monitorReg 4 m with
    | some a => fbit s a F.SNS_DLYMON_VALID && decide (Config.yokeCycle ≤ fget s a F.SNS_DLYMON_TSTITCH)
    | none => false

/-! ## Rate control (R99 to R101) -/

/-- A Weave die mapped out (R522). -/
def dieOut (s : State) (d : Nat) : Bool := decide (oget s Od.START_FAULTS / 2 ^ d % 2 = 1)

/-- A stack mapped out (R522). -/
def stackMappedOut (s : State) (d : Nat) : Bool := decide (oget s Od.START_FAULTS / 2 ^ (4 + d) % 2 = 1)

/-- The die holds a carve of some partition. -/
def dieCarved (s : State) (d : Nat) : Bool :=
  (List.range 16).any fun p => decide (partState s p ≠ 0) && (partDies s p).contains d

/-- A slow-down of R517 stands for a part. -/
def slowed (s : State) (part : Nat) : Bool := s.power.slow.contains part

/-- The headroom that Collar last wrote is negative, or zero (R513). -/
def headroomBelow (s : State) : Bool :=
  fbit s Reg.PWR_HEADROOM F.PWR_HEADROOM_VALID && decide (0x8000 ≤ fget s Reg.PWR_HEADROOM F.PWR_HEADROOM_W)
def headroomNone (s : State) : Bool :=
  fbit s Reg.PWR_HEADROOM F.PWR_HEADROOM_VALID && decide (fget s Reg.PWR_HEADROOM F.PWR_HEADROOM_W = 0)

/-- Clusters of a die wait under CREDIT while its refill rate stands below OD CREDIT_REFILL: the credit controller holds stitches
for the power cap (R100, R513). -/
def creditStalled (s : State) (d : Nat) : Bool :=
  decide (fget s (Reg.PWR_CREDIT d) F.PWR_CREDIT_REFILL < oget s Od.CREDIT_REFILL) && !(getDie s d).credits.isEmpty

/-- The next setpoint of a die's rail, and whether a step up that the loop wanted was not allowed (R99 orders 2 to 4, R100,
R517). -/
def rateStep (s : State) (d : Nat) : Nat × Bool :=
  let p := predictedRate s d
  let t := fget s (Reg.PWR_VCORE d) F.PWR_VCORE_TARGET
  let goal := oget s Od.RATE_TARGET
  let down := max 500 (t - 5)
  if slowed s d then (down, decide (p < goal))
  else
    let up := decide (oget s Od.RATE_POLICY = 1) || decide (p < goal)
    let lower := decide (oget s Od.RATE_POLICY = 0) && decide (goal * 103 < p * 100)
    if headroomBelow s || creditStalled s d then (down, up)
    else if up then (if headroomNone s || decide (900 < t + 5) then (t, true) else (t + 5, false))
    else if lower then (down, false)
    else (t, false)

/-- A count of loop periods, raised or restarted. -/
def countPeriods (m : SMap Nat) (k : Nat) (more : Bool) : SMap Nat :=
  sset (fun _ => 0) m k (if more then min (sget (fun _ => 0) m k + 1) 100 else 0)

/-- RATE_SHORTFALL after a die's period (R101). The flag clears once every die that runs the loop has met the target for 100
periods; a die that is mapped out, has no carve or has not run yet is held by no target. -/
def shortfall (s : State) (d : Nat) (blocked : Bool) : State :=
  let p := predictedRate s d
  let goal := oget s Od.RATE_TARGET
  let low := countPeriods s.power.rateLow d (decide (oget s Od.RATE_POLICY = 0) && decide (p < goal) && blocked)
  let met := countPeriods s.power.rateMet d (decide (goal ≤ p))
  let s := { s with power := { s.power with rateLow := low, rateMet := met } }
  let exempt := fun (i : Nat) => dieOut s i || !dieCarved s i || !s.power.ran.contains i
  if sget (fun _ => 0) low d = 100 ∧ oget s Od.RATE_SHORTFALL = 0 then
    logRecord (oset s Od.RATE_SHORTFALL 1) 14 (Config.severity (Config.code 101)).val modulePart (Config.code 101) d []
  else if oget s Od.RATE_SHORTFALL = 1 ∧ (List.range 4).all (fun i => exempt i || decide (sget (fun _ => 0) met i = 100)) = true then
    oset s Od.RATE_SHORTFALL 0
  else s

/-- RATE_INTRINSIC and RATE_ACHIEVED (R99 order 6, R102). A die that is mapped out counts in neither, and a die whose
BP_RATE_METER is not VALID not in RATE_ACHIEVED, which R102 does not say (assumption 87). -/
def rateReports (s : State) : State :=
  let dies := (List.range 4).filter fun d => !dieOut s d
  let s := oset s Od.RATE_INTRINSIC ((dies.map (predictedRate s)).min?.getD 0)
  let runs := dies.filter fun d => dieRuns s d && fbit s (Reg.BP_RATE_METER d) F.BP_RATE_METER_VALID
  oset s Od.RATE_ACHIEVED ((runs.map fun d => fget s (Reg.BP_RATE_METER d) F.BP_RATE_METER_RATE).min?.getD 0)

/-- RATE_CONTROL_LOOP of die `d` (R99). Until the die's first run its rail keeps the value that Fit set (R520); a die with no
carve is held at 0.60 V (R518). -/
def rateLoop (s : State) (d : Nat) : State :=
  if !leased s || dieOut s d || decide (fget s Reg.PWR_STATUS F.PWR_STATUS_STAGE < 2) then s
  else
    let s := if dieRuns s d ∧ s.power.ran.contains d = false then
        { s with power := { s.power with ran := d :: s.power.ran } } else s
    if s.power.ran.contains d = false then rateReports s
    else if !dieCarved s d then rateReports (vcoreWrite s d 600)
    else
      let r := rateStep s d
      rateReports (shortfall (vcoreWrite s d r.1) d r.2)

/-! ## Temperatures (R515 to R517) -/

/-- Registers of a part's thermal sensors: 0 to 3 Weave dies, 4 the Yoke die, 5 to 8 stacks. -/
def partTemps (part : Nat) : List Nat :=
  if part < 5 then (List.range (if part = 4 then 4 else 9)).map fun n => Reg.SNS_TEMP part n
  else [Reg.SNS_HBM_TEMP (part - 5)]

/-- A reading in units of 1/16 °C, 0 where it is negative. -/
def tempOf (s : State) (a : Nat) : Nat :=
  let v := fget s a F.SNS_TEMP_VALUE
  if v < 0x8000 then v else 0

/-- The hottest reading of a part. -/
def hottest (s : State) (part : Nat) : Nat := (partTemps part).foldl (fun m a => max m (tempOf s a)) 0

/-- The brake causes and PWR_STATUS.TRIP follow the trips that stand (R515). -/
def showTrips (s : State) (trips : List Nat) : State :=
  let s := { s with power := { s.power with trips := trips } }
  let all := trips.any fun t => decide (4 ≤ t)
  let s := (List.range 4).foldl (fun s d => setCause s d F.PWR_CREDIT_THERMAL (all || trips.contains d)) s
  fset s Reg.PWR_STATUS F.PWR_STATUS_TRIP (if trips.isEmpty then 0 else 1)

/-- THERMAL_TRIP: a sensor of the part has reached 115 °C (R515). -/
def thermalTrip (s : State) (part : Nat) : State :=
  if hottest s part < 1840 ∨ s.power.trips.contains part = true then s
  else
    let s := oinc (showTrips s (s.power.trips ++ [part])) Od.THERMAL_TRIPS
    logRecord s 16 6 modulePart Code.THERMAL_TRIP ((partTemps part).headD 0) []

/-- THERMAL_TRIP_CLEAR: every sensor of the part has stayed at or below 110 °C for 100 ms (R515). -/
def tripClear (s : State) (part : Nat) : State :=
  if 1760 < hottest s part then s else showTrips s (s.power.trips.filter fun t => decide (t ≠ part))

/-- THERMAL_SHUTDOWN: a trip has stood for 1 s, or a sensor has reached 125 °C (R516 orders 1 to 5). -/
def thermalShutdown (s : State) : State :=
  if s.power.thermalDown || (s.power.trips.isEmpty && (List.range 9).all fun t => decide (hottest s t < 2000)) then s
  else
    let s := sendHalt s Code.THERMAL_SHUTDOWN
    let s := { holdPins s 0xFFFF with pinsHeld := true }
    let s := zeroiseAll s (List.range 64)
    let s := (List.range 16).foldl (fun s p =>
      if partState s p = 0 then s else haltPart (osetTell s p (Od.LAST_STOP p) Code.THERMAL_SHUTDOWN) p) s
    let s := fset (hemStop s) Reg.CFG_STATUS F.CFG_STATUS_BUSY 0
    let s := { s with power := { s.power with thermalDown := true, latch := 4 } }
    logRecord s 16 6 modulePart Code.THERMAL_SHUTDOWN 0 []

/-- The Weave rails and HBM supplies switch off: design state and HBM contents are lost (R516, R527). -/
def weaveOff (s : State) : State :=
  let s := { s with
    mem := sclear (sclear s.mem 0 0x004000000000) 0x010000000000 0x014000000000,
    wsched := [], clusters := [], dies := [], stages := [],
    regs := sclear (sclear s.regs 0x010000000000 0x014000000000) (bar0 + 0x2000000) (bar0 + 0x3000000),
    power := { s.power with weaveOn := false } }
  let s := (List.range 4).foldl (fun s d => fset s (Reg.PWR_VCORE d) F.PWR_VCORE_NOW 0) s
  (List.range 4).foldl (fun s d => fsets s (Reg.HBM_STATUS d) [(F.HBM_STATUS_UP, 0), (F.HBM_STATUS_OUT, 0)]) s

/-- SHUTDOWN_RAILS_OFF: 10 ms after a thermal shutdown (R516 order 6). -/
def railsOff (s : State) : State := if s.power.thermalDown && s.power.weaveOn then weaveOff s else s

/-! ## The power cap and the slow-down (R513, R517) -/

/-- The average input power of the last 1 ms, in W (R513): the present readings where none was sampled. -/
def inputPower (s : State) : Nat :=
  let x := s.power
  if x.wattCount = 0 then fget s Reg.SNS_VIN F.SNS_VIN_VALUE * fget s Reg.SNS_IIN F.SNS_IIN_VALUE / 100000
  else x.wattSum / x.wattCount / 100000

/-- REFILL of a die as firmware sets it, within the hardware's limits. -/
def setRefill (s : State) (d n : Nat) : State := fset s (Reg.PWR_CREDIT d) F.PWR_CREDIT_REFILL (creditClamp s d n)
def refill (s : State) (d : Nat) : Nat := fget s (Reg.PWR_CREDIT d) F.PWR_CREDIT_REFILL

/-- Every die is at the floor and at 0.50 V. -/
def atBottom (s : State) : Bool :=
  (List.range 4).all fun d =>
    dieOut s d || (decide (refill s d ≤ 64) && decide (fget s (Reg.PWR_VCORE d) F.PWR_VCORE_NOW ≤ 500))

/-- A slow-down holds a die's refill rate down (R517). -/
def refillSlowed (s : State) (d : Nat) : Bool := slowed s d || (List.range 4).any fun h => slowed s (5 + h)

/-- Orders 2 to 4 of R513, for an average power of `p` W. -/
def capSteps (s : State) (p : Nat) : State :=
  let cap := oget s Od.POWER_CAP
  let s := if cap < p then (List.range 4).foldl (fun s d => setRefill s d (max 64 (refill s d * cap / p))) s else s
  let below := if p * 100 < 95 * cap then min (s.power.capBelow + 1) 100 else 0
  let full := oget s Od.CREDIT_REFILL
  let s := if below = 100 then
      (List.range 4).foldl (fun s d =>
        if refillSlowed s d || decide (full ≤ refill s d) then s else setRefill s d (min full (refill s d + full * 5 / 100))) s
    else s
  let above := if cap < p ∧ atBottom s = true then min (s.power.capAbove + 1) 100 else 0
  let told := s.power.capTold && decide (cap ≤ p)
  let s := { s with power := { s.power with capBelow := below, capAbove := above, capTold := told || decide (above = 100) } }
  if above = 100 ∧ told = false then logRecord s 16 4 modulePart Code.CAP_UNMET 0 [] else s

/-- The threshold of a part's slow-down, in 1/16 °C (R517). -/
def slowAt (s : State) (part : Nat) : Nat := 16 * (oget s Od.THERM_SLOW - if part < 5 then 0 else 15)

/-- What a slow-down that stands does each millisecond, beside the rate-control step (R517). -/
def slowActs (s : State) (part : Nat) : State :=
  let n := sget (fun _ => 0) s.power.slowMs part + 1
  let s := { s with power := { s.power with slowMs := sset (fun _ => 0) s.power.slowMs part (n % 10) } }
  let halve := fun (s : State) (d : Nat) => setRefill s d (max 64 (refill s d / 2))
  if part = 4 then
    let t := fget s (Reg.PWR_VCORE 4) F.PWR_VCORE_TARGET
    if 650 < t ∧ ¬ yokeLimited s = true then vcoreWrite s 4 (max 650 (t - 5)) else s
  else if n % 10 ≠ 0 then s
  else if 5 ≤ part then (List.range 4).foldl halve s
  else if fget s (Reg.PWR_VCORE part) F.PWR_VCORE_NOW ≤ 500 ∧ slowAt s part ≤ hottest s part then halve s part
  else s

/-- A part's slow-down begins, goes on, or ends after 100 ms below its threshold less 3 °C (R517). -/
def slowPart (s : State) (part : Nat) : State :=
  let t := hottest s part
  if !slowed s part then
    if slowAt s part ≤ t then
      let x := s.power
      let s := { s with power := { x with
        slow := part :: x.slow, cool := sset (fun _ => 0) x.cool part 0, slowMs := sset (fun _ => 0) x.slowMs part 0 } }
      logRecord s 16 4 modulePart (Config.code 517) ((partTemps part).headD 0) []
    else s
  else
    let cool := countPeriods s.power.cool part (decide (t + 48 < slowAt s part))
    let s := { s with power := { s.power with cool := cool } }
    if sget (fun _ => 0) cool part = 100 then
      { s with power := { s.power with slow := s.power.slow.filter fun q => decide (q ≠ part) } }
    else slowActs s part

/-- The Yoke rail is kept above the voltage at which its core's cycle limits the packet network and the Seam packers (R98): up by
5 mV in each pass of Collar's while it does (assumption 84). -/
def yokeRaise (s : State) : State :=
  let t := fget s (Reg.PWR_VCORE 4) F.PWR_VCORE_TARGET
  if yokeLimited s && decide (t + 5 ≤ 900) then vcoreWrite s 4 (t + 5) else s

/-- POWER_CAP_LOOP: Collar's pass of one millisecond (R513, R517), with the reports of R440. -/
def capLoop (s : State) : State :=
  if !leased s || decide (fget s Reg.PWR_STATUS F.PWR_STATUS_STAGE = 0) then s
  else
    let p := inputPower s
    let cap := oget s Od.POWER_CAP
    let s := fsets s Reg.PWR_HEADROOM [(F.PWR_HEADROOM_VALID, 1), (F.PWR_HEADROOM_W, (cap + 0x10000 - p) % 0x10000)]
    let s := capSteps s p
    let powers := (p :: s.power.powers).take 100
    let s := { s with power := { s.power with wattSum := 0, wattCount := 0, powers := powers } }
    let s := oset s Od.POWER_NOW (min (powers.sum / powers.length) 0xFFFF)
    let s := oset s Od.POWER_CAPPED (if powers.any (fun q => decide (cap < q)) then 1 else 0)
    yokeRaise ((List.range 9).foldl slowPart s)

/-- BLOCK_IDLE_GATE: a block domain whose clusters have had BP_SWEEP_LEN 0 for GATE_DELAY_S is put to sleep (R518). -/
def idleGate (s : State) (k : Nat) : State :=
  if !leased s || decide (oget s Od.GATE_IDLE ≠ 1) || (blockClusters k).any (participating s) then s else domainSleep s k

/-! ## Losing power (R516, R525 to R528) -/

/-- Dictionary entries that report what flash and fuses hold. -/
def flashEntries : List Nat :=
  [Od.FW_SLOT_A, Od.FW_SLOT_B, Od.FW_COMMITTED, Od.FUSE_STEPS_USED, Od.LOG_NEWEST, Od.LOG_OLDEST, Od.LOG_ERASE_MAX, Od.LOG_AREA]

/-- What is left once every rail but the always-on one has been off: the flash devices and fuses, repaired HBM rows and stacks
to be mapped out, the always-on latch, the levels at the pins, the clock of the model and its free counter, and the queue of
commands. -/
def powerLost (s : State) : State :=
  let c := s.collar
  let r := State.reset
  let next := match s.logFlash.records.getLast? with
    | some _ => oget s Od.LOG_NEWEST + 1
    | none => 0
  let t : State := { r with
    collar := { r.collar with flash := c.flash, sigA := c.sigA, sigB := c.sigB, committed := c.committed, trial := c.trial,
                              storeA := c.storeA, storeB := c.storeB },
    logFlash := s.logFlash, logSeq := next, pprUsed := s.pprUsed, mapOut := s.mapOut, pinIn := s.pinIn,
    power := { r.power with latch := s.power.latch, porstLow := s.power.porstLow },
    ticks := s.ticks, free := s.free, pending := s.pending }
  let t := flashEntries.foldl (fun t k => oset t k (oget s k)) t
  let t := oset t Od.PPR_ROWS_USED (s.pprUsed.map fun e => e.2).sum
  let t := fset t Reg.COL_FUSE F.COL_FUSE_USED (fuseUsed s)
  fset t Reg.PWR_STATUS F.PWR_STATUS_VIN_OK (fget s Reg.PWR_STATUS F.PWR_STATUS_VIN_OK)

/-- The latch records a cause while it holds none (R530). -/
def latchCause (s : State) (n : Nat) : State :=
  if s.power.latch = 0 then { s with power := { s.power with latch := n } } else s

/-- A reset by PORST_N. -/
def porstTaken (s : State) : State :=
  let s := powerLost (latchCause s 1)
  { s with power := { s.power with porstLow := true } }

/-- PORST: PORST_N has been low for `ns` (R525). A pulse from 1 to 10 µs may or may not reset: a free value. -/
def porst (s : State) (ns : Nat) : State :=
  if ns < 1000 then s
  else if ns < 10000 then
    let b := drawBit s
    if b.1 then porstTaken b.2 else b.2
  else porstTaken s

/-- The start origin (R519): the Yoke rail ramps, and STRAP is sampled (R520, R548). -/
def startOrigin (s : State) (strap : Nat) : State :=
  oset { s with power := { s.power with started := true, origin := s.ticks } } Od.SLOT_STRAP strap

/-- VIN_VALID: VIN has risen to 5.8 V; the always-on domain pulls INIT_N and DONE low (R504, R520). With PORST_N already
released this is the start origin. -/
def vinValid (s : State) (strap : Nat) : State :=
  if fbit s Reg.PWR_STATUS F.PWR_STATUS_VIN_OK then s
  else
    let s := fset s Reg.PWR_STATUS F.PWR_STATUS_VIN_OK 1
    let s := fsets s Reg.CFG_STATUS
      [(F.CFG_STATUS_INIT_N_PULL, 1), (F.CFG_STATUS_INIT_N_IN, 0), (F.CFG_STATUS_DONE_PULL, 1), (F.CFG_STATUS_DONE_IN, 0)]
    if s.power.porstLow then s else startOrigin s strap

/-- PORST_N_RELEASE: PORST_N has risen; with VIN valid this is the start origin (R520). -/
def porstRelease (s : State) (strap : Nat) : State :=
  if !s.power.porstLow then s
  else
    let s := { s with power := { s.power with porstLow := false } }
    if fbit s Reg.PWR_STATUS F.PWR_STATUS_VIN_OK then startOrigin s strap else s

/-- VIN_LOCKOUT: VIN has fallen below 5.2 V (R504, R528): the module no longer pulls INIT_N and DONE low (R526). `deep`: VIN has fallen
below 4.5 V too, and the latch is empty. -/
def vinLockout (s : State) (deep : Bool) : State :=
  let s := fset (powerLost s) Reg.PWR_STATUS F.PWR_STATUS_VIN_OK 0
  let s := fsets s Reg.CFG_STATUS [(F.CFG_STATUS_INIT_N_PULL, 0), (F.CFG_STATUS_DONE_PULL, 0)]
  if deep then { s with power := { s.power with latch := 0 } } else s

/-- OVERCURRENT: the power-off of R528 with cause OVERCURRENT (R506, R510). -/
def overcurrent (s : State) : State :=
  let s := powerLost (latchCause s 3)
  { s with power := { s.power with resting := true } }

/-- The log queue flushed: records of severity 3 and above first (R528). -/
def flushLog (s : State) : State :=
  let q := s.logQueue
  let l := (q.filter fun r => decide (3 ≤ r.severity)) ++ (q.filter fun r => decide (r.severity < 3))
  l.foldl (fun s r => programRecord s r false) { s with logQueue := [] }

/-- The last queued record taken out of the queue. -/
def popLast (s : State) : State × Option LogRecord :=
  ({ s with logQueue := s.logQueue.dropLast }, s.logQueue.getLast?)

/-- VIN_WARN: VIN has fallen below VIN_WARN_MV (R528). The hardware brakes; with a holder, Collar programs a BROWNOUT record,
then flushes the log queue and a store generation not yet written. -/
def vinWarn (s : State) : State :=
  if fbit s Reg.PWR_STATUS F.PWR_STATUS_WARN || !fbit s Reg.PWR_STATUS F.PWR_STATUS_VIN_OK then s
  else
    let s := { s with power := { s.power with warnAt := s.ticks } }
    let s := setCauses (fset s Reg.PWR_STATUS F.PWR_STATUS_WARN 1) F.PWR_CREDIT_VINWARN true
    if !leased s then s
    else
      let r := popLast (logRecord s 16 6 modulePart Code.BROWNOUT 0 [])
      let s := match r.2 with
        | some x => programRecord r.1 x false
        | none => r.1
      let s := flushLog s
      if s.collar.storeA.entries = keptValues s then s else storeWrite s

/-- VIN_RECOVER: VIN has risen above VIN_WARN_MV + 200 mV (R528). -/
def vinRecover (s : State) : State :=
  if fbit s Reg.PWR_STATUS F.PWR_STATUS_WARN then
    let s := setCauses (fset s Reg.PWR_STATUS F.PWR_STATUS_WARN 0) F.PWR_CREDIT_VINWARN false
    if leased s then logRecord s 16 4 modulePart (Config.code 528) 0 [(s.ticks - s.power.warnAt) * 64 / 10000] else s
  else s

/-! ## REFCLK (R523, R524) -/

/-- REFCLK_ARRIVAL: REFCLK is present for the first time; the time counters start at 0 (R523). -/
def refclkArrival (s : State) : State :=
  if s.power.refclkSeen then s
  else
    fset { s with power := { s.power with refclkSeen := true }, timeA := 0, timeB := 0 }
      Reg.PWR_STATUS F.PWR_STATUS_REFCLK_OK 1

/-- REFCLK_LOSS: REFCLK_OK clears, which holds every sweep gate; the Seam ports go down (R524). -/
def refclkLoss (s : State) : State :=
  if !fbit s Reg.PWR_STATUS F.PWR_STATUS_REFCLK_OK then s
  else (List.range 16).foldl seamRetrain (fset s Reg.PWR_STATUS F.PWR_STATUS_REFCLK_OK 0)

/-- REFCLK_RETURN: REFCLK is back within 10 ms (R524). -/
def refclkReturn (s : State) : State :=
  if s.power.refclkSeen && !s.power.refclkGone then fset s Reg.PWR_STATUS F.PWR_STATUS_REFCLK_OK 1 else s

/-- REFCLK_LOST: every running partition stops (R524). -/
def refclkLost (s : State) : State :=
  if s.power.refclkSeen && !s.power.refclkGone && !fbit s Reg.PWR_STATUS F.PWR_STATUS_REFCLK_OK then
    (List.range 16).foldl (fun s p => if runState s p = 2 then stopPart s p Code.REFCLK_LOST 0 else s)
      { s with power := { s.power with refclkGone := true } }
  else s

/-! ## Tack (R519, R520) -/

/-- Milliseconds from the start origin. -/
def sinceOrigin (s : State) : Nat := min ((s.ticks - s.power.origin) / 156250) 0xFFFFFFFF

/-- A stage reached: PWR_STATUS.STAGE, START_STAGE and its time in STAGE_MS (R532). -/
def reachStage (s : State) (n : Nat) : State :=
  let s := oset (fset s Reg.PWR_STATUS F.PWR_STATUS_STAGE n) Od.START_STAGE n
  if n < 3 then oset s Od.STAGE_MS (oget s Od.STAGE_MS % 2 ^ (32 * n) + sinceOrigin s * 2 ^ (32 * n)) else s

/-- TACK: the Yoke rail stands at 0.75 V and the always-on domain has passed its self-test (R519). -/
def tack (s : State) : State :=
  if s.power.started && !s.power.tack then reachStage { s with power := { s.power with tack := true } } 0 else s

/-! ## The commands -/

def execRateMeterWindow (d : Fin 4) (s : State) : Host.Outcome State Fault Refusal := .next (rateWindow s d.val)
def execDelayMonitorSample (d : Fin 5) (m : Fin 32) (ps : BitVec 16) (s : State) : Host.Outcome State Fault Refusal :=
  .next (monitorSample s d.val m.val ps.toNat)
def execRateControlLoop (d : Fin 4) (s : State) : Host.Outcome State Fault Refusal := .next (rateLoop s d.val)
def execPhaseDrop (rail : Fin 5) (s : State) : Host.Outcome State Fault Refusal := .next (phaseDrop s rail.val)
def execVinValid (strap : Fin 16) (s : State) : Host.Outcome State Fault Refusal := .next (vinValid s strap.val)
def execVinLockout (deep : Bool) (s : State) : Host.Outcome State Fault Refusal := .next (vinLockout s deep)
def execVinWarn (s : State) : Host.Outcome State Fault Refusal := .next (vinWarn s)
def execVinRecover (s : State) : Host.Outcome State Fault Refusal := .next (vinRecover s)
def execInputOvercurrent (s : State) : Host.Outcome State Fault Refusal := .next (inputOver s)
def execOvercurrent (s : State) : Host.Outcome State Fault Refusal := .next (overcurrent s)
def execRailOvercurrent (d : Fin 4) (s : State) : Host.Outcome State Fault Refusal := .next (railOver s d.val)
def execBrakeRelease (cause : BrakeCause) (s : State) : Host.Outcome State Fault Refusal := .next (brakeRelease s cause)
def execPowerCapLoop (s : State) : Host.Outcome State Fault Refusal := .next (capLoop s)
def execPwrCreditWrite (d : Fin 4) (n : BitVec 16) (s : State) : Host.Outcome State Fault Refusal :=
  .next (creditWrite s d.val n.toNat)
def execPwrVcoreWrite (rail : Fin 5) (mv : BitVec 10) (s : State) : Host.Outcome State Fault Refusal :=
  .next (vcoreWrite s rail.val mv.toNat)
def execThermalTrip (part : Fin 9) (s : State) : Host.Outcome State Fault Refusal := .next (thermalTrip s part.val)
def execThermalTripClear (part : Fin 9) (s : State) : Host.Outcome State Fault Refusal := .next (tripClear s part.val)
def execThermalShutdown (s : State) : Host.Outcome State Fault Refusal := .next (thermalShutdown s)
def execShutdownRailsOff (s : State) : Host.Outcome State Fault Refusal := .next (railsOff s)
def execBlockIdleGate (k : Fin 64) (s : State) : Host.Outcome State Fault Refusal := .next (idleGate s k.val)
def execPorst (ns : Nat) (s : State) : Host.Outcome State Fault Refusal := .next (porst s ns)
def execTack (s : State) : Host.Outcome State Fault Refusal := .next (tack s)
def execRefclkLoss (s : State) : Host.Outcome State Fault Refusal := .next (refclkLoss s)
def execRefclkReturn (s : State) : Host.Outcome State Fault Refusal := .next (refclkReturn s)
def execRefclkLost (s : State) : Host.Outcome State Fault Refusal := .next (refclkLost s)
def execRefclkArrival (s : State) : Host.Outcome State Fault Refusal := .next (refclkArrival s)
def execPorstNRelease (strap : Fin 16) (s : State) : Host.Outcome State Fault Refusal := .next (porstRelease s strap.val)

end Sys2Proof.Machine
end

