-- ==== Sys2Proof/Machine/RegBasic.lean ====
section
/-! DEFINITION. Registers read and written by their Access codes (R5 to R7), the pairs of LO and HI registers, and the registers
and RAM of the acquisition units, which BAR0 and OD 6p47.01 ACQ_REGS share (R343, R368). -/

namespace Sys2Proof.Machine

/-! ## Access codes (R5) -/

/-- A field's value after `new` is written to it while it holds `old`. -/
def accessWrite (a : Access) (old new : Nat) : Nat :=
  match a with
  | .ro => old
  | .rc => old
  | .rw => new
  | .wo => new
  | .w1c => old - (old &&& new)
  | .w1s => old ||| new

/-- A register's word after `v` is written to it; reserved bits are ignored (R6). -/
def wordWrite (d : RegDesc) (old v : Word) : Word :=
  d.fields.foldl (fun w f => fldSet w f.fld (accessWrite f.acc (fldGet old f.fld) (fldGet v f.fld))) old

/-- A write of a register by its Access codes alone; nothing where the spec names no register. -/
def plainWrite (s : State) (a : Nat) (v : Word) : State :=
  match regDesc a with
  | some d => rset s a (wordWrite d (rget s a) v)
  | none => s

/-- What a read returns of a register that holds `w`: write-only fields read 0. -/
def readWord (d : RegDesc) (w : Word) : Word :=
  d.fields.foldl (fun x f => if f.acc = .wo then fldSet x f.fld 0 else x) w

/-- The read-clear fields of a register cleared. -/
def clearRead (s : State) (a : Nat) : State :=
  match regDesc a with
  | some d =>
    if d.fields.any fun f => decide (f.acc = .rc) then
      rset s a (d.fields.foldl (fun w f => if f.acc = .rc then fldSet w f.fld 0 else w) (rget s a))
    else s
  | none => s

/-! ## The acquisition units (R343, R368) -/

/-- A unit is IDLE or DONE. -/
def unitAtRest (s : State) (u : Nat) : Bool := decide (unitState s u = 0) || decide (unitState s u = 4)

/-- The bit of each unit that a mask entry of OD 5104 mirrors (R367). -/
def acqMask (s : State) (f : Fld) : Nat := ((List.range 16).map fun u => ucfg s u f * 2 ^ u).sum

/-- The entries of OD 5104 follow ACQ_U_CFG (R367). -/
def syncAcq (s : State) : State :=
  let s := oset s Od.HOLD (acqMask s F.ACQ_U_CFG_HOLD)
  let s := oset s Od.WRAP (acqMask s F.ACQ_U_CFG_WRAP)
  let s := oset s Od.QUEUE_ONE (acqMask s F.ACQ_U_CFG_QUEUE_ONE)
  oset s Od.STREAM_DROP (acqMask s F.ACQ_U_CFG_DROP % 4)

/-- The base of a unit's register block. -/
def unitBlock (u : Nat) : Nat := Reg.ACQ_U_CTRL u

/-- The 64-bit value of a pair of a unit's block, by the offset of its LO register. -/
def unitPair (s : State) (u off : Nat) : Option Nat :=
  let a := unitBlock u + off
  if off = 0x24 ∨ off = 0x60 ∨ off = 0x68 ∨ off = 0x70 ∨ off = 0x78 then
    some ((rget s a).toNat + (rget s (a + 4)).toNat * 2 ^ 32)
  else if off = 0x40 ∨ off = 0x48 ∨ off = 0x50 ∨ off = 0x58 then
    some (unitCnt (getUnit s u) ((off - 0x40) / 8) % 2 ^ 48)
  else none

/-- A read of the word at offset `off` of a unit's block. -/
def unitRead (s : State) (u off : Nat) : State × Word :=
  let a := unitBlock u + off
  match unitPair s u off with
  | some v => captureHi s (a + 4) v
  | none =>
    if 4 ≤ off ∧ (unitPair s u (off - 4)).isSome = true then (s, readHi s a)
    else if 0x80 ≤ off ∧ off < 0xA0 ∧ off % 8 = 0 then
      (s, fldSet (rget s a) F.ACQ_U_TIMER_RUN (if (unitTimer (getUnit s u) ((off - 0x80) / 8)).run then 1 else 0))
    else
      match regDesc a with
      | some d => (clearRead s a, readWord d (rget s a))
      | none => (s, 0)

/-- A write of the word at offset `off` of a unit's block (R344, R368). ARM, STOP and FORCE act at the write and are never stored: a W1S
command bit whose row states no value to read reads as 0 (DESIGN CHOICE, assumption 88). -/
def unitWrite (s : State) (u off : Nat) (v : Word) : State :=
  let a := unitBlock u + off
  if off = 0 then
    let s := if fldGet v F.ACQ_U_CTRL_ARM = 1 then acqArm s u else s
    let s := if fldGet v F.ACQ_U_CTRL_STOP = 1 then acqStop s u else s
    if fldGet v F.ACQ_U_CTRL_FORCE = 1 then acqForce s u else s
  else if off = 8 ∨ off = 0xC ∨ off = 0x10 ∨ off = 0x14 ∨ off = 0x18 ∨ off = 0x38 then
    if !unitAtRest s u || (decide (off = 8) && decide (fldGet v F.ACQ_U_CFG_MODE = 3)) then unitWerr s u
    else if off = 8 then syncAcq (plainWrite s a v) else plainWrite s a v
  else plainWrite s a v

/-- The bits of the word at `off` of a unit RAM that are not reserved: of a state, the state word has [31:27], the action words [31:1],
and the last 12 bytes none (R349, R368). -/
def unitRamMask (off : Nat) : Word :=
  if off < 0x1000 ∨ 0x1200 ≤ off then 0xFFFFFFFF#32
  else
    match off % 0x20 / 4 with
    | 0 => 0xF8000000#32
    | 1 => 0xFFFFFFFF#32
    | 2 => 0xFFFFFFFE#32
    | 3 => 0xFFFFFFFF#32
    | 4 => 0xFFFFFFFE#32
    | _ => 0#32

/-- A word of a unit's RAM written: writes to reserved bits are ignored, which read as 0 (R6, R368). -/
def unitRamWrite (s : State) (u off : Nat) (v : Word) : State :=
  if unitAtRest s u then setMemBytes s (unitRam u + off) (leBytes 4 (v &&& unitRamMask off).toNat) else unitWerr s u

/-! ## Byte access over words -/

/-- Bytes `[off, off + n)` read through aligned words: `rd` reads the word at an aligned offset. -/
def bytesByWord (rd : State → Nat → State × Word) (s : State) (off n : Nat) : State × List Byte :=
  if n = 0 then (s, [])
  else
    let first := off / 4
    let count := (off + n + 3) / 4 - first
    let r := (List.range count).foldl (fun (acc : State × List Byte) i =>
      let x := rd acc.1 (4 * (first + i))
      (x.1, acc.2 ++ leBytes 4 x.2.toNat)) (s, [])
    (r.1, (r.2.drop (off % 4)).take n)

/-- Bytes written from `off` on through aligned words. A byte of a word that the access does not cover keeps what the word
holds where `keep` gives it, else it is 0. -/
def wordsByByte (keep : State → Nat → Word) (wr : State → Nat → Word → State) (s : State) (off : Nat) (bs : List Byte) :
    State :=
  if bs.isEmpty then s
  else
    let first := off / 4
    let count := (off + bs.length + 3) / 4 - first
    (List.range count).foldl (fun s i =>
      let o := 4 * (first + i)
      let old := leBytes 4 (keep s o).toNat
      let w := (List.range 4).map fun b =>
        if off ≤ o + b ∧ o + b < off + bs.length then bs.getD (o + b - off) 0 else old.getD b 0
      wr s o (BitVec.ofNat 32 (leNat w))) s

/-- The bits of a register that a partial write keeps: its RW fields. -/
def keptBits (s : State) (a : Nat) : Word :=
  match regDesc a with
  | some d => d.fields.foldl (fun w f => if f.acc = .rw then w else fldSet w f.fld 0) (rget s a)
  | none => 0

/-- The unit and the offset within its window that an offset of ACQ_REGS reaches: its register block, or its RAM (R343). -/
def acqRegsAt (off : Nat) : Option (Nat × Nat × Bool) :=
  if off < 0x1000 then some (off / 0x100, off % 0x100, false)
  else if 0x10000 ≤ off ∧ off < 0x30000 then some ((off - 0x10000) / 0x2000, (off - 0x10000) % 0x2000, true)
  else none

/-- Every unit that `n` bytes of ACQ_REGS reach belongs to partition `p`. -/
def acqRegsOwn (s : State) (p off n : Nat) : Bool :=
  let units := oget s (Od.ACQ_UNITS p)
  (List.range 16).all fun u =>
    units / 2 ^ u % 2 = 1 ||
    !((decide (off < u * 0x100 + 0x100) && decide (u * 0x100 < off + n)) ||
      (decide (off < 0x10000 + u * 0x2000 + 0x2000) && decide (0x10000 + u * 0x2000 < off + n)))

/-- A word of ACQ_REGS read. -/
def acqRegsRead (s : State) (off : Nat) : State × Word :=
  match acqRegsAt off with
  | some (u, o, true) => (s, BitVec.ofNat 32 (memLE s (unitRam u + o) 4))
  | some (u, o, false) => unitRead s u o
  | none => (s, 0)

/-- A word of ACQ_REGS written. -/
def acqRegsWrite (s : State) (off : Nat) (v : Word) : State :=
  match acqRegsAt off with
  | some (u, o, true) => unitRamWrite s u o v
  | some (u, o, false) => unitWrite s u o v
  | none => s

/-- What a partial word of ACQ_REGS keeps. -/
def acqRegsKeep (s : State) (off : Nat) : Word :=
  match acqRegsAt off with
  | some (u, o, true) => BitVec.ofNat 32 (memLE s (unitRam u + o) 4)
  | some (u, o, false) => keptBits s (unitBlock u + o)
  | none => 0

end Sys2Proof.Machine
end

