-- ==== Sys2Proof/Machine/Time.lean ====
section
/-! DEFINITION. The Ethernet ports (R446 to R449), the time counters (R463, R464), PTP (R465 to R471) and the time alarms
(R472 to R476). Network and time firmware runs while a controller holds the charge lease (R400). -/

namespace Sys2Proof.Machine

/-! ## Ethernet ports -/

/-- The entry that numbers the configuration a port uses: its own, or port 0's in REDUNDANT mode (R448). -/
def ethCfg (s : State) (q : Nat) : Nat := if oget s Od.ETH_MODE = 1 then 0 else q

/-- Ethernet has started (R520) and the link of port `q` is up. -/
def ethUp (s : State) (q : Nat) : Bool := decide (oget s (Od.LINK q) = 1)

/-- Port `q` carries traffic: every port in INDEPENDENT mode, the active one in REDUNDANT mode (R448). -/
def portCarries (s : State) (q : Nat) : Bool :=
  ethUp s q && (decide (oget s Od.ETH_MODE = 0) || decide (oget s Od.ETH_ACTIVE = q))

/-- A port. -/
def getEth (s : State) (q : Nat) : EthPort := sget (fun _ => {}) s.ethPorts q

/-- A port replaced. -/
def setEth (s : State) (q : Nat) (x : EthPort) : State := { s with ethPorts := sset (fun _ => {}) s.ethPorts q x }

/-- The IPv4 address of a port, 0 for none: static, or the one DHCPv4 has obtained (R447). -/
def ipv4Of (s : State) (q : Nat) : Nat :=
  if oget s (Od.DHCP (ethCfg s q)) = 1 then (getEth s (ethCfg s q)).dhcpAddr else oget s (Od.IPV4_ADDR (ethCfg s q))

/-- The IPv6 link-local address of a port: modified EUI-64 from its MAC address (R447). -/
def linkLocal (s : State) (q : Nat) : Nat :=
  let m := macOf (ethCfg s q)
  0xFE80 * 2 ^ 112 + (m / 2 ^ 24 ^^^ 0x020000) * 2 ^ 40 + 0xFFFE * 2 ^ 24 + m % 2 ^ 24

/-- The IPv6 addresses of a port (R447). -/
def ipv6Of (s : State) (q : Nat) : List Nat :=
  let a := swapBytes 16 (oget s (Od.IPV6_ADDR (ethCfg s q)))
  linkLocal s q :: (if a = 0 then [] else [a])

/-- A frame sent by port `q`, tagged with its VLAN (R447). -/
def ethSend (s : State) (q : Nat) (m : EthMsg) : State :=
  { s with ethSent := s.ethSent ++ [⟨q, oget s (Od.VLAN_ID (ethCfg s q)), m⟩] }

/-- The VLAN filter of R447: with VLAN_ID 0 an untagged frame, else a frame of that VLAN. -/
def vlanPasses (s : State) (q : Nat) (tag : Option (BitVec 12)) : Bool :=
  match tag with
  | none => decide (oget s (Od.VLAN_ID (ethCfg s q)) = 0)
  | some v => decide (oget s (Od.VLAN_ID (ethCfg s q)) ≠ 0) && decide (oget s (Od.VLAN_ID (ethCfg s q)) = v.toNat)

/-- The largest frame of R446. -/
def frameMax (f : EthFrame) : Nat := if f.vlan.isSome then 1522 else 1518

/-- A frame put in the receive queue of port `q`, or discarded and counted when 256 wait there (R447). -/
def ethQueue (s : State) (q : Nat) (f : EthFrame) : State :=
  let x := getEth s q
  if 256 ≤ x.queue.length then oinc s (Od.RX_DISCARDED q) else setEth s q { x with queue := x.queue ++ [f] }

/-- A frame received on port `q` (R446 to R448). -/
def ethRx (s : State) (q : Nat) (f : EthFrame) : State :=
  if !portCarries s q || decide (frameMax f < f.len.toNat) then s
  else if !vlanPasses s q f.vlan then oinc s (Od.RX_DISCARDED q)
  else if 256 ≤ (getEth s q).queue.length then oinc s (Od.RX_DISCARDED q)
  else
    match f.body with
    | .arp t => if t.toNat = ipv4Of s q ∧ t ≠ 0 then ethSend s q (.arp t.toNat false) else s
    | .neighbour t => if t.toNat ∈ ipv6Of s q then ethSend s q (.advert t.toNat false) else s
    | .echo4 t d => if t.toNat = ipv4Of s q ∧ t ≠ 0 then ethSend s q (.echo4 d) else s
    | .echo6 t d => if t.toNat ∈ ipv6Of s q then ethSend s q (.echo6 d) else s
    | .dhcpAck a g n =>
      let c := ethCfg s q
      if oget s (Od.DHCP c) = 1 then
        setEth s c { getEth s c with dhcpAddr := a.toNat, dhcpGw := g.toNat, dhcpLen := n.val }
      else s
    | .other _ => ethQueue s q f

/-- ETH_LINK_CHANGE: Clause 37 auto-negotiation on port `q` ends with LINK (R446); Ethernet has started from Baste on
(R520). -/
def linkChange (s : State) (q link : Nat) : State :=
  if fget s Reg.PWR_STATUS F.PWR_STATUS_STAGE = 0 then s else oset s (Od.LINK q) link

/-- The announcements of R448 for each address of port `q`. -/
def ethAnnounce (s : State) (q : Nat) : State :=
  let s := if ipv4Of s q = 0 then s else ethSend s q (.arp (ipv4Of s q) true)
  (ipv6Of s q).foldl (fun s a => ethSend s q (.advert a true)) s

/-- ETH_FAILOVER: the active link has been down for 10 ms and the other is up (R448). -/
def ethFailover (s : State) : State :=
  let q := oget s Od.ETH_ACTIVE
  if !leased s || decide (oget s Od.ETH_MODE ≠ 1) || ethUp s q || !ethUp s (1 - q) then s
  else
    let s := ethAnnounce (oset s Od.ETH_ACTIVE (1 - q)) (1 - q)
    let s := oinc s Od.ETH_FAILOVERS
    logRecord s 15 (Config.severity Code.PORT_FAILOVER).val modulePart Code.PORT_FAILOVER 0 []

/-! ## Time counters -/

/-- A counter, in 2^-28 ns. -/
def ctrOf (s : State) : TimeCtr → Nat
  | .a => s.timeA
  | .b => s.timeB

/-- A counter replaced. -/
def setCtr (s : State) (t : TimeCtr) (v : Nat) : State :=
  match t with
  | .a => { s with timeA := v }
  | .b => { s with timeB := v }

/-- The slew left to a counter, in 2^-28 ns. -/
def slewOf (s : State) : TimeCtr → Int
  | .a => s.time.slewA
  | .b => s.time.slewB

/-- The slew of a counter replaced. -/
def setSlew (s : State) (t : TimeCtr) (v : Int) : State :=
  match t with
  | .a => { s with time := { s.time with slewA := v } }
  | .b => { s with time := { s.time with slewB := v } }

/-- The INC register of a counter. -/
def incReg : TimeCtr → Nat
  | .a => Reg.TIME_A_INC
  | .b => Reg.TIME_B_INC

/-- The STATE entry of a counter. -/
def timeStateKey : TimeCtr → Nat
  | .a => Od.A_STATE
  | .b => Od.B_STATE

/-- 80-bit counters: seconds wrap at 2^48 (R10). -/
def ctrModulus : Nat := 2 ^ 48 * 1000000000 * 2 ^ 28

/-- The value of a counter that stands at a TIME80. -/
def ctrOfTime80 (v : Nat) : Nat := (v / 2 ^ 32 % 2 ^ 48 * 1000000000 + v % 2 ^ 32) * 2 ^ 28

/-- A counter's nanoseconds. -/
def ctrNs (s : State) (t : TimeCtr) : Int := (ctrOf s t / 2 ^ 28 : Nat)

/-- A 64-bit entry holding a signed number. -/
def i64 (x : Int) : Nat := (x % 2 ^ 64).toNat

/-- A signed number read from `n` bits. -/
def signedOf (n v : Nat) : Int := if v % 2 ^ n < 2 ^ (n - 1) then (v % 2 ^ n : Nat) else (v % 2 ^ n : Nat) - 2 ^ n

/-- A slewing counter A whose slew is worked off becomes LOCKED (R468). -/
def slewOver (s : State) (t : TimeCtr) : State :=
  if t = .a ∧ slewOf s .a = 0 ∧ oget s Od.A_STATE = 3 then oset s Od.A_STATE 2 else s

/-- One REFCLK period of a counter: INC, and a further INC / 1,024 toward ADJ 0 (R463). -/
def ctrTick (s : State) (t : TimeCtr) : State :=
  let inc := (rget s (incReg t)).toNat
  let part : Int := (inc / 1024 : Nat)
  let left := slewOf s t
  let move : Int := if 0 < left then min left part else if left < 0 then max left (-part) else 0
  let s := setCtr s t (((ctrOf s t : Int) + inc + move).toNat % ctrModulus)
  if left = 0 then s else slewOver (setSlew s t (left - move)) t

/-- SLEW_DONE: ADJ reaches 0; the rest of the slew is in the counter (R463, R468). -/
def slewDone (s : State) (t : TimeCtr) : State :=
  let s := setCtr s t (((ctrOf s t : Int) + slewOf s t).toNat % ctrModulus)
  slewOver (setSlew s t 0) t

/-- The TIME80 in a TIME_SET layout at the register `a`: NS, SLO, SHI (R463). -/
def regTime80 (s : State) (a : Nat) : Nat :=
  (rget s a).toNat + (rget s (a + 4)).toNat * 2 ^ 32 + (rget s (a + 8)).toNat % 65536 * 2 ^ 64

/-- A TIME80 put in a TIME_SET layout at the register `a`. -/
def setRegTime80 (s : State) (a v : Nat) : State :=
  rset (rset (rset s a (BitVec.ofNat 32 v)) (a + 4) (BitVec.ofNat 32 (v / 2 ^ 32))) (a + 8)
    (BitVec.ofNat 32 (v / 2 ^ 64 % 65536))

/-- A counter stepped to the TIME_SET value (R464). -/
def stepToSet (s : State) (t : TimeCtr) : State := setCtr s t (ctrOfTime80 (regTime80 s Reg.TIME_SET_NS))

/-- A counter stepped by firmware to a TIME80: through TIME_SET and SET_A or SET_B. -/
def stepTo (s : State) (t : TimeCtr) (v : Nat) : State := stepToSet (setRegTime80 s Reg.TIME_SET_NS v) t

/-- WERR of the time unit set (R463, R476). -/
def timeWerr (s : State) : State := fset s Reg.TIME_CTRL F.TIME_CTRL_WERR 1

/-- The legal increments: nominal ± 1,000 ppm (R463). -/
def incLow : Nat := 1716268931
def incHigh : Nat := 1719704905

/-- A write of TIME_A_INC or TIME_B_INC (R463). -/
def incWrite (s : State) (t : TimeCtr) (v : Nat) : State :=
  if incLow ≤ v ∧ v ≤ incHigh then rset s (incReg t) (BitVec.ofNat 32 v) else timeWerr s

/-- TIME_A_NS read: both counters captured in the six registers, and the nanoseconds of A answered. -/
def timeCapture (s : State) : State :=
  let s := setRegTime80 (setRegTime80 s Reg.TIME_A_NS (time80 s.timeA)) Reg.TIME_B_NS (time80 s.timeB)
  { s with reply := leBytes 4 (rget s Reg.TIME_A_NS).toNat }

/-- A − B in nanoseconds (R469). -/
def splitNs (s : State) : Int := ctrNs s .a - ctrNs s .b

/-- A TIME80 is in the form of R10. -/
def time80Ok (v : Nat) : Bool := decide (v % 2 ^ 32 ≤ 999999999)

/-- TIME_MANUAL (R464, R474); a larger nanoseconds field is clamped (R10). -/
def timeManual (s : State) (v : Nat) (w : Path) : State :=
  if oget s Od.A_STATE ≠ 0 ∨ s.time.lockedOnce then answer s Code.WRONG_STATE
  else
    let x := v / 2 ^ 32 * 2 ^ 32 + min (v % 2 ^ 32) 999999999
    let s := stepTo (stepTo s .a x) .b x
    if x = v then answer s 0
    else answer (clampReport s w Od.TIME_MANUAL aboveMax v x) Code.VALUE_CLAMPED

/-! ## PTP -/

/-- The tracking of a counter's domain. -/
def trackOf (s : State) : TimeCtr → PtpTrack
  | .a => s.time.trackA
  | .b => s.time.trackB

/-- The tracking replaced. -/
def setTrack (s : State) (t : TimeCtr) (x : PtpTrack) : State :=
  match t with
  | .a => { s with time := { s.time with trackA := x } }
  | .b => { s with time := { s.time with trackB := x } }

/-- The domain number of a counter: A_PTP_DOMAIN or B_PTP_DOMAIN, 255 for none. -/
def ptpDomain (s : State) : TimeCtr → Nat
  | .a => oget s Od.A_PTP_DOMAIN
  | .b => oget s Od.B_PTP_DOMAIN

/-- The port that a domain follows (R448). -/
def ptpPort (s : State) (t : TimeCtr) : Nat :=
  if oget s Od.ETH_MODE = 1 then oget s Od.ETH_ACTIVE
  else match t with
    | .a => oget s Od.A_PORT
    | .b => oget s Od.B_PORT

/-- The counter that tracks a received message's domain on the port it came in on. -/
def ptpTarget (s : State) (m : PtpMsg) : Option TimeCtr :=
  [TimeCtr.a, TimeCtr.b].find? fun t =>
    decide (ptpDomain s t ≠ 255) && decide (ptpDomain s t = m.domain.toNat) && decide (ptpPort s t = m.port.val)

/-- A PTP message is discarded and counted (R466). -/
def ptpDiscard (s : State) : State := oinc s Od.PTP_DISCARDED

/-- A PTP message whose TIME80 is not one is rejected with an abort code, which its record carries: PTP has no answer to bear it
(R10, R444, assumption 93). -/
def ptpReject (s : State) : State := logRecord s 15 4 modulePart Code.VALUE_INVALID 0 []

/-- A received PTP message: discarded and counted where its header is bad (R466), rejected where its TIME80 is not one (R10), ignored
where its domain is not tracked, else handled for its counter. -/
def ptpReceive (s : State) (m : PtpMsg) (f : TimeCtr → State) : State :=
  if !leased s || !portCarries s m.port.val then s
  else if m.version ≠ 2 ∨ !m.lengthOk then ptpDiscard s
  else if !time80Ok m.stamp.toNat then ptpReject s
  else match ptpTarget s m with
    | some t => f t
    | none => s

/-- A time in 2^-16 ns: of a TIME80, of a counter, and of a message's correctionField. -/
def fine80 (v : Nat) : Int := ((v / 2 ^ 32 * 1000000000 + v % 2 ^ 32) * 65536 : Nat)
def fineCtr (s : State) (t : TimeCtr) : Int := (ctrOf s t / 4096 : Nat)
def fineCorr (m : PtpMsg) : Int := m.correction.toInt

/-- The selected master of a domain: the least in the best-master order. -/
def bestMaster (x : PtpTrack) : Option PtpKnown :=
  match x.masters with
  | [] => none
  | m :: ms => some (ms.foldl (fun b k => if k.order < b.order then k else b) m)

/-- The MASTER and UTC_OFFSET entries show the selected master. -/
def showMaster (s : State) (t : TimeCtr) : State :=
  let src := match bestMaster (trackOf s t) with
    | some k => swapBytes 10 k.source
    | none => 0
  match t with
  | .a =>
    let s := oset s Od.A_MASTER src
    (match bestMaster s.time.trackA with
     | some k => oset s Od.UTC_OFFSET (signedOf 16 k.utc % 2 ^ 32).toNat
     | none => s)
  | .b => oset s Od.B_MASTER src

/-- The order of the default best-master algorithm: priority1, clockClass, accuracy, variance, priority2, grandmaster
identity, steps, sender. -/
def masterOrder (x : PtpMaster) (source : Nat) : Nat :=
  ((((((x.priority1.toNat * 2 ^ 8 + x.clockClass.toNat) * 2 ^ 8 + x.accuracy.toNat) * 2 ^ 16 + x.variance.toNat) * 2 ^ 8 +
    x.priority2.toNat) * 2 ^ 64 + x.grandmaster.toNat) * 2 ^ 16 + x.steps.toNat) * 2 ^ 80 + source

/-- ANNOUNCE: a qualified Announce enters the selection; the first makes the domain ACQUIRING (R466). -/
def announce (s : State) (t : TimeCtr) (m : PtpMsg) (x : PtpMaster) : State :=
  if !x.ptpTimescale || !x.qualified then s
  else
    let tr := trackOf s t
    let k : PtpKnown := ⟨m.source.toNat, masterOrder x m.source.toNat, x.utcOffset.toNat⟩
    let s := setTrack s t { tr with masters := (tr.masters.filter fun j => decide (j.source ≠ k.source)) ++ [k] }
    let s := if oget s (timeStateKey t) = 0 then oset s (timeStateKey t) 1 else s
    showMaster s t

/-- MASTER_LOST: three announce intervals without an Announce from the master of a domain, which returns to FREE (R466). -/
def masterLost (s : State) (t : TimeCtr) : State :=
  let tr := trackOf s t
  match bestMaster tr with
  | none => s
  | some k =>
    let s := setTrack s t { tr with
      masters := tr.masters.filter (fun j => decide (j.source ≠ k.source)), sync := none, last := none, req := none, good := 0 }
    showMaster (oset s (timeStateKey t) 0) t

/-- ASYMMETRY of a port, in ns. -/
def asymmetry (s : State) (q : Nat) : Int := signedOf 32 (oget s (Od.ASYMMETRY q))

/-- A counter moved by `d`, in 2^-16 ns, by a step of firmware. -/
def stepBy (s : State) (t : TimeCtr) (d : Int) : State :=
  let ns := ((ctrOf s t / 2 ^ 28 : Nat) + d / 65536 : Int).toNat
  stepTo s t (time80 (ns * 2 ^ 28 % ctrModulus))

/-- The servo's answer to an offset, in 2^-16 ns: a step where R464 allows one and firmware takes it, else new INC and ADJ.
Which, and the values, are free (R464, R466); ADJ is toward offset 0. A slewing counter A is left alone. -/
def servo (s : State) (t : TimeCtr) (off : Int) : State :=
  if t = .a ∧ oget s Od.A_STATE = 3 then s
  else
    let b := drawBit s
    let s := b.2
    if b.1 && (decide (t = .b) || (!s.time.lockedOnce && decide (oget s Od.A_STATE ≤ 1))) then stepBy s t (-off)
    else
      let i := drawNat s
      let s := rset i.2 (incReg t) (BitVec.ofNat 32 (incLow + i.1 % (incHigh - incLow + 1)))
      let a := drawNat s
      let mag := off.natAbs / 65536
      let n : Int := (a.1 % (mag + 1) : Nat)
      setSlew a.2 t ((if 0 < off then -n else n) * 2 ^ 28)

/-- An offset measured: the OFFSET entry, the count toward LOCKED, the lock, and the servo (R464, R466, R468). -/
def offsetMeasured (s : State) (t : TimeCtr) (off : Int) : State :=
  let s := oset s (match t with
    | .a => Od.A_OFFSET
    | .b => Od.B_OFFSET) (i64 (off / 65536))
  let tr := trackOf s t
  let good := if off.natAbs < 100 * 65536 then min (tr.good + 1) 16 else 0
  let s := setTrack s t { tr with good := good }
  if good = 16 ∧ oget s (timeStateKey t) = 1 then
    let s := oset s (timeStateKey t) 2
    match t with
    | .a => servo { s with time := { s.time with lockedOnce := true } } .a off
    | .b =>
      if s.time.stepB then stepBy { s with time := { s.time with stepB := false } } .b (-off) else servo s .b off
  else servo s t off

/-- A Sync with its origin stamp known: offset from master = (receive − origin − correction) − meanPathDelay − ASYMMETRY of
the receiving port (R466). -/
def syncComplete (s : State) (t : TimeCtr) (q : Nat) (origin recv corr : Int) : State :=
  let tr := trackOf s t
  let s := setTrack s t { tr with sync := none, last := some (origin, recv, corr) }
  offsetMeasured s t (recv - origin - corr - tr.delay - asymmetry s q * 65536)

/-- The message comes from the selected master. -/
def fromMaster (s : State) (t : TimeCtr) (m : PtpMsg) : Bool :=
  match bestMaster (trackOf s t) with
  | some k => decide (k.source = m.source.toNat)
  | none => false

/-- PTP_SYNC: a Sync stamped at reception; one-step it carries its origin stamp, two-step it waits for Follow_Up (R466). -/
def ptpSync (s : State) (t : TimeCtr) (m : PtpMsg) (twoStep : Bool) : State :=
  if !fromMaster s t m then s
  else if twoStep then
    setTrack s t { (trackOf s t) with sync := some (m.seqId.toNat, fineCtr s t, fineCorr m) }
  else syncComplete s t m.port.val (fine80 m.stamp.toNat) (fineCtr s t) (fineCorr m)

/-- FOLLOW_UP: the origin stamp of the Sync it matches; else discarded and counted (R466). -/
def followUp (s : State) (t : TimeCtr) (m : PtpMsg) : State :=
  match (trackOf s t).sync with
  | some (q, recv, corr) =>
    if q = m.seqId.toNat ∧ fromMaster s t m then
      syncComplete s t m.port.val (fine80 m.stamp.toNat) recv (corr + fineCorr m)
    else ptpDiscard s
  | none => ptpDiscard s

/-- A delay measurement, once the transmit stamp has been read and the response received: the mean of the two ways. -/
def delayMeasured (s : State) (t : TimeCtr) : State :=
  let tr := trackOf s t
  match tr.req, tr.last with
  | some r, some (origin, recv, corr) =>
    (match r.sent, r.resp with
     | some sent, some (at4, corr4) =>
       setTrack s t { tr with req := none, delay := (recv - sent + (at4 - origin) - corr - corr4) / 2 }
     | _, _ => s)
  | _, _ => s

/-- DELAY_RESP: the response of the outstanding Delay_Req; else discarded and counted (R466). -/
def delayResp (s : State) (t : TimeCtr) (m : PtpMsg) : State :=
  let tr := trackOf s t
  match tr.req with
  | some r =>
    if r.seqId = m.seqId.toNat ∧ r.resp.isNone then
      delayMeasured (setTrack s t { tr with req := some { r with resp := some (fine80 m.stamp.toNat, fineCorr m) } }) t
    else ptpDiscard s
  | none => ptpDiscard s

/-- DELAY_REQ_SEND: a Delay_Req sent for a tracked domain; its stamps enter the transmit queue of 16, or are lost (R471). -/
def delayReqSend (s : State) (t : TimeCtr) (seqId : Nat) : State :=
  let q := ptpPort s t
  if !leased s || !portCarries s q || (bestMaster (trackOf s t)).isNone then s
  else
    let s := ethSend s q (.delayReq (ptpDomain s t) seqId)
    let tr := trackOf s t
    if s.time.txq.length < 16 then
      let s := setTrack s t { tr with req := some { seqId := seqId } }
      { s with time := { s.time with txq := s.time.txq ++ [⟨q, ptpDomain s t, seqId, s.timeA, s.timeB⟩] } }
    else
      let s := oinc (setTrack s t { tr with req := none }) Od.TXQ_LOST
      let s := fadd s Reg.TIME_TXQ_STATUS F.TIME_TXQ_STATUS_LOST 1
      if fbit s Reg.TIME_TXQ_STATUS F.TIME_TXQ_STATUS_OVF then s
      else
        logRecord (fset s Reg.TIME_TXQ_STATUS F.TIME_TXQ_STATUS_OVF 1) 15 (Config.severity Code.TXQ_OVERFLOW).val modulePart
          Code.TXQ_OVERFLOW 0 []

/-- The word of TIME_TXQ_W0 to W6 that the oldest entry gives (R471). -/
def txqWord (s : State) (n : Nat) : Nat :=
  match s.time.txq with
  | [] => 0
  | e :: _ =>
    match n with
    | 0 => 2 ^ 31 + e.port * 2 ^ 30 + 2 ^ 24 + e.domain * 2 ^ 16 + e.seqId
    | 1 => time80 e.a % 2 ^ 32
    | 2 => time80 e.a / 2 ^ 32 % 2 ^ 32
    | 3 => time80 e.a / 2 ^ 64 % 2 ^ 16
    | 4 => time80 e.b % 2 ^ 32
    | 5 => time80 e.b / 2 ^ 32 % 2 ^ 32
    | _ => time80 e.b / 2 ^ 64 % 2 ^ 16

/-- The transmit stamp of the oldest entry reaches the Delay_Req it belongs to. -/
def stampKnown (s : State) (e : TxStamp) (t : TimeCtr) : State :=
  let tr := trackOf s t
  match tr.req with
  | some r =>
    if ptpDomain s t = e.domain ∧ r.seqId = e.seqId ∧ r.sent.isNone then
      let c : Nat := match t with
        | .a => e.a
        | .b => e.b
      delayMeasured (setTrack s t { tr with req := some { r with sent := some ((c / 4096 : Nat) : Int) } }) t
    else s
  | none => s

/-- TXQ_POP: TIME_TXQ_W6 read; the oldest entry is removed (R471). -/
def txqPop (s : State) : State :=
  let s := { s with reply := leBytes 4 (txqWord s 6) }
  match s.time.txq with
  | [] => s
  | e :: rest => stampKnown (stampKnown { s with time := { s.time with txq := rest } } e .a) e .b

/-- TIME_SWITCH: the domain numbers exchanged, counter A SLEWING with ADJ = B − A (R468). -/
def timeSwitch (s : State) : State :=
  if oget s Od.B_STATE ≠ 2 ∨ oget s Od.A_STATE = 3 then answer s Code.WRONG_STATE
  else
    let a := oget s Od.A_PTP_DOMAIN
    let s := oset (oset s Od.A_PTP_DOMAIN (oget s Od.B_PTP_DOMAIN)) Od.B_PTP_DOMAIN a
    let x := { s.time.trackB with sync := none, req := none, last := none }
    let y := { s.time.trackA with sync := none, req := none, last := none, good := 0 }
    let oa := oget s Od.A_OFFSET
    let s := oset (oset s Od.A_OFFSET (oget s Od.B_OFFSET)) Od.B_OFFSET oa
    let gap := ctrNs s .b - ctrNs s .a
    let d := drawNat s
    let fits := decide (-2 ^ 31 ≤ gap) && decide (gap < 2 ^ 31)
    let s := if fits then s else d.2
    let adj := if fits then gap else signedOf 32 d.1
    let s := { s with time := { s.time with trackA := x, trackB := y, slewA := adj * 2 ^ 28, stepB := true } }
    let s := oset (oset s Od.A_STATE 3) Od.B_STATE (if y.masters.isEmpty then 0 else 1)
    answer (showMaster (showMaster (slewOver s .a) .a) .b) 0

/-- SPLIT_SAMPLE: A − B sampled into SPLIT_NOW; SPLIT_STATE after 8 consecutive samples (R469). -/
def splitSample (s : State) : State :=
  if !leased s then s
  else
    let x := splitNs s
    let s := oset s Od.SPLIT_NOW (i64 x)
    if oget s Od.A_STATE ≠ 2 ∨ oget s Od.B_STATE ≠ 2 then s
    else
      let limit := oget s Od.DOMAIN_SPLIT_LIMIT
      let surplus := if limit < x.natAbs then min (s.time.surplus + 1) 8 else 0
      let under := if 2 * x.natAbs < limit then min (s.time.under + 1) 8 else 0
      let s := { s with time := { s.time with surplus := surplus, under := under } }
      if surplus = 8 ∧ oget s Od.SPLIT_STATE = 0 then
        logRecord (oinc (oset s Od.SPLIT_STATE 1) Od.SPLIT_EVENTS) 15 5 modulePart Code.TIME_SPLIT 0 [oget s Od.SPLIT_NOW]
      else if under = 8 ∧ oget s Od.SPLIT_STATE = 1 then
        logRecord (oset s Od.SPLIT_STATE 0) 15 1 modulePart Code.TIME_SPLIT 0 [oget s Od.SPLIT_NOW]
      else s

/-! ## Alarms -/

/-- The counter of an alarm (ALARM_DOMAIN). -/
def alarmCtr (s : State) (k : Nat) : TimeCtr :=
  if fbit s (Reg.TIME_ALARM_CTRL k) F.TIME_ALARM_CTRL_DOMAIN then .b else .a

/-- An alarm is armed. -/
def alarmArmed (s : State) (k : Nat) : Bool := fbit s (Reg.TIME_ALARM_CTRL k) F.TIME_ALARM_CTRL_ARMED

/-- The target of an alarm, in ns. -/
def alarmTarget (s : State) (k : Nat) : Nat := ctrOfTime80 (regTime80 s (Reg.TIME_ALARM_NS k)) / 2 ^ 28

/-- The period of an alarm, in ns. -/
def alarmPeriod (s : State) (k : Nat) : Nat :=
  (rget s (Reg.TIME_ALARM_PER_LO k)).toNat + (rget s (Reg.TIME_ALARM_PER_HI k)).toNat * 2 ^ 32

/-- ALARM_STATE as the alarm's CTRL gives it (R474). -/
def showAlarm (s : State) (k : Nat) : State :=
  let w := rget s (Reg.TIME_ALARM_CTRL k)
  let st := if fldGet w F.TIME_ALARM_CTRL_ARMED = 1 then 1 else if fldGet w F.TIME_ALARM_CTRL_FIRED = 1 then 2 else 0
  oset s (Od.ALARM_STATE k) (st + 128 * fldGet w F.TIME_ALARM_CTRL_LATE)

/-- The unit refuses ARM or STOP (R364, R368). -/
def unitRefuses (s : State) (u action : Nat) : Bool :=
  (decide (action = 2) && armRefused s u) ||
  (decide (action ≠ 3) && decide (ucfg s u F.ACQ_U_CFG_GROUP_EN = 1) && decide (ucfg s u F.ACQ_U_CFG_MASTER = 0))

/-- The action of a firing, and its outcome (R473). -/
def alarmAction (s : State) (action target : Nat) : State × Nat :=
  match action with
  | 1 => if runState s target = 1 then (resumeRun s target, 0) else (s, Code.WRONG_STATE)
  | 2 => if unitRefuses s target 2 then (acqArm s target, Code.NOT_IDLE) else (acqArm s target, 0)
  | 3 => (acqForce s target, 0)
  | 4 => if unitRefuses s target 4 then (acqStop s target, Code.NOT_IDLE) else (acqStop s target, 0)
  | _ => (s, 0)

/-- A firing (R472, R473): FIRED, LATE, the action, and the next target of a periodic alarm: the first of its series that is
not yet reached. -/
def alarmFires (s : State) (k : Nat) (late : Bool) : State :=
  let r := Reg.TIME_ALARM_CTRL k
  let now := ctrOf s (alarmCtr s k) / 2 ^ 28
  let target := alarmTarget s k
  let period := alarmPeriod s k
  let s := fsets s r [(F.TIME_ALARM_CTRL_FIRED, 1), (F.TIME_ALARM_CTRL_LATE, late.toNat)]
  let s :=
    if period = 0 then fset s r F.TIME_ALARM_CTRL_ARMED 0
    else
      setRegTime80 s (Reg.TIME_ALARM_NS k)
        (time80 ((target + ((now - target) / period + 1) * period) * 2 ^ 28 % ctrModulus))
  let a := alarmAction s (fget s r F.TIME_ALARM_CTRL_ACTION) (fget s r F.TIME_ALARM_CTRL_TARGET)
  showAlarm (oinc (oset a.1 (Od.ALARM_RESULT k) a.2) (Od.ALARM_FIRES k)) k

/-- One comparison of an alarm with its counter (R472): at or beyond the target it fires; LATE where the target had passed a
whole REFCLK period before. -/
def alarmCompare (s : State) (k : Nat) : State :=
  let c := ctrOf s (alarmCtr s k)
  let t := alarmTarget s k * 2 ^ 28
  if alarmArmed s k ∧ t ≤ c then
    alarmFires s k (decide (t + (rget s (incReg (alarmCtr s k))).toNat ≤ c))
  else s

/-- Every alarm compared. -/
def alarmsCompare (s : State) : State := (List.range 8).foldl alarmCompare s

/-- ALARM_ARM (R473, R474): 1 arms with the alarm's entries, refused for RUN unless the partition is PAUSED; 0 disarms. -/
def alarmArm (s : State) (k : Nat) (v : Bool) : State :=
  let r := Reg.TIME_ALARM_CTRL k
  let action := oget s (Od.ALARM_ACTION k)
  let target := oget s (Od.ALARM_TARGET k)
  if !v then
    answer (showAlarm
      (fsets s r [(F.TIME_ALARM_CTRL_ARMED, 0), (F.TIME_ALARM_CTRL_FIRED, 0), (F.TIME_ALARM_CTRL_LATE, 0)]) k) 0
  else if alarmArmed s k then answer s 0
  else if action = 1 ∧ runState s target ≠ 1 then answer s Code.WRONG_STATE
  else
    let s := setRegTime80 s (Reg.TIME_ALARM_NS k) (oget s (Od.ALARM_TIME k))
    let p := oget s (Od.ALARM_PERIOD k)
    let s := rset (rset s (Reg.TIME_ALARM_PER_LO k) (BitVec.ofNat 32 p)) (Reg.TIME_ALARM_PER_HI k)
      (BitVec.ofNat 32 (p / 2 ^ 32))
    let s := fsets s r
      [(F.TIME_ALARM_CTRL_ARMED, 1), (F.TIME_ALARM_CTRL_FIRED, 0), (F.TIME_ALARM_CTRL_LATE, 0),
       (F.TIME_ALARM_CTRL_DOMAIN, oget s (Od.ALARM_DOMAIN k)), (F.TIME_ALARM_CTRL_ACTION, action),
       (F.TIME_ALARM_CTRL_TARGET, target)]
    answer (showAlarm s k) 0

/-- One REFCLK period of the time unit: both counters, then the alarms (R463, R472). -/
def timeTick (s : State) : State := alarmsCompare (ctrTick (ctrTick s .a) .b)

/-- The oldest frame of a port's receive queue taken by Collar (what it asks comes as a command of its own). -/
def ethDrain (s : State) (q : Nat) : State :=
  match (getEth s q).queue with
  | [] => s
  | _ :: rest => if leased s then setEth s q { getEth s q with queue := rest } else s

/-! ## The commands -/

def execEthFrameRx (q : Fin 2) (f : EthFrame) (s : State) : Host.Outcome State Fault Refusal := .next (ethRx s q.val f)
def execEthLinkChange (q : Fin 2) (link : Fin 3) (s : State) : Host.Outcome State Fault Refusal :=
  .next (linkChange s q.val link.val)
def execEthFailover (s : State) : Host.Outcome State Fault Refusal := .next (ethFailover s)
def execPtpSync (m : PtpMsg) (twoStep : Bool) (s : State) : Host.Outcome State Fault Refusal :=
  .next (ptpReceive s m fun t => ptpSync s t m twoStep)
def execFollowUp (m : PtpMsg) (s : State) : Host.Outcome State Fault Refusal :=
  .next (ptpReceive s m fun t => followUp s t m)
def execDelayResp (m : PtpMsg) (s : State) : Host.Outcome State Fault Refusal :=
  .next (ptpReceive s m fun t => delayResp s t m)
def execAnnounce (m : PtpMsg) (x : PtpMaster) (s : State) : Host.Outcome State Fault Refusal :=
  .next (ptpReceive s m fun t => announce s t m x)
def execDelayReqSend (t : TimeCtr) (seqId : BitVec 16) (s : State) : Host.Outcome State Fault Refusal :=
  .next (delayReqSend s t seqId.toNat)
def execMasterLost (t : TimeCtr) (s : State) : Host.Outcome State Fault Refusal :=
  .next (if leased s then masterLost s t else s)
def execTimeSwitch (w : Path) (s : State) : Host.Outcome State Fault Refusal :=
  .next (served s fun s => if ownerPath w then timeSwitch s else answer s Code.ACCESS_DENIED)
def execSlewDone (t : TimeCtr) (s : State) : Host.Outcome State Fault Refusal := .next (slewDone s t)
def execSplitSample (s : State) : Host.Outcome State Fault Refusal := .next (splitSample s)
def execTimeManual (v : BitVec 80) (w : Path) (s : State) : Host.Outcome State Fault Refusal :=
  .next (served s fun s => if ownerPath w then timeManual s v.toNat w else answer s Code.ACCESS_DENIED)
def execSetA (s : State) : Host.Outcome State Fault Refusal := .next (stepToSet s .a)
def execSetB (s : State) : Host.Outcome State Fault Refusal := .next (stepToSet s .b)
def execTimeIncWrite (t : TimeCtr) (v : BitVec 32) (s : State) : Host.Outcome State Fault Refusal :=
  .next (incWrite s t v.toNat)
def execTimeCapture (s : State) : Host.Outcome State Fault Refusal := .next (timeCapture s)
def execTxqPop (s : State) : Host.Outcome State Fault Refusal := .next (txqPop s)
def execAlarmArm (k : Fin 8) (v : Bool) (w : Path) (s : State) : Host.Outcome State Fault Refusal :=
  .next (served s fun s => if ownerPath w then alarmArm s k.val v else answer s Code.ACCESS_DENIED)
def execAlarmFire (k : Fin 8) (s : State) : Host.Outcome State Fault Refusal := .next (alarmCompare s k.val)

end Sys2Proof.Machine
end

