-- ==== Sys2Proof/Machine/Od.lean ====
section
/-! DEFINITION. The object-dictionary server (R419 to R442): existence and scope, rights, lengths, clamping with reports,
dependent entries, the command entries, describe, and the mirror channels of BAR2. -/

namespace Sys2Proof.Machine

/-! ## Entries (R419, R420) -/

/-- Bytes of a value of fixed size; 0 for DOMAIN. -/
def odSize : OdType → Nat
  | .bool => 1
  | .u8 => 1
  | .u16 => 2
  | .u32 => 4
  | .u64 => 8
  | .i32 => 4
  | .i64 => 8
  | .time80 => 10
  | .domain => 0
  | .oct n => n
  | .str n => n

/-- The TYPE of describe (R442). -/
def odTypeCode : OdType → Nat
  | .bool => 1
  | .u8 => 2
  | .u16 => 3
  | .u32 => 4
  | .u64 => 5
  | .i32 => 6
  | .i64 => 7
  | .time80 => 9
  | .str _ => 10
  | .oct _ => 11
  | .domain => 12

/-- A numeric type, whose bytes stand in the other order in PAP (R9, R420). -/
def odNumeric : OdType → Bool
  | .domain => false
  | .oct _ => false
  | .str _ => false
  | _ => true

/-- The index of an entry key, the partition of an index of 0x6000 to 0x6FFF, and the low byte of its index. -/
def keyIndex (key : Nat) : Nat := key / 256
def keyPart (key : Nat) : Nat := key / 256 / 256 % 16
def keyLow (key : Nat) : Nat := key / 256 % 256
def keySub (key : Nat) : Nat := key % 256

/-- The partition whose entry this is: 0x6p00 to 0x6pFF, or 0x3100 + p. -/
def entryPart (key : Nat) : Option Nat :=
  if 0x6000 ≤ keyIndex key ∧ keyIndex key ≤ 0x6FFF then some (keyPart key)
  else if 0x3100 ≤ keyIndex key ∧ keyIndex key ≤ 0x310F then some (keyIndex key - 0x3100)
  else none

/-- The highest sub-index defined at an index, or none where the index does not exist (R419). -/
def highestSub (index : Nat) : Option Nat :=
  let rows := odTable.filter fun d =>
    if d.stride = 0 then decide (index = d.index)
    else decide (d.index ≤ index) && decide ((index - d.index) % d.stride = 0) &&
      decide ((index - d.index) / d.stride < d.count)
  match rows with
  | [] => none
  | _ => some (rows.foldl (fun m d => max m (d.sub + d.subs - 1)) 0)

/-- The description of a key, sub-index 0 of an index that exists included (R419). -/
def odEntry (key : Nat) : Option OdDesc :=
  if keySub key = 0 then
    (highestSub (keyIndex key)).map fun n => ⟨"", keyIndex key, 1, 0, 0, 1, .u8, .const, false, [n], .any⟩
  else odDesc key

/-- The maximum of a DOMAIN entry, in bytes. -/
def domainMax (key : Nat) : Nat :=
  if key = Od.CLAMP_RING then 10240
  else if key = Od.FW_IMAGE then 0x1000000
  else if key = Od.ID_CERT then min Config.idCert.length 0x1000000
  else if keyLow key = 0x40 then 8192
  else 0x30000

/-! ## Scope and rights (R421 to R424, R433) -/

/-- An entry is in the requester's scope (R433). -/
def odInScope (w : Path) (key : Nat) : Bool :=
  match w.part with
  | none => true
  | some p =>
    (match entryPart key with
     | some q => decide (q = p.val)
     | none => true) &&
    decide (keyIndex key ≠ 0x2003) && !(decide (0xA000 ≤ keyIndex key) && decide (keyIndex key ≤ 0xAFFF))

/-- A SEC entry may be reached: by a secure access, or by the partition owner of the entry (R423). -/
def odSecOk (s : State) (w : Path) (key : Nat) : Bool :=
  w.secure ||
  (match w.part with
   | none => false
   | some p =>
     (match entryPart key with
      | some q => decide (q = p.val)
      | none => decide (oget s Od.HEM_OWNER = p.val)))

/-- Entries that their own description keeps to module-owner paths (R291, R336, R342, R418, R462, R527). -/
def ownerOnly (key : Nat) : Bool :=
  (decide (0x6000 ≤ keyIndex key) && decide (keyIndex key ≤ 0x6FFF) &&
    (decide (keyLow key ≤ 5) || decide (keyLow key = 0x46))) ||
  decide (keyIndex key = 0x2003) || decide (key = Od.HEM_OWNER) || decide (key = Od.PAP_OWNER_KEY_HASH) ||
  decide (key = Od.SHUTDOWN)

/-- Module entries that a virtual function may write (R433). -/
def partWritable (key : Nat) : Bool :=
  decide (key = Od.HEM_PORT_ALLOW) || decide (key = Od.HOLD) || decide (key = Od.WRAP) || decide (key = Od.QUEUE_ONE) ||
  decide (key = Od.STREAM_DROP)

/-- The right permits a read on this path. -/
def odReadable (s : State) (w : Path) (key : Nat) (d : OdDesc) : Bool :=
  decide (d.access ≠ .wo) && (!d.sec || odSecOk s w key)

/-- The right permits a write on this path. -/
def odWritable (s : State) (w : Path) (key : Nat) (d : OdDesc) : Bool :=
  decide (d.access = .rw ∨ d.access = .rwi ∨ d.access = .wo) && (!d.sec || odSecOk s w key) &&
  (match w.part with
   | none => true
   | some _ => !ownerOnly key && ((entryPart key).isSome || partWritable key))

/-- An RWI entry is idle (R291, R422). -/
def odIdle (s : State) (key : Nat) : Bool :=
  match entryPart key with
  | some p =>
    decide (runState s p ≠ 2) &&
    (!(decide (1 ≤ keyLow key) && decide (keyLow key ≤ 5) && decide (0x6000 ≤ keyIndex key)) || decide (partState s p = 0))
  | none => (List.range 16).all fun p => decide (runState s p ≠ 2)

/-! ## Reading -/

/-- A clamp report as it is read (R430). -/
def clampBytes (r : ClampReport) : List Byte :=
  leBytes 2 r.index ++ leBytes 1 r.sub ++ leBytes 1 r.reason ++ leBytes 1 r.part ++ leBytes 1 r.origin ++ leBytes 2 0 ++
  leBytes 8 r.written ++ leBytes 8 r.applied ++ leBytes 10 r.time ++ leBytes 6 0

/-- DETAIL of a record (R405, R430, R445): of a clamp report, of the codes that name a cluster, of an abort code, of an
event. -/
def detailBytes (r : LogRecord) : List Byte :=
  let x := fun n => r.detail.getD n 0
  let l :=
    if r.code = Code.VALUE_CLAMPED then leBytes 8 r.place ++ leBytes 8 (x 0) ++ leBytes 8 (x 1)
    else if r.code = Code.ILLEGAL_ENCODING ∨ r.code = Code.NO_PROGRESS ∨ r.code = Code.DESC_INVALID_USE then
      leBytes 8 r.place ++ leBytes 2 0 ++ leBytes 1 (x 0) ++ leBytes 1 (x 1) ++ leBytes 2 (x 2) ++ leBytes 2 (x 3)
    else if r.code = Code.ENVELOPE_EXCEEDED then leBytes 8 r.place ++ leBytes 2 0 ++ leBytes 1 (x 0)
    else if r.code / 2 ^ 24 ≤ 0x10 then leBytes 8 r.place ++ leBytes 2 (x 0) ++ leBytes 4 (x 1)
    else leBytes 8 r.place ++ (r.detail.flatMap fun v => leBytes 8 v)
  bytesAt l 0 36

/-- A record as it is read (R405). -/
def recordBytes (r : LogRecord) : List Byte :=
  leBytes 6 r.seq ++ leBytes 10 r.time ++ leBytes 6 r.ecycle ++ leBytes 1 r.source ++
  leBytes 1 (r.severity + r.partition * 8) ++ leBytes 4 r.code ++ detailBytes r

/-- Clamp reports in the requester's scope (R433). -/
def clampsIn (s : State) (w : Path) : List ClampReport :=
  match w.part with
  | none => s.clamps
  | some p => s.clamps.filter fun r => decide (r.part = p.val)

/-- Log records in the requester's scope, oldest first (R410). -/
def recordsIn (s : State) (w : Path) : List LogRecord :=
  match w.part with
  | none => s.logFlash.records.map fun r => r.2
  | some p => (s.logFlash.records.map fun r => r.2).filter fun r => decide (r.partition = p.val)

/-- Number of a stepping's name as STR(2). -/
def steppingText : Stepping → Nat
  | .a0 => 0x3041
  | .b0 => 0x3042

/-- The value of an entry as a read in the requester's scope returns it (R417, R433, R462). -/
def odValue (s : State) (w : Path) (key : Nat) : Nat :=
  let v := oget s key
  if key = Od.CLAMP_LAST then
    (match (clampsIn s w).getLast? with
     | some r => leNat (clampBytes r)
     | none => 0)
  else if key = Od.GRADE then
    (match Config.grade with
     | .s1 => 1
     | .s2 => 2)
  else if 0x1010 ≤ keyIndex key ∧ keyIndex key ≤ 0x1014 ∧ keySub key = 5 then steppingText Config.stepping
  else if key = Od.FW_RUNNING then
    (match holder s with
     | some h => (getCtl s h).version
     | none => 0)
  else if key = Od.PAP_SESSIONS then
    ((List.range 16).filter fun k =>
      match getSession s k, w.part with
      | some x, some p => decide (x.part = some p.val)
      | some _, none => true
      | none, _ => false).length
  else if key = Od.BRIDGE_SPARES_USED then
    ((List.range 4).flatMap fun d => (List.range 3).map fun i =>
      if bridgeExists d i then sparesUsed s d i true + sparesUsed s d i false else 0).sum
  else if key = Od.SEAM_EMULATION_ID then (loadedSeam s).emulation
  else if key = Od.SEAM_MODULE then (loadedSeam s).module
  else if key = Od.SEAM_DIAMETER then (loadedSeam s).diameter
  else if key = Od.LANES_SPARED then
    ((List.range 16).flatMap fun i => (List.range 5).map fun k => fget s (Reg.SEAM_LANE i k) F.SEAM_LANE_FAILED).sum
  else if keyLow key = keyLow (Od.REKEY_PERMILLE 0) ∧ keySub key = keySub (Od.REKEY_PERMILLE 0) ∧ (entryPart key).isSome ∧
      rolling s (keyPart key) = true then rekeyPermille s (keyPart key)
  else
    match w.part with
    | none => v
    | some p =>
      let mine := oget s Od.HALT_PARTITION = p.val
      if key = Od.CLAMP_TOTAL then sget (fun _ => 0) s.clampCount p.val
      else if key = Od.HALT_STACK ∨ key = Od.HALT_LINE then (if mine then v else 0)
      else if key = Od.HALT_PARTITION then (if mine then v else 255)
      else if key = Od.HEM_OWNER then (if v = p.val then v else 255)
      else if key = Od.LOG_NEWEST then ((recordsIn s w).getLast?.map fun r => r.seq).getD 0
      else if key = Od.LOG_OLDEST then ((recordsIn s w).head?.map fun r => r.seq).getD 0
      else if key = Od.HOLD ∨ key = Od.WRAP ∨ key = Od.QUEUE_ONE ∨ key = Od.STREAM_DROP then
        v &&& oget s (Od.ACQ_UNITS p.val)
      else v

/-- `n` bytes of a DOMAIN entry from `off`, for reads that change nothing. -/
def domainBytes (s : State) (w : Path) (key off n : Nat) : List Byte :=
  if key = Od.CLAMP_RING then bytesAt ((clampsIn s w).flatMap clampBytes) off n
  else if key = Od.ID_CERT then bytesAt Config.idCert off n
  else
    (List.range n).map fun i =>
      BitVec.ofNat 8 (sget (fun _ => 0) (getPart s (keyPart key)).vmap ((off + i) / 2) / 256 ^ ((off + i) % 2))

/-- A byte string in the order of the path: numeric values little-endian, or big-endian in PAP (R420). -/
def pathOrder (be : Bool) (t : OdType) (l : List Byte) : List Byte := if be && odNumeric t then l.reverse else l

/-- A read of LOG_READ: up to 16 records from the cursor, which advances past the last returned (R410). -/
def logRead (s : State) (w : Path) : State × List Byte :=
  let l := ((recordsIn s w).filter fun r => decide (oget s Od.LOG_CURSOR ≤ r.seq)).take 16
  let s := match l.getLast? with
    | some r => oset s Od.LOG_CURSOR (r.seq + 1)
    | none => s
  (s, bytesAt (l.flatMap recordBytes) 0 1024)

/-- The bytes of an entry of fixed size, with the effects of the reads that have one (R288, R410, R417). -/
def odFixed (s : State) (w : Path) (key : Nat) (d : OdDesc) (be : Bool) : State × List Byte :=
  if keySub key = 0 then (s, leBytes 1 (d.defaults.headD 0))
  else if key = Od.LOG_READ then logRead s w
  else if key = Od.ATTEST_NONCE then
    let x := drawNat s
    let v := x.1 % 2 ^ 128
    (oset x.2 key v, leBytes 16 v)
  else if key = Od.ATTEST then
    let nonce := natLE 16 (oget s Od.ATTEST_NONCE)
    let x := identitySign s 2 (nonce ++ serialBytes s ++ natLE 4 (oget s Od.FW_RUNNING) ++ natLE 1 (oget s Od.FUSE_STEPS_USED))
    (x.2, toBytes (nonce ++ x.1))
  else if keyLow key = 8 ∧ keySub key = 2 ∧ (entryPart key).isSome ∧ 0x6000 ≤ keyIndex key then
    let s := ksNonceRead s (keyPart key)
    (s, leBytes 16 (oget s key))
  else (s, pathOrder be d.type (leBytes (odSize d.type) (odValue s w key)))

/-- A read of an entry (R426, R427): the outcome and the bytes. -/
def odRead (s : State) (w : Path) (key off len : Nat) (be : Bool) : State × Nat × List Byte :=
  match odEntry key with
  | none => (s, Code.NO_SUCH_ENTRY, [])
  | some d =>
    if !odInScope w key then (s, Code.NO_SUCH_ENTRY, [])
    else if !odReadable s w key d then (s, Code.ACCESS_DENIED, [])
    else if d.type = .domain then
      if domainMax key < off + len then (s, Code.LENGTH_EXCEEDS_BUFFER, [])
      else if keyLow key = 0x47 then
        if !acqRegsOwn s (keyPart key) off len then (s, Code.ACCESS_DENIED, [])
        else
          let r := bytesByWord acqRegsRead s off len
          (r.1, 0, r.2)
      else (s, 0, domainBytes s w key off len)
    else
      let r := odFixed s w key d be
      (r.1, 0, r.2)

/-- Describe (R442): type, access as seen from the path, and size. -/
def odDescribe (w : Path) (s : State) (key : Nat) (be : Bool) : Nat × List Byte :=
  match odEntry key with
  | none => (Code.NO_SUCH_ENTRY, [])
  | some d =>
    if !odInScope w key then (Code.NO_SUCH_ENTRY, [])
    else
      let b := fun (x : Bool) (n : Nat) => if x then 2 ^ n else 0
      let acc := b (odReadable s w key d) 0 + b (odWritable s w key d) 1 + b (decide (d.access = .rwi)) 2 + b d.sec 3 +
        b (decide (d.access = .const)) 4 + b (decide (keySub key ≠ 0) && odKept key) 5
      let size := if d.type = .domain then domainMax key else odSize d.type
      (0, leBytes 1 (odTypeCode d.type) ++ leBytes 1 acc ++ leBytes 2 0 ++
        (if be then (leBytes 4 size).reverse else leBytes 4 size))

/-! ## Clamping (R429) -/

/-- Clamping against a range: the reason (0 for none) and the value, in the entry's own sign. `old` is kept where a set names
no value. -/
def rangeClamp (r : OdRange) (old v : Int) : Nat × Int :=
  match r with
  | .any => (0, v)
  | .range lo hi extra =>
    if v ∈ extra then (0, v) else if v < lo then (belowMin, lo) else if hi < v then (aboveMax, hi) else (0, v)
  | .set vals => if v ∈ vals then (0, v) else (notInSet, old)
  | .bits m => if v.toNat &&& m = v.toNat then (0, v) else (notInSet, ((v.toNat &&& m : Nat) : Int))

/-- A stored value as a number in its own sign, and back. -/
def odInt (t : OdType) (v : Nat) : Int :=
  match t with
  | .i32 => signedOf 32 v
  | .i64 => signedOf 64 v
  | _ => v

def odNat (t : OdType) (v : Int) : Nat :=
  match t with
  | .i32 => (v % 2 ^ 32).toNat
  | .i64 => (v % 2 ^ 64).toNat
  | _ => v.toNat

/-- The value of an entry's field of a packed word, with its bounds: `hi` the largest. -/
def fieldMax (v hi : Nat) : List Nat × Nat := if hi < v then ([aboveMax], hi) else ([], v)

/-- A carve of two fields, first in [31:16] or [15:8] and count below: each within its own bound, then the count reduced to fit
(R291). -/
def carveClamp (shift firstMax countMax size v : Nat) : List Nat × Nat :=
  let f := fieldMax (v / shift) firstMax
  let c := fieldMax (v % shift) countMax
  if size < f.2 + c.2 then (f.1 ++ c.1 ++ [dependentLimit], f.2 * shift + (size - f.2))
  else (f.1 ++ c.1, f.2 * shift + c.2)

/-- Tracks per direction of bridge `b`, in the order of R117's table. -/
def carveTracks (b : Nat) : Nat := if b = 0 ∨ b = 1 ∨ b = 5 ∨ b = 6 then 256 else 768

/-- Step 5 of R426 on one entry alone: the reasons, one for each field changed, and the value. -/
def clampAlone (s : State) (key : Nat) (d : OdDesc) (old v : Nat) : List Nat × Nat :=
  let one := fun (p : Nat × Nat) => if p.1 = 0 then ([], p.2) else ([p.1], p.2)
  let low := keyLow key
  let sub := keySub key
  if 0x6000 ≤ keyIndex key ∧ keyIndex key ≤ 0x6FFF ∧ low = 1 then carveClamp 256 31 32 32 v
  else if 0x6000 ≤ keyIndex key ∧ keyIndex key ≤ 0x6FFF ∧ low = 2 ∧ sub ≤ 4 then carveClamp 65536 65535 65535 180 v
  else if 0x6000 ≤ keyIndex key ∧ keyIndex key ≤ 0x6FFF ∧ low = 4 ∧ sub ≤ 8 then
    carveClamp 65536 65535 65535 (carveTracks (sub - 1)) v
  else if key = Od.RATE_POLICY ∨ key = Od.DONE_FALL_ACTION ∨ key = Od.ETH_MODE ∨ keyIndex key = 0x4032 then
    if v ≤ 1 then ([], v) else ([notInSet], 0)
  else if 0x6000 ≤ keyIndex key ∧ low = 0x42 ∧ sub = 2 ∧ keyIndex key ≤ 0x6FFF then
    if v = 0 then ([belowMin], 1) else if v = 3 then ([notInSet], 2) else if 4 < v then ([aboveMax], 4) else ([], v)
  else if key = Od.HEM_OWNER then
    if v ≤ 15 ∨ v = 255 then ([], v) else ([notInSet], 255)
  else if key = Od.B_PTP_DOMAIN then
    if v ≤ 239 ∨ v = 255 then ([], v) else ([notInSet], old)
  else if keyIndex key = 0x4030 then
    one (if sub = 6 then (if v < 3600 then (belowMin, 3600) else if 86400 < v then (aboveMax, 86400) else (0, v))
         else (if v < 1 then (belowMin, 1) else if 3600 < v then (aboveMax, 3600) else (0, v)))
  else if keyIndex key = 0x4031 then
    if v % 65536 < v / 65536 then ([dependentLimit], v % 65536 * 65536 + v % 65536) else ([], v)
  else if key = Od.CKPT_INTERVAL then
    let r := rangeClamp d.range old v
    let x := r.2.toNat
    if r.1 ≠ 0 then ([r.1], x) else if x % 4096 = 0 then ([], x) else ([alignClamp], x / 4096 * 4096)
  else if key = Od.LOG_CURSOR then
    one (if v < oget s Od.LOG_OLDEST then (belowMin, oget s Od.LOG_OLDEST)
         else if oget s Od.LOG_NEWEST + 1 < v then (aboveMax, oget s Od.LOG_NEWEST + 1) else (0, v))
  else if d.type = .time80 then
    if v % 2 ^ 32 ≤ 999999999 then ([], v) else ([aboveMax], v / 2 ^ 32 * 2 ^ 32 + 999999999)
  else if d.type = .bool then
    if 1 < v then ([notInSet], 1)
    else
      let r := rangeClamp d.range (odInt d.type old) v
      one (r.1, r.2.toNat)
  else
    let r := rangeClamp d.range (odInt d.type old) (odInt d.type v)
    one (r.1, odNat d.type r.2)

/-- MiB of a partition's HBM carve outside its design-memory parts. -/
def carveMib (s : State) (p : Nat) : Nat := ((List.range 4).map (spareMib s p)).sum

/-- The areas of sizes that entries give in a partition's carve, and whether each holds anything now (R253, R335, R342, R382, R384,
R208). -/
def carveAreas (s : State) (p : Nat) : List (Nat × Bool) :=
  let x := getPart s p
  [(Od.STAGE_MIB p, x.stageAt.isSome), (Od.SEAM_RETAIN_MIB p, decide (oget s (Od.SEAM_RETAIN_USED p) ≠ 0)),
   (Od.INLOG_MIB p, !x.inlog.isEmpty), (Od.UNDO_MIB p, !x.undo.isEmpty), (Od.ACQ_BUF_MIB p, true),
   (Od.HEM_BUF_MIB, decide (hemOwner s = some p))]

/-- MiB of the carve that the area of an entry may take: what the checkpoint slots, the golden copies and the other areas that hold
anything leave (assumption 53). -/
def freeCarve (s : State) (p key : Nat) : Nat :=
  carveMib s p - (2 * ckptSlotBytes s p + 0xFFFFF) / 0x100000 -
    2 * (((getPart s p).golden.file.length + 0xFFFFF) / 0x100000) -
    (if (getPart s p).cuffAt.isSome then 2 * cuffMib s p else 0) -
    (((carveAreas s p).filter fun a => a.2 && decide (a.1 ≠ key)).map fun a => oget s a.1).sum

/-- The least value of an entry's range. -/
def rangeLow (key : Nat) : Nat :=
  match odDesc key with
  | some ⟨_, _, _, _, _, _, _, _, _, _, .range lo _ _⟩ => lo.toNat
  | _ => 0

/-- The partition whose free carve bounds an entry (R215, R271, R336, R342, R392). -/
def carveBound (s : State) (key : Nat) : Option Nat :=
  if key = Od.HEM_BUF_MIB then hemOwner s
  else if 0x6000 ≤ keyIndex key ∧ keyIndex key ≤ 0x6FFF ∧
      (keyLow key = 0x44 ∧ keySub key = 1 ∨ keyLow key = 0x48 ∧ keySub key = 1 ∨ keyLow key = 0x46 ∧ keySub key = 4 ∨
       keyLow key = 0x49 ∧ (keySub key = 2 ∨ keySub key = 3)) then some (keyPart key)
  else none

/-- Two partitions' quotas of R342 meet: units, or probe numbers. -/
def quotaMeets (s : State) (p : Nat) (units first count : Nat) : Bool :=
  (List.range 16).any fun q =>
    decide (q ≠ p) &&
    (decide (oget s (Od.ACQ_UNITS q) &&& units ≠ 0) ||
     (decide (0 < count) && decide (0 < oget s (Od.ACQ_PROBE_COUNT q)) &&
      decide (first < oget s (Od.ACQ_PROBE_FIRST q) + oget s (Od.ACQ_PROBE_COUNT q)) &&
      decide (oget s (Od.ACQ_PROBE_FIRST q) < first + count)))

/-- DEPENDENT_LIMIT of step 5: the value that fits, against other entries, the free carve or a state. -/
def clampDependent (s : State) (w : Path) (key old v : Nat) : Nat :=
  let low := keyLow key
  let sub := keySub key
  let p := keyPart key
  match carveBound s key with
  | some q =>
    if v ≤ freeCarve s q key then v else max (rangeLow key) (freeCarve s q key)
  | none =>
    if keyIndex key = 0x7001 then
      if (List.range 16).any fun l => decide (l + 1 ≠ sub) && decide (oget s (Od.LINK_PORT l) = v) then old else v
    else if key = Od.A_PTP_DOMAIN then (if v = oget s Od.B_PTP_DOMAIN then old else v)
    else if key = Od.B_PTP_DOMAIN then (if v ≠ 255 ∧ v = oget s Od.A_PTP_DOMAIN then old else v)
    else if 0x1140 ≤ keyIndex key ∧ keyIndex key ≤ 0x1147 ∧ sub ≤ 5 then
      if alarmArmed s (keyIndex key - 0x1140) then old else v
    else if key = Od.HOLD ∨ key = Od.WRAP ∨ key = Od.QUEUE_ONE ∨ key = Od.STREAM_DROP then
      let own := match w.part with
        | some q => oget s (Od.ACQ_UNITS q.val)
        | none => 0xFFFF
      let may := ((List.range 16).map fun u => if own / 2 ^ u % 2 = 1 ∧ unitAtRest s u then 2 ^ u else 0).sum
      (v &&& may) + (old - (old &&& may))
    else if ¬ (0x6000 ≤ keyIndex key ∧ keyIndex key ≤ 0x6FFF) then v
    else if low = 3 ∧ 5 ≤ sub ∧ sub ≤ 8 then min v (65536 - oget s (Od.DESC_FIRST_W p (sub - 5)))
    else if low = 3 ∧ 13 ≤ sub then min v (2048 - oget s (Od.BANK_FIRST_W p (sub - 13)))
    else if low = 0x46 ∧ sub = 1 then
      if quotaMeets s p v 0 0 then old else v
    else if low = 0x46 ∧ sub = 2 then
      if quotaMeets s p 0 v (min (oget s (Od.ACQ_PROBE_COUNT p)) (16384 - v)) then old else v
    else if low = 0x46 ∧ sub = 3 then
      let n := min v (16384 - oget s (Od.ACQ_PROBE_FIRST p))
      if quotaMeets s p 0 (oget s (Od.ACQ_PROBE_FIRST p)) n then old else n
    else if low = 0x49 ∧ sub = 5 then (if v / 64 = p then v else old)
    else v

/-! ## Applying (R426 step 6, R431) -/

/-- Hem's buffer placed in its owner's carve, empty (R320, R335, assumption 92). -/
def hemPlace (s : State) : State :=
  let s := fset (rset s Reg.HEM_BUF_WPTR 0) Reg.HEM_STATUS F.HEM_STATUS_BUF_FULL 0
  match hemOwner s with
  | some p =>
    let a := placeArea s p (oget s Od.HEM_BUF_MIB)
    { a.2 with hem := { a.2.hem with bufBase := a.1 } }
  | none => s

/-- Effects of a value applied beyond the entry itself: registers that Collar writes from it, and state that depends on it. -/
def odApplied (s : State) (key old new : Nat) : State :=
  let k := keySub key - 1
  if key = Od.VIN_WARN_MV then fset s Reg.PWR_VIN_WARN F.PWR_VIN_WARN_MV new
  else if keyIndex key = 0x4030 ∨ keyIndex key = 0x4031 ∨ keyIndex key = 0x4032 then
    let v : ScrubParam := ⟨oget s (Od.SCRUB_PERIOD k), oget s (Od.SCRUB_MODE k), oget s (Od.SCRUB_RANGE k)⟩
    let s := putScrub s k v false
    setScrub s k { getScrub s k with written := some v }
  else if key = Od.HEM_BUF_MIB then hemPlace s
  else if carveBound s key = some (keyPart key) ∧ key = Od.ACQ_BUF_MIB (keyPart key) then
    let a := placeArea s (keyPart key) new
    setPart a.2 (keyPart key) { getPart a.2 (keyPart key) with acqBase := a.1 }
  else if carveBound s key = some (keyPart key) ∧ key = Od.STAGE_MIB (keyPart key) then
    (if (getPart s (keyPart key)).staged = 0 then
      setPart s (keyPart key) { getPart s (keyPart key) with stageAt := none } else s)
  else if key = Od.DONE_GROUP (keyPart key) then doneEval s
  else if key = Od.HEM_OWNER then (if old = new then s else hemPlace (oset (hemStop s) key new))
  else if key = Od.A_PTP_DOMAIN then
    if old = new then s else showMaster (oset (setTrack s .a {}) Od.A_STATE (if oget s Od.A_STATE = 3 then 3 else 0)) .a
  else if key = Od.B_PTP_DOMAIN then
    if old = new then s else showMaster (oset (setTrack s .b {}) Od.B_STATE 0) .b
  else if key = Od.HOLD ∨ key = Od.WRAP ∨ key = Od.QUEUE_ONE ∨ key = Od.STREAM_DROP then
    let f := if key = Od.HOLD then F.ACQ_U_CFG_HOLD else if key = Od.WRAP then F.ACQ_U_CFG_WRAP
      else if key = Od.QUEUE_ONE then F.ACQ_U_CFG_QUEUE_ONE else F.ACQ_U_CFG_DROP
    (List.range 16).foldl (fun s u => fset s (Reg.ACQ_U_CFG u) f (new / 2 ^ u % 2)) s
  else s

/-- The entries whose range depends on an entry (R431). -/
def dependents (key : Nat) : List Nat :=
  let p := keyPart key
  let sub := keySub key
  if 0x6000 ≤ keyIndex key ∧ keyIndex key ≤ 0x6FFF then
    if keyLow key = 3 ∧ sub ≤ 4 then [Od.DESC_COUNT_W p (sub - 1)]
    else if keyLow key = 3 ∧ 9 ≤ sub ∧ sub ≤ 12 then [Od.BANK_COUNT_W p (sub - 9)]
    else if keyLow key = 0x46 ∧ sub = 2 then [Od.ACQ_PROBE_COUNT p]
    else if keyLow key = 2 then
      [Od.STAGE_MIB p, Od.SEAM_RETAIN_MIB p, Od.INLOG_MIB p, Od.UNDO_MIB p, Od.ACQ_BUF_MIB p]
    else []
  else []

/-- The largest value of a dependent entry that fits as its cause now stands. -/
def dependentMax (s : State) (key : Nat) : Nat :=
  let p := keyPart key
  let sub := keySub key
  if keyLow key = 3 ∧ sub ≤ 8 then 65536 - oget s (Od.DESC_FIRST_W p (sub - 5))
  else if keyLow key = 3 then 2048 - oget s (Od.BANK_FIRST_W p (sub - 13))
  else if keyLow key = 0x46 ∧ sub = 3 then 16384 - oget s (Od.ACQ_PROBE_FIRST p)
  else max (freeCarve s p key) (rangeLow key)

/-- A dependent entry that fitted before the write and no longer fits is clamped again, with its own report (R431). -/
def recheck (before : State) (w : Path) (s : State) (key : Nat) : State :=
  let v := oget s key
  let m := dependentMax s key
  if v ≤ m ∨ dependentMax before key < v then s
  else clampReport (oset s key m) w key dependentLimit v m

/-- A value through steps 5 and 6 of R426: clamped, applied, reported, and what depends on it re-checked. -/
def odApply (s : State) (w : Path) (key : Nat) (d : OdDesc) (v : Nat) : State :=
  let old := oget s key
  let a := clampAlone s key d old v
  let b := clampDependent s w key old a.2
  let reasons := a.1 ++ (if b = a.2 then [] else [dependentLimit])
  let t := odApplied (oset s key b) key old b
  let t := reasons.foldl (fun t r => clampReport t w key r v b) t
  let n := t.clamps.length + oget t Od.CLAMP_TOTAL
  let u := (dependents key).foldl (recheck s w) t
  if reasons.isEmpty && decide (u.clamps.length + oget u Od.CLAMP_TOTAL = n) then answer u 0
  else answer u Code.VALUE_CLAMPED

/-! ## Command entries -/

/-- FW_IMAGE by segments (R414): the first, at offset 0, erases the slot that is not COMMITTED; once every byte of the image
stands in it, the image is checked. -/
def fwSegment (s : State) (off : Nat) (bs : List Byte) (sig : Bool) : State :=
  if s.collar.fw ≠ .none then answer s Code.NOT_IDLE
  else if bs.isEmpty then answer s 0
  else
    let slot := 1 - s.collar.committed
    let base := slot * 0x1000000
    let f := if off = 0 then sclear s.collar.flash base (base + 0x1000000) else s.collar.flash
    let parts := if off = 0 then [(0, bs.length)] else (off, bs.length) :: s.collar.fwParts
    let s := { s with collar := { s.collar with flash := swriteBytes (fun _ => 0xFF) f (base + off) bs, fwParts := parts } }
    if covered (parts.length + 1) parts 0 256 && covered (parts.length + 1) parts 0 (256 + imgLength s slot) then
      fwImage { s with collar := { s.collar with fwParts := [] } } (flashBytes s slot 0 (256 + imgLength s slot)) sig
        firmwarePath
    else answer s 0

/-- Collar rests in the always-on domain (R527 order 6): INIT_N and DONE pulled low, ALERT_N released. -/
def restAlwaysOn (s : State) (cause : Nat) : State :=
  let s := powerLost (latchCause s cause)
  let s := fsets s Reg.CFG_STATUS
    [(F.CFG_STATUS_INIT_N_PULL, 1), (F.CFG_STATUS_INIT_N_IN, 0), (F.CFG_STATUS_DONE_PULL, 1), (F.CFG_STATUS_DONE_IN, 0)]
  { s with power := { s.power with resting := true } }

/-- A partition is ready for order 3 of R527: it does not run, and nothing of it is in flight. -/
def pausedAndStill (s : State) (p : Nat) : Bool :=
  decide (runState s p ≠ 2) && (decide (runState s p ≠ 1) || (atBoundary s p && (partDies s p).all fun d => partIdle s p d))

/-- A checkpoint of the pause point is still to be captured and spilled (R527 order 3). -/
def spillDue (s : State) (p : Nat) : Bool :=
  let x := getPart s p
  decide (oget s (Od.SPILL p) ≠ 0) && decide (runState s p = 1) && dmaServes s (oget s (Od.SPILL_QUEUE p)) 4 1 &&
  (decide (x.ckptDone ≠ some x.completed) || !x.spilled)

/-- The capture at the pause point, and its spill. -/
def pauseSpill (s : State) (p : Nat) : State :=
  let x := getPart s p
  checkpointSpill (checkpointCommit (setPart s p { x with ckptGate := some x.completed }) p) p

/-- Sectors of a partition's spill still wait for the host. -/
def spillWaits (s : State) (p : Nat) : Bool :=
  let q := oget s (Od.SPILL_QUEUE p)
  dmaServes s q 4 1 && !(hostQueue s q).isEmpty

/-- Orders 3 to 6 of R527, once every partition has paused: checkpoints and their spills; and once those have left, DESTROY,
SHUTDOWN_DONE and the flush, and the rails off. -/
def shutdownAdvance (s : State) : State :=
  if !s.power.closing || !(List.range 16).all (pausedAndStill s) then s
  else
    let s := ((List.range 16).filter (spillDue s)).foldl pauseSpill s
    if (List.range 16).any (spillWaits s) then s
    else
      let s := (List.range 16).foldl (fun s p => if partState s p = 0 then s else destroyPart s p firmwarePath) s
      restAlwaysOn (flushLog (logRecord s 16 2 modulePart Code.SHUTDOWN_DONE 0 [])) 5

/-- SHUTDOWN (R527), orders 1 and 2; the rest follows as soon as every partition has paused. -/
def shutdown (s : State) : State :=
  let s := { s with power := { s.power with closing := true } }
  let s := (List.range 16).foldl (fun s p => if runState s p = 2 then pauseCmd s p else s) s
  shutdownAdvance (answer s 0)

/-- CLAMP_CLEAR (R432). -/
def clampClear (s : State) : State := answer { s with clamps := [] } 0

/-- A command entry written with a value already clamped into its set, and the bytes as they came. -/
def odCommand (s : State) (w : Path) (key v : Nat) (bs : List Byte) : Option State :=
  let p := keyPart key
  let i := keyIndex key
  let low := keyLow key
  let sub := keySub key
  if key = Od.CLAMP_CLEAR then some (clampClear s)
  else if key = Od.TIME_SWITCH then some (timeSwitch s)
  else if key = Od.TIME_MANUAL then some (timeManual s v w)
  else if key = Od.SHUTDOWN then some (shutdown s)
  else if key = Od.FW_START then some (fwStart s w)
  else if key = Od.FW_ABORT then some (fwAbort s w)
  else if 0x1140 ≤ i ∧ i ≤ 0x1147 ∧ sub = 6 then some (alarmArm s (i - 0x1140) (decide (v = 1)))
  else if 0x3100 ≤ i ∧ i ≤ 0x310F then
    if sub = 1 then
      some (if v = 1 then runCmd s (i - 0x3100) else if v = 2 then pauseCmd s (i - 0x3100) else stepCmd s (i - 0x3100))
    else if sub = 4 then some (stopWrite s (i - 0x3100) v w)
    else none
  else if ¬ (0x6000 ≤ i ∧ i ≤ 0x6FFF) then none
  else if low = 0 ∧ sub = 2 then some (if v = 1 then createPart s p w else destroyPart s p w)
  else if low = 8 ∧ sub = 3 then some (ksOpenWrite s p bs w)
  else if low = 8 ∧ sub = 5 then some (ksWrapCfg s p bs w)
  else if low = 8 ∧ sub = 6 then some (ksWrapSector s p bs w)
  else if low = 8 ∧ sub = 7 then some (ksCloseWrite s p w)
  else if low = 8 ∧ sub = 8 then some (lineRoll s p w)
  else if low = 8 ∧ sub = 10 then some (sectorRetire s p w)
  else none

/-- A command entry's outcome: a value outside its set is reported and ignored; one clamped into it runs, reported. -/
def runCommand (s : State) (w : Path) (key : Nat) (d : OdDesc) (v : Nat) (bs : List Byte) : Option State :=
  let legal := match d.range with
    | .set vals => decide ((v : Int) ∈ vals)
    | _ => true
  if legal then odCommand s w key v bs
  else if d.type = .bool ∧ 1 < v then
    (odCommand s w key 1 bs).map fun t =>
      let u := clampReport t w key notInSet v 1
      if t.result = 0 then answer u Code.VALUE_CLAMPED else u
  else
    (odCommand s w key 1 bs).map fun _ => answer (clampReport s w key notInSet v 0) Code.VALUE_CLAMPED

/-! ## Writing (R426) -/

/-- A write of an entry: steps 1 to 7 of R426. `off` bears on DOMAIN entries alone. -/
def odWrite (s : State) (w : Path) (key off : Nat) (bs : List Byte) (be : Bool) (x : Crypto) : State :=
  if s.power.closing then answer s Code.NOT_IDLE
  else
    match odEntry key with
    | none => answer s Code.NO_SUCH_ENTRY
    | some d =>
      if !odInScope w key then answer s Code.NO_SUCH_ENTRY
      else if !odWritable s w key d then answer s Code.ACCESS_DENIED
      else if d.access = .rwi ∧ odIdle s key = false then answer s Code.NOT_IDLE
      else if d.type = .domain then
        if domainMax key < off + bs.length then answer s Code.LENGTH_EXCEEDS_BUFFER
        else if key = Od.FW_IMAGE then fwSegment s off bs x.sigOk
        else if !acqRegsOwn s (keyPart key) off bs.length then answer s Code.ACCESS_DENIED
        else answer (wordsByByte acqRegsKeep acqRegsWrite s off bs) 0
      else if odSize d.type < bs.length then answer s Code.LENGTH_EXCEEDS_BUFFER
      else if bs.length < odSize d.type then answer s Code.ACCESS_DENIED
      else
        let l := pathOrder be d.type bs
        match runCommand s w key d (leNat l) l with
        | some t => t
        | none => odApply s w key d (leNat l)

/-! ## The mirror of BAR2 (R441, R442) -/

/-- The base of a function's mirror: 0 the physical function, p + 1 virtual function p. -/
def mirrorOf (f : Nat) : Nat := f * 0x1000000

/-- The data buffer of a channel. -/
def mirrorBuf (f c : Nat) : Nat := mirrorBase + mirrorOf f + 0x100000 + 0x10000 * c

/-- The path of a function's mirror (R423, R424). -/
def mirrorPath (f : Nat) : Path :=
  if f = 0 then ⟨0, none, false⟩ else ⟨1, some ⟨(f - 1) % 16, Nat.mod_lt _ (by decide)⟩, false⟩

/-- An access completes on a channel: DONE, CODE and RESULT_LEN, with its interrupt (R442, R482). -/
def mirrorDone (s : State) (f c code len : Nat) : State :=
  let m := mirrorOf f
  let s := fset s (Reg.COL_OD_CMD c + m) F.COL_OD_CMD_GO 0
  let s := fsets s (Reg.COL_OD_STATUS c + m)
    [(F.COL_OD_STATUS_BUSY, 0), (F.COL_OD_STATUS_DONE, 1), (F.COL_OD_STATUS_RESULT_LEN, len)]
  irq (rset s (Reg.COL_OD_CODE c + m) (BitVec.ofNat 32 code)) f 1

/-- Bytes that a read of an entry takes, where it exists: its size, or what is left of a DOMAIN within `len`. -/
def mirrorReadLen (key off len : Nat) : Nat :=
  match odEntry key with
  | some d => if d.type = .domain then min len (domainMax key - off) else odSize d.type
  | none => 0

/-- The access of a busy channel carried out by the server. -/
def mirrorServe (s : State) (f c : Nat) (x : Crypto) : State :=
  let m := mirrorOf f
  let cmd := rget s (Reg.COL_OD_CMD c + m)
  let key := fldGet cmd F.COL_OD_CMD_INDEX * 256 + fldGet cmd F.COL_OD_CMD_SUB
  let off := (rget s (Reg.COL_OD_OFFSET c + m)).toNat
  let len := fget s (Reg.COL_OD_LEN c + m) F.COL_OD_LEN_LEN
  let w := mirrorPath f
  match fldGet cmd F.COL_OD_CMD_OP with
  | 0 =>
    let n := mirrorReadLen key off len
    let plain := (odEntry key).isSome && odInScope w key &&
      (match odEntry key with
       | some d => odReadable s w key d
       | none => false)
    if plain && decide (len < n) then mirrorDone s f c Code.LENGTH_EXCEEDS_BUFFER 0
    else
      let r := odRead s w key off n false
      mirrorDone (setMemBytes r.1 (mirrorBuf f c) r.2.2) f c r.2.1 r.2.2.length
  | 1 =>
    let t := odWrite s w key off (memBytes s (mirrorBuf f c) len) false x
    mirrorDone t f c t.result 0
  | _ =>
    let r := odDescribe w s key false
    mirrorDone (setMemBytes s (mirrorBuf f c) r.2) f c r.1 r.2.length

/-- The dictionary is served: a holder, and Baste reached (R397, R400, R519). -/
def odServing (s : State) : Bool := leased s && decide (fget s Reg.PWR_STATUS F.PWR_STATUS_STAGE ≠ 0)

/-- The mirror of a function answers: the physical function's, or an OPEN partition's (R433). -/
def mirrorOpen (s : State) (f : Nat) : Bool := decide (f = 0) || decide (partState s (f - 1) = 2)

/-- A write of COL_OD_CMD (R442): ignored with WERR while BUSY; with GO it starts the access that its fields name. -/
def mirrorCmd (s : State) (f c : Nat) (v : Word) (x : Crypto) : State :=
  let m := mirrorOf f
  if !mirrorOpen s f then s
  else if fbit s (Reg.COL_OD_STATUS c + m) F.COL_OD_STATUS_BUSY then
    fset s (Reg.COL_OD_STATUS c + m) F.COL_OD_STATUS_WERR 1
  else
    let s := fsets s (Reg.COL_OD_CMD c + m)
      [(F.COL_OD_CMD_OP, fldGet v F.COL_OD_CMD_OP), (F.COL_OD_CMD_INDEX, fldGet v F.COL_OD_CMD_INDEX),
       (F.COL_OD_CMD_SUB, fldGet v F.COL_OD_CMD_SUB)]
    if fldGet v F.COL_OD_CMD_GO = 0 then s
    else if 65536 < fget s (Reg.COL_OD_LEN c + m) F.COL_OD_LEN_LEN then mirrorDone s f c Code.LENGTH_EXCEEDS_BUFFER 0
    else if fldGet v F.COL_OD_CMD_OP = 3 then mirrorDone s f c Code.VALUE_INVALID 0
    else
      let s := fset s (Reg.COL_OD_CMD c + m) F.COL_OD_CMD_GO 1
      let s := fsets s (Reg.COL_OD_STATUS c + m) [(F.COL_OD_STATUS_BUSY, 1), (F.COL_OD_STATUS_DONE, 0)]
      if odServing s then mirrorServe s f c x else { s with mirrorWait := s.mirrorWait ++ [(f, c, x)] }

/-- The oldest waiting mirror access is served once the dictionary is. -/
def mirrorTick (s : State) : State :=
  match s.mirrorWait with
  | (f, c, x) :: rest =>
    if odServing s then mirrorServe { s with mirrorWait := rest } f c x else s
  | [] => s

/-! ## The commands -/

/-- The scope of the path is served: a module-owner path, or a partition that is OPEN (R433). -/
def pathServed (s : State) (w : Path) : Bool :=
  match w.part with
  | none => true
  | some p => decide (partState s p.val = 2)

/-- An access carried out where the dictionary is served: its code and bytes in `result` and `reply`. A request in the scope
of a partition that is not OPEN is answered WRONG_STATE (R433). -/
def odAccess (s : State) (w : Path) (f : State → State × Nat × List Byte) : State :=
  if !odServing s then s
  else if !pathServed s w then answer s Code.WRONG_STATE
  else
    let r := f s
    { answer r.1 r.2.1 with reply := r.2.2 }

def execOdRead (w : Path) (index : BitVec 16) (sub : BitVec 8) (off len : BitVec 32) (s : State) :
    Host.Outcome State Fault Refusal :=
  .next (odAccess s w fun s => odRead s w (index.toNat * 256 + sub.toNat) off.toNat len.toNat false)
def execOdWrite (w : Path) (index : BitVec 16) (sub : BitVec 8) (off : BitVec 32) (bytes : List (BitVec 8)) (x : Crypto)
    (s : State) : Host.Outcome State Fault Refusal :=
  .next (odAccess s w fun s =>
    let t := odWrite s w (index.toNat * 256 + sub.toNat) off.toNat bytes false x
    (t, t.result, []))
def execOdDescribe (w : Path) (index : BitVec 16) (sub : BitVec 8) (s : State) : Host.Outcome State Fault Refusal :=
  .next (odAccess s w fun s => (s, odDescribe w s (index.toNat * 256 + sub.toNat) false))
def execColOdCmdGo (f : Option (Fin 16)) (c : Fin 16) (v : BitVec 32) (x : Crypto) (s : State) :
    Host.Outcome State Fault Refusal :=
  .next (mirrorCmd s (match f with
    | none => 0
    | some p => p.val + 1) c.val v x)
def execClampClear (w : Path) (s : State) : Host.Outcome State Fault Refusal :=
  .next (served s fun s => if ownerPath w then clampClear s else answer s Code.ACCESS_DENIED)
def execLogRead (w : Path) (s : State) : Host.Outcome State Fault Refusal :=
  .next (odAccess s w fun s =>
    let r := logRead s w
    (r.1, 0, r.2))
def execShutdown (w : Path) (s : State) : Host.Outcome State Fault Refusal :=
  .next (served s fun s => if ownerPath w then shutdown s else answer s Code.ACCESS_DENIED)

end Sys2Proof.Machine
end

