-- ==== Sys2Proof/Machine/Requests.lean ====
section
/-! DEFINITION. What PAP and the mailbox channels share (R425, R452, R456, R457): requests carried out over the dictionary, and
the bodies of their responses, big-endian in PAP and little-endian over a channel. -/

namespace Sys2Proof.Machine

/-- A number of `n` bytes in the order of the path (R9). -/
def num (be : Bool) (n v : Nat) : List Byte := if be then (leBytes n v).reverse else leBytes n v

/-- Entries of a list are packed to a multiple of 4 bytes (R452). -/
def pad4 (l : List Byte) : List Byte := l ++ List.replicate ((4 - l.length % 4) % 4) 0

/-- The largest body (R450). -/
def bodyMax : Nat := 1420

/-- The key of an entry reference. -/
def refKey (e : EntryRef) : Nat := e.index.toNat * 256 + e.sub.toNat

/-- An entry of a READ_RSP or a NOTIFY (R452). -/
def readItem (be : Bool) (code : Nat) (v : List Byte) : List Byte :=
  num be 4 code ++ num be 2 v.length ++ [0, 0] ++ pad4 v

/-- One entry of a READ (R456): a DOMAIN entry, or a value that finds less than `room` bytes, is answered with
LENGTH_EXCEEDS_BUFFER. -/
def readEntry (s : State) (w : Path) (be : Bool) (key room : Nat) : State × Nat × List Byte :=
  match odEntry key with
  | some d =>
    if odInScope w key && odReadable s w key d &&
        (decide (d.type = .domain) || decide (room < (odSize d.type + 3) / 4 * 4)) then
      (s, Code.LENGTH_EXCEEDS_BUFFER, [])
    else odRead s w key 0 0 be
  | none => (s, Code.NO_SUCH_ENTRY, [])

/-- Entries read in order into a body that already holds `used` bytes (R456): the bytes added, and the codes. -/
def readEntries (w : Path) (be : Bool) : List Nat → State → Nat → State × List Byte × List Nat
  | [], s, _ => (s, [], [])
  | k :: ks, s, used =>
    let r := readEntry s w be k (bodyMax - used - 8 - 8 * ks.length)
    let b := readItem be r.2.1 r.2.2
    let t := readEntries w be ks r.1 (used + b.length)
    (t.1, b ++ t.2.1, r.2.1 :: t.2.2)

/-- READ (R456). -/
def serveRead (s : State) (w : Path) (be : Bool) (keys : List Nat) : State × List Byte :=
  let r := readEntries w be keys s 4
  (r.1, num be 2 keys.length ++ [0, 0] ++ r.2.1)

/-- One entry of a WRITE (R456). -/
def writeEntry (s : State) (w : Path) (be : Bool) (x : Crypto) (key : Nat) (bs : List Byte) : State :=
  match odEntry key with
  | some d =>
    if odInScope w key && odWritable s w key d && decide (d.type = .domain) && !s.power.closing then
      answer s Code.LENGTH_EXCEEDS_BUFFER
    else odWrite s w key 0 bs be x
  | none => odWrite s w key 0 bs be x

/-- WRITE (R456): each entry in order, with its own code. -/
def serveWrite (s : State) (w : Path) (be : Bool) (x : Crypto) (items : List (Nat × List Byte)) : State × List Byte :=
  let r := items.foldl (fun (acc : State × List Byte) i =>
    let t := writeEntry acc.1 w be x i.1 i.2
    (t, acc.2 ++ num be 4 t.result)) (s, [])
  (r.1, num be 2 items.length ++ [0, 0] ++ r.2)

/-- SEG_READ (R457): past the maximum, the bytes that exist. An entry that is not DOMAIN is not reached by segments. -/
def serveSegRead (s : State) (w : Path) (be : Bool) (key off len : Nat) : State × List Byte :=
  let r : State × Nat × List Byte := match odEntry key with
    | some d =>
      if odInScope w key && odReadable s w key d && decide (d.type ≠ .domain) then (s, Code.ACCESS_DENIED, [])
      else if d.type = .domain ∧ off ≤ domainMax key then odRead s w key off (min len (domainMax key - off)) be
      else odRead s w key off len be
    | none => (s, Code.NO_SUCH_ENTRY, [])
  (r.1, num be 4 r.2.1 ++ num be 2 r.2.2.length ++ [0, 0] ++ r.2.2)

/-- SEG_WRITE (R457). -/
def serveSegWrite (s : State) (w : Path) (be : Bool) (x : Crypto) (key off : Nat) (bs : List Byte) : State × List Byte :=
  let t := match odEntry key with
    | some d =>
      if odInScope w key && odWritable s w key d && decide (d.type ≠ .domain) && !s.power.closing then
        answer s Code.ACCESS_DENIED
      else odWrite s w key off bs be x
    | none => odWrite s w key off bs be x
  (t, num be 4 t.result)

/-- DESCRIBE (R442, R452). -/
def serveDescribe (s : State) (w : Path) (be : Bool) (key : Nat) : List Byte :=
  let r := odDescribe w s key be
  num be 4 r.1 ++ bytesAt r.2 0 8

/-! ## The bodies of requests (R452) -/

/-- An entry reference as bytes. -/
def refBytes (be : Bool) (e : EntryRef) : List Byte := num be 2 e.index.toNat ++ [e.sub, 0]

/-- The body of a READ. -/
def readBody (refs : List EntryRef) : List Byte := num true 2 refs.length ++ [0, 0] ++ refs.flatMap (refBytes true)

/-- The body of a WRITE. -/
def writeBody (items : List (EntryRef × List Byte)) : List Byte :=
  num true 2 items.length ++ [0, 0] ++
    items.flatMap fun i => refBytes true i.1 ++ num true 2 i.2.length ++ [0, 0] ++ pad4 i.2

/-- The body of a SEG_READ. -/
def segReadBody (e : EntryRef) (off len : Nat) : List Byte := refBytes true e ++ num true 4 off ++ num true 2 len ++ [0, 0]

/-- The body of a SEG_WRITE. -/
def segWriteBody (e : EntryRef) (off : Nat) (bs : List Byte) : List Byte := segReadBody e off bs.length ++ bs

/-- The body of a SUBSCRIBE. -/
def subscribeBody (subId mode period : Nat) (refs : List EntryRef) : List Byte :=
  num true 1 subId ++ num true 1 mode ++ num true 2 period ++ readBody refs

/-- What a body holds that breaks its form, as R461's codes: too short, or too long. -/
def bodyFault (b : List Byte) (need long : Nat) : Option Nat :=
  if b.length < need then some Code.LENGTH_EXCEEDS_BUFFER else if need < b.length then some long else none

/-! ## The opening of a session (R454), of PAP or of a secure channel -/

/-- A number of `n` bytes in the order of the path, as hashes and derivations take it. -/
def pathBytes (be : Bool) (n v : Nat) : List Nat := if be then natBE n v else natLE n v

/-- A challenge with a fresh SESSION, nonce and ephemeral key (R454 order 2). -/
def newChallenge (s : State) (addr role part : Nat) : Challenge × State :=
  let n := freshNumber s
  let nonce := drawNat n.2
  let key := drawNat nonce.2
  (⟨n.1, addr, role, part, nonce.1 % 2 ^ 128, scalarOf key.1⟩, key.2)

/-- The module's ephemeral key of a challenge, compressed. -/
def challengeKey (c : Challenge) : List Nat := ecCompress (ecTimes c.key p384G)

/-- The body of a CHALLENGE. -/
def challengeBody (be : Bool) (c : Challenge) : List Byte :=
  num be 4 c.number ++ num be 16 c.nonce ++ toBytes (challengeKey c) ++ [0, 0, 0]

/-- The body of an OPENED. -/
def openedBody (s : State) (be : Bool) : List Byte := num be 4 (oget s Od.PAP_SESSION_TIMEOUT) ++ num be 2 bodyMax ++ [0, 0]

/-- The hash that an OPEN for a challenge is checked against (R454 order 4): none where nothing admits it. -/
def ownerHash (s : State) (role part : Nat) : Option Nat :=
  if role = 1 then some (oget s Od.PAP_OWNER_KEY_HASH)
  else if role = 2 ∧ part < 16 ∧ partState s part = 2 then some (oget s (Od.OWNER_KEY_HASH part))
  else none

/-- The signature of an OPEN verifies under its static key (R454 order 3): over SHA-384 of the nonce, the module serial, ROLE,
PARTITION, SESSION and both ephemeral keys. -/
def openSigned (s : State) (be : Bool) (c : Challenge) (bytes : List Nat) : Bool :=
  let text := pathBytes be 16 c.nonce ++ serialBytes s ++ [c.role, c.part] ++ pathBytes be 4 c.number ++
    (bytes.drop 49).take 49 ++ challengeKey c
  match ecExpand (bytes.take 49) with
  | some q => ecdsaVerify q (sha384 text) (bytes.drop 100)
  | none => false

/-- The checks of R454 order 4: SHA-384 of the static key equals a hash that is not all zeros, and the signature verifies. -/
def openOk (s : State) (be : Bool) (c : Challenge) (bytes : List Nat) : Bool :=
  match ownerHash s c.role c.part with
  | some h => decide (h ≠ 0) && decide (keyHash (bytes.take 49) = h) && openSigned s be c bytes
  | none => false

/-- The session key of order 5, or none where a check of order 4 fails. An ephemeral key that is no point of the curve is refused
as the signature is (assumption 79). -/
def openKey (s : State) (be : Bool) (c : Challenge) (body : List Byte) : Option (BitVec 256) :=
  let bytes := ofBytes body
  match ecExpand ((bytes.drop 49).take 49) with
  | some q =>
    if openOk s be c bytes then
      some (BitVec.ofNat 256 (beNat (deriveKey (ecdhSecret c.key q) (pathBytes be 16 c.nonce ++ pathBytes be 4 c.number))))
    else none
  | none => none

/-- What breaks the form of an OPEN (R452, R461): its length, or a reserved byte that is not 0. -/
def openFault (body : List Byte) (bad : Nat) : Option Nat :=
  match bodyFault body 196 bad with
  | some code => some code
  | none => if (body.drop 98).take 2 = [0, 0] then none else some bad

/-! ## The message store (R394) -/

/-- NoC address of the message store. -/
def messageStore : Nat := 0x020004400000

/-- The stored reply `i` of channel `c`: length, TAG, VALID, then the reply as posted. -/
def storeReply (s : State) (c i tag : Nat) (bytes : List Byte) : State :=
  setMemBytes s (messageStore + 0x6000 * c + 0x600 * i)
    (leBytes 2 bytes.length ++ leBytes 1 tag ++ leBytes 1 1 ++ bytes)

/-- The stored response `i` of session slot `k`: length, reserved, SEQ, then the datagram as sent. -/
def storeResponse (s : State) (k i seq : Nat) (bytes : List Byte) : State :=
  setMemBytes s (messageStore + 0x180000 + 0xC000 * k + 0x600 * i)
    (leBytes 2 bytes.length ++ leBytes 2 0 ++ leBytes 4 seq ++ bytes)

end Sys2Proof.Machine
end

