-- ==== Sys2Proof/Machine/Pap.lean ====
section
/-! DEFINITION. The Parameter Access Protocol (R450 to R462): sessions, requests, stored responses, subscriptions, aborts and
violations. -/

namespace Sys2Proof.Machine

/-! ## Aborts (R460) -/

/-- The source address of a datagram, without its UDP port. -/
def srcAddr (src : Nat) : Nat := src / 65536

/-- REFCLK periods of a number of milliseconds. -/
def msTicks (ms : Nat) : Nat := ms * 156250

/-- An ABORT, unless one went to the same address within PAP_ABORT_INTERVAL; then it is discarded and counted (R460). -/
def papAbort (s : State) (src session ref code : Nat) : State :=
  let a := srcAddr src
  let last := sget (fun _ => none) s.abortAt a
  let early := match last with
    | some t => decide (s.ticks < t + msTicks (oget s Od.PAP_ABORT_INTERVAL))
    | none => false
  if early then oinc s Od.PAP_ABORTS_SUPPRESSED
  else
    let s := { s with abortAt := sset (fun _ => none) s.abortAt a (some s.ticks) }
    let body := num true 4 code ++ num true 4 0
    match sessionSlot s session with
    | some k =>
      (match getSession s k with
       | some x => sessionSend s k x 0x3F ref body
       | none => s)
    | none => papSend s (plainMessage src 0x3F ref body)

/-- A violation or a discard counted (R458, R461). -/
def papCount (s : State) : State := oinc s Od.PAP_DISCARDED

/-! ## Requests -/

/-- The path of a session's accesses (R423, R424, R433). -/
def sessionPath (x : Session) : Path :=
  ⟨2, match x.part with
    | some p => some ⟨p % 16, Nat.mod_lt _ (by decide)⟩
    | none => none, false⟩

/-- The path of an access outside a session. -/
def anonPath : Path := ⟨2, none, false⟩

/-- The entries open outside a session (R453). -/
def anonEntry (key : Nat) : Bool := decide (0x1000 ≤ keyIndex key) && decide (keyIndex key ≤ 0x10FF)

/-- A response sent in a session and kept among its last 32, in the message store as sent (R394, R458); the session closes after
SEQ 0xFFFF_FFFF, on either side (R455). -/
def papRespond (s : State) (k : Nat) (seq type : Nat) (body : List Byte) : State :=
  match getSession s k with
  | none => s
  | some x =>
    let m := sessionMessage x x.next type seq body
    let s := storeResponse s k (seq % 32) seq m.wire
    let s := setSession s k (some { x with next := x.next + 1, stored := (⟨seq, type, x.next, body⟩ :: x.stored).take 32 })
    let s := papSend s m
    if seq = 0xFFFFFFFF ∨ x.next = 0xFFFFFFFF then sessionClose s k true else s

/-- Outside a session (R453): a request that is open there is answered in plaintext with SESSION 0. -/
def papOutside (s : State) (m : PapMsg) (open_ : Bool) (f : State → Path → State × Nat × List Byte) : State :=
  if open_ && decide (oget s Od.PAP_ANON = 1) then
    let r := f s anonPath
    papSend r.1 (plainMessage m.src.toNat r.2.1 m.seq.toNat r.2.2)
  else papAbort s m.src.toNat 0 m.seq.toNat Code.ACCESS_DENIED

/-- A datagram of an open session that verifies: its SEQ becomes known, and its source is where answers go (R455, R458). -/
def papVerified (s : State) (k : Nat) (x : Session) (m : PapMsg) : State :=
  setSession s k (some { x with high := max x.high m.seq.toNat, addr := m.src.toNat })

/-- The tag of a client's datagram of TYPE and body verifies in its session (R451). -/
def papAuthentic (x : Session) (m : PapMsg) (type : Nat) (body : List Byte) : Bool :=
  decide (m.tag = requestTag x m.seq.toNat type body)

/-- A request of TYPE and body (R450 to R461): outside a session under R453; in one, verified, answered with the stored datagram
where its SEQ repeats, discarded where its SEQ lies below the window, and otherwise carried out and answered. -/
def papRequest (s : State) (m : PapMsg) (type : Nat) (body : List Byte) (open_ : Bool)
    (f : State → Path → State × Nat × List Byte) : State :=
  if !odServing s then s
  else if m.session = 0 then papOutside s m open_ f
  else
    match sessionSlot s m.session.toNat with
    | none => papAbort (papCount s) m.src.toNat 0 m.seq.toNat Code.PAP_NO_SESSION
    | some k =>
      match getSession s k with
      | none => s
      | some x =>
        let seq := m.seq.toNat
        if !papAuthentic x m type body || decide (seq = 0) then papCount s
        else
          match x.stored.find? fun r => decide (r.req = seq) with
          | some r => papSend (papVerified s k x m) (sessionMessage { x with addr := m.src.toNat } r.own r.type seq r.body)
          | none =>
            if seq + 32 ≤ x.high then papCount s
            else
              let r := f (papVerified s k x m) (sessionPath x)
              if r.2.1 = 0x3F then papAbort (papCount r.1) m.src.toNat x.number seq (leNat r.2.2)
              else papRespond r.1 k seq r.2.1 r.2.2

/-- A request refused with ABORT: it takes no effect (R461). -/
def refused (s : State) (code : Nat) : State × Nat × List Byte := (s, 0x3F, leBytes 4 code)

/-- READ (R456). -/
def papRead (s : State) (m : PapMsg) (refs : List EntryRef) : State :=
  let keys := refs.map refKey
  papRequest s m 0x10 (readBody refs) (keys.all anonEntry) fun s w =>
    if keys.isEmpty || decide (64 < keys.length) then refused s Code.VALUE_INVALID
    else
      let r := serveRead s w true keys
      (r.1, 0x11, r.2)

/-- WRITE (R456). -/
def papWrite (s : State) (m : PapMsg) (items : List (EntryRef × List Byte)) (x : Crypto) : State :=
  papRequest s m 0x12 (writeBody items) false fun s w =>
    if bodyMax < (writeBody items).length then refused s Code.LENGTH_EXCEEDS_BUFFER
    else if items.isEmpty || decide (64 < items.length) then refused s Code.VALUE_INVALID
    else
      let r := serveWrite s w true x (items.map fun i => (refKey i.1, i.2))
      (r.1, 0x13, r.2)

/-- SEG_READ (R457). -/
def papSegRead (s : State) (m : PapMsg) (e : EntryRef) (off len : Nat) : State :=
  papRequest s m 0x14 (segReadBody e off len) false fun s w =>
    if len = 0 ∨ 1408 < len then refused s Code.VALUE_INVALID
    else
      let r := serveSegRead s w true (refKey e) off len
      (r.1, 0x15, r.2)

/-- SEG_WRITE (R457). -/
def papSegWrite (s : State) (m : PapMsg) (e : EntryRef) (off : Nat) (bs : List Byte) (x : Crypto) : State :=
  papRequest s m 0x16 (segWriteBody e off bs) false fun s w =>
    if bodyMax < 12 + bs.length then refused s Code.LENGTH_EXCEEDS_BUFFER
    else
      let r := serveSegWrite s w true x (refKey e) off bs
      (r.1, 0x17, r.2)

/-- DESCRIBE (R442, R452). -/
def papDescribe (s : State) (m : PapMsg) (e : EntryRef) : State :=
  papRequest s m 0x18 (refBytes true e) (anonEntry (refKey e)) fun s w => (s, 0x19, serveDescribe s w true (refKey e))

/-- ECHO (R452). -/
def papEcho (s : State) (m : PapMsg) (bs : List Byte) : State :=
  papRequest s m 0x30 bs true fun s _ => if 64 < bs.length then refused s Code.VALUE_INVALID else (s, 0x31, bs)

/-! ## Subscriptions (R459) -/

/-- Bytes of a NOTIFY before its entries. -/
def notifyHead : Nat := 20

/-- SUBSCRIBE (R459). -/
def papSubscribe (s : State) (m : PapMsg) (subId mode period : Nat) (refs : List EntryRef) : State :=
  let keys := refs.map refKey
  papRequest s m 0x20 (subscribeBody subId mode period refs) false fun s w =>
    if 7 < subId ∨ keys.isEmpty ∨ 16 < keys.length then refused s Code.VALUE_INVALID
    else
      let zeros := keys.flatMap fun _ => num true 4 0
      if 1 < mode ∨ period < 10 ∨ 60000 < period then (s, 0x21, num true 4 Code.VALUE_INVALID ++ zeros)
      else
        let r := readEntries w true keys s notifyHead
        let codes := r.2.2.flatMap fun c => num true 4 c
        if r.2.2.any fun c => decide (c = Code.LENGTH_EXCEEDS_BUFFER) then
          (r.1, 0x21, num true 4 Code.LENGTH_EXCEEDS_BUFFER ++ codes)
        else
          let n := drawNat r.1
          let s := n.2
          let s := match sessionSlot s m.session.toNat with
            | some k =>
              (match getSession s k with
               | some x =>
                 let subs := sset (fun _ => none) x.subs subId (some ⟨decide (mode = 1), period, keys, n.1 % 2 ^ 32, r.2.1⟩)
                 setSession s k (some { x with subs := subs })
               | none => s)
            | none => s
          (s, 0x21, num true 4 0 ++ codes)

/-- UNSUBSCRIBE (R452). -/
def papUnsubscribe (s : State) (m : PapMsg) (subId : Nat) : State :=
  papRequest s m 0x22 (num true 1 subId ++ [0, 0, 0]) false fun s _ =>
    if 7 < subId then refused s Code.VALUE_INVALID
    else
      let s := match sessionSlot s m.session.toNat with
        | some k =>
          (match getSession s k with
           | some x => setSession s k (some { x with subs := sset (fun _ => none) x.subs subId none })
           | none => s)
        | none => s
      (s, 0x21, num true 4 0)

/-- NOTIFY: a period boundary of a subscription; its entries are read afresh in the session's scope, and in MODE 1 the message
is sent only after a change (R459). -/
def papNotify (s : State) (session subId : Nat) : State :=
  if !odServing s then s
  else
    match sessionSlot s session with
    | none => s
    | some k =>
      match getSession s k with
      | none => s
      | some x =>
        match sget (fun _ => none) x.subs subId with
        | none => s
        | some u =>
          let r := readEntries (sessionPath x) true u.entries s notifyHead
          if u.onChange && decide (r.2.1 = u.last) then r.1
          else
            let n := (u.count + 1) % 2 ^ 32
            let y := { x with subs := sset (fun _ => none) x.subs subId (some { u with count := n, last := r.2.1 }) }
            let body := num true 1 subId ++ [0, 0, 0] ++ num true 4 n ++ num true 10 (time80 r.1.timeA) ++ [0, 0] ++ r.2.1
            let t := sessionSend r.1 k y 0x23 0 body
            if y.next = 0xFFFFFFFF then sessionClose t k true else t

/-! ## Sessions (R454, R455) -/

/-- HELLO: a challenge, or ABORT PAP_SESSIONS_FULL (R454 orders 1 and 2). -/
def papHello (s : State) (src seq role part : Nat) : State :=
  if !odServing s then s
  else if 16 ≤ sessionsHeld s then papAbort s src 0 seq Code.PAP_SESSIONS_FULL
  else
    let c := newChallenge s src role part
    papSend { c.2 with challenges := c.2.challenges ++ [c.1] } (plainMessage src 0x02 seq (challengeBody true c.1))

/-- OPEN (R454 orders 3 to 6): one that breaks the form is a violation; otherwise the challenge is spent, and the session opens in
a free slot, or ABORT PAP_AUTH_FAIL. -/
def papOpen (s : State) (m : PapMsg) (body : List Byte) : State :=
  if !odServing s then s
  else
    match openFault body Code.PAP_BAD_MESSAGE, s.challenges.find? fun c => decide (c.number = m.session.toNat) with
    | some code, _ => papAbort (papCount s) m.src.toNat 0 m.seq.toNat code
    | none, none => papAbort (papCount s) m.src.toNat 0 m.seq.toNat Code.PAP_NO_SESSION
    | none, some c =>
      let s := { s with challenges := s.challenges.filter fun d => decide (d.number ≠ c.number) }
      match openKey s true c body with
      | some key =>
        (match (List.range 16).find? fun k => (getSession s k).isNone with
         | some k =>
           let x : Session := { number := c.number, addr := m.src.toNat, key := key, part := if c.role = 2 then some c.part else none }
           sessionSend (setSession s k (some x)) k x 0x04 m.seq.toNat (openedBody s true)
         | none => papAbort s m.src.toNat 0 m.seq.toNat Code.PAP_SESSIONS_FULL)
      | none => papAbort s m.src.toNat 0 m.seq.toNat Code.PAP_AUTH_FAIL

/-- CHALLENGE_LAPSE: 10 s without an OPEN, of PAP or of a secure channel (R454, R502). -/
def challengeLapse (s : State) (n : Nat) : State :=
  let s := { s with challenges := s.challenges.filter fun c => decide (c.number ≠ n) }
  (List.range 8).foldl (fun s c =>
    match (getMbx s c).challenge with
    | some h => if h.number = n then setMbx s c { getMbx s c with challenge := none } else s
    | none => s) s

/-- CLOSE from the client: the session ends, and CLOSE answers it (R452, R455). -/
def papClose (s : State) (m : PapMsg) : State :=
  if !odServing s then s
  else if m.session = 0 then papAbort s m.src.toNat 0 m.seq.toNat Code.ACCESS_DENIED
  else
    match sessionSlot s m.session.toNat with
    | none => papAbort (papCount s) m.src.toNat 0 m.seq.toNat Code.PAP_NO_SESSION
    | some k =>
      match getSession s k with
      | none => s
      | some x =>
        if !papAuthentic x m 0x05 [] || decide (m.seq = 0) || decide (m.seq.toNat + 32 ≤ x.high) then papCount s
        else
          let y := { x with addr := m.src.toNat }
          sessionClose (sessionSend s k y 0x05 m.seq.toNat []) k false

/-- PAP_SESSION_TIMEOUT: no datagram of the session has verified for PAP_SESSION_TIMEOUT (R455). -/
def papTimeout (s : State) (n : Nat) : State :=
  if !leased s then s
  else
    match sessionSlot s n with
    | some k => sessionClose s k false
    | none => s

/-! ## Violations (R461) -/

/-- The code with which a violation is answered, or none for silence (R460, R461). -/
def violationCode : PapFault → Option Nat
  | .version => some Code.PAP_VERSION
  | .type t => if t = 0x3F ∨ t = 0x31 then none else some Code.PAP_BAD_MESSAGE
  | .length => some Code.LENGTH_EXCEEDS_BUFFER
  | .surplus => some Code.PAP_BAD_MESSAGE
  | .range => some Code.VALUE_INVALID
  | .tag => none

/-- The tag of a malformed datagram of an open session verifies over the bytes received before it. -/
def violationAuthentic (x : Session) (m : PapMsg) (bytes : List Nat) : Bool :=
  decide (natBE 16 m.tag.toNat =
    gcmTag (sessionKey x) (papIv x.number 0 m.seq.toNat) (bytes.take 16) (bytes.drop 16))

/-- PAP_VIOLATION: a malformed datagram, counted and answered under R461. One of an open session whose tag fails is discarded
silently whatever else is wrong with it (R460). -/
def papViolation (s : State) (m : PapMsg) (f : PapFault) (bytes : List Byte) : State :=
  if !odServing s then s
  else
    let s := papCount s
    let held := (sessionSlot s m.session.toNat).bind (getSession s)
    match violationCode f with
    | none => s
    | some code =>
      match held with
      | some x =>
        if violationAuthentic x m (ofBytes bytes) then papAbort s m.src.toNat m.session.toNat m.seq.toNat code else s
      | none => papAbort s m.src.toNat 0 m.seq.toNat code

/-! ## The commands -/

def execHello (src : BitVec 144) (seq : BitVec 32) (role part : BitVec 8) (s : State) :
    Host.Outcome State Fault Refusal :=
  .next (papHello s src.toNat seq.toNat role.toNat part.toNat)
def execOpen (m : PapMsg) (body : List (BitVec 8)) (s : State) : Host.Outcome State Fault Refusal := .next (papOpen s m body)
def execChallengeLapse (session : BitVec 32) (s : State) : Host.Outcome State Fault Refusal :=
  .next (challengeLapse s session.toNat)
def execClose (m : PapMsg) (s : State) : Host.Outcome State Fault Refusal := .next (papClose s m)
def execPapSessionTimeout (session : BitVec 32) (s : State) : Host.Outcome State Fault Refusal :=
  .next (papTimeout s session.toNat)
def execPapRead (m : PapMsg) (refs : List EntryRef) (s : State) : Host.Outcome State Fault Refusal := .next (papRead s m refs)
def execPapWrite (m : PapMsg) (items : List (EntryRef × List (BitVec 8))) (x : Crypto) (s : State) :
    Host.Outcome State Fault Refusal :=
  .next (papWrite s m items x)
def execSegRead (m : PapMsg) (e : EntryRef) (off : BitVec 32) (len : BitVec 16) (s : State) :
    Host.Outcome State Fault Refusal :=
  .next (papSegRead s m e off.toNat len.toNat)
def execSegWrite (m : PapMsg) (e : EntryRef) (off : BitVec 32) (bytes : List (BitVec 8)) (x : Crypto) (s : State) :
    Host.Outcome State Fault Refusal :=
  .next (papSegWrite s m e off.toNat bytes x)
def execDescribe (m : PapMsg) (e : EntryRef) (s : State) : Host.Outcome State Fault Refusal := .next (papDescribe s m e)
def execSubscribe (m : PapMsg) (subId mode : BitVec 8) (period : BitVec 16) (refs : List EntryRef) (s : State) :
    Host.Outcome State Fault Refusal :=
  .next (papSubscribe s m subId.toNat mode.toNat period.toNat refs)
def execUnsubscribe (m : PapMsg) (subId : BitVec 8) (s : State) : Host.Outcome State Fault Refusal :=
  .next (papUnsubscribe s m subId.toNat)
def execNotify (session : BitVec 32) (subId : Fin 8) (s : State) : Host.Outcome State Fault Refusal :=
  .next (papNotify s session.toNat subId.val)
def execEcho (m : PapMsg) (bytes : List (BitVec 8)) (s : State) : Host.Outcome State Fault Refusal := .next (papEcho s m bytes)
def execPapViolation (m : PapMsg) (f : PapFault) (bytes : List (BitVec 8)) (s : State) : Host.Outcome State Fault Refusal :=
  .next (papViolation s m f bytes)

end Sys2Proof.Machine
end

