-- ==== Sys2Proof/Machine/RegAccess.lean ====
section
/-! DEFINITION. Every read and write of a register (R5 to R8, R33, R399): the values that a read derives, and the effect of a
write on each register that has one of its own. -/

namespace Sys2Proof.Machine

/-! ## Where an address lies -/

/-- The DMA queue of a BAR4 queue-block address, and the register's offset. -/
def dmaqAt (a : Nat) : Option (Nat × Nat) :=
  if dmaqBase ≤ a ∧ a < dmaqBase + 0x100000 then
    some ((a - dmaqBase) / 0x10000 * 64 + (a - dmaqBase) % 0x10000 / 0x400, (a - dmaqBase) % 0x400)
  else none

/-- The function, channel and offset of a BAR2 mirror register. -/
def mirrorAt (a : Nat) : Option (Nat × Nat × Nat) :=
  if mirrorBase ≤ a ∧ a < mirrorBase + 17 * 0x1000000 ∧ (a - mirrorBase) % 0x1000000 < 0x10000 then
    some ((a - mirrorBase) / 0x1000000, (a - mirrorBase) % 0x1000000 / 0x1000, (a - mirrorBase) % 0x1000)
  else none

/-! ## Derived values -/

/-- Clusters of a die. -/
def dieClusters (d : Nat) : List ClusterId := (List.range 1056).map fun i => clusterOf (d * 1056 + i)

/-- A sum that saturates at 32 bits. -/
def satSum (l : List Nat) : Word := BitVec.ofNat 32 (min l.sum 0xFFFFFFFF)

/-- BP_DIE_SPLIT_SUM and WRP_BP_SUM: a counter summed over the die's clusters. -/
def dieSum (s : State) (d : Nat) (f : ClusterId → Nat) : Word := satSum ((dieClusters d).map fun c => (rget s (f c)).toNat)

/-- WRP_FAULT_SUM. -/
def faultSum (s : State) (d : Nat) : Word :=
  let n := ((dieClusters d).filter fun c => decide (rget s (Reg.WRP_TAG_FAULT c) ≠ 0)).length
  BitVec.ofNat 32 (n + if n = 0 then 0 else 2 ^ 31)

/-- COL_LEASE with REMAIN_US: what is left of the 100 ms of the lease (R396). -/
def leaseWord (s : State) : Word :=
  let left := if leased s then (15625000 - (s.ticks - s.collar.leaseAt)) * 64 / 10000 else 0
  fldSet (rget s Reg.COL_LEASE) F.COL_LEASE_REMAIN_US left

/-- COL_SELF as the controller that reads it sees it. -/
def selfWord (s : State) (src : RegBy) : Word :=
  match src with
  | .col n =>
    let x := getCtl s n.val
    fldSet (fldSet 0 F.COL_SELF_REQUEST x.request.toNat) F.COL_SELF_READY x.ready.toNat
  | _ => 0

/-- A partition is held for a rollback or a capture (LNG_STATUS.HOLD), and the order of R386 or R381 now running for it. -/
def lngHeld (s : State) (p : Nat) : Bool :=
  decide ((getPart s p).hold ≠ .none) || (runnable s p && captureDue s p (getPart s p).completed)
def lngStage (s : State) (p : Nat) : Nat :=
  match (getPart s p).hold with
  | .stopping => 2
  | .drained => 3
  | .none => if atBoundary s p then 2 else 1

/-- LNG_STATUS. -/
def lngWord (s : State) : Word :=
  let held := (List.range 16).filter (lngHeld s)
  let w := fldSet (rget s Reg.LNG_STATUS) F.LNG_STATUS_HOLD ((held.map fun p => 2 ^ p).sum)
  fldSet w F.LNG_STATUS_STAGE (match held with
    | p :: _ => lngStage s p
    | [] => 0)

/-- NOC_DOM_k with EMPTY and PENDING (R317). -/
def domWord (s : State) (k : Nat) : Word :=
  let w := rget s (Reg.NOC_DOM k)
  let w := if 0x80 ≤ k then fldSet w F.NOC_DOM_EMPTY (if routerEmpty s (k - 0x80) then 1 else 0) else w
  fldSet w F.NOC_DOM_PENDING (if k < 0x80 then tagsOut s (domainNode k) false else 0)

/-- HBM_STATUS with OUT, the transactions in flight at the stack (R144). -/
def hbmWord (s : State) (d : Nat) : Word := fldSet (rget s (Reg.HBM_STATUS d)) F.HBM_STATUS_OUT (min (stackOut s d) 1024)

/-- A transactor slot names the queue while it is not enabled for it (R485). -/
def qUnbound (s : State) (q : Nat) : Bool :=
  (List.range 32).any fun i =>
    decide (slotMode s i = 2) &&
    ((decide (ctlRxq s.frames i = q) && !dmaServes s q 2 0) || (decide (ctlTxq s.frames i = q) && !dmaServes s q 2 1))

/-- TIME_x_ADJ: the slew left in ns, away from 0. -/
def adjWord (x : Int) : Word :=
  let n : Int := ((x.natAbs + 2 ^ 28 - 1) / 2 ^ 28 : Nat)
  BitVec.ofInt 32 (if x < 0 then -n else n)

/-- TIME_SPLIT: A − B in ns, saturating. -/
def splitWord (s : State) : Word := BitVec.ofInt 32 (max (-(2 ^ 31 - 1)) (min (splitNs s) (2 ^ 31 - 1)))

/-- A word of a stitch translation: two entries (R366). -/
def translationWord (s : State) (p o : Nat) : Word :=
  BitVec.ofNat 32 (imageStitch s p (o / 2) + imageStitch s p (o / 2 + 1) * 65536)

/-! ## Reads -/

/-- A 64-bit value behind a pair: the LO register captures, the HI register answers what was captured. -/
def pairRead (s : State) (lo a v : Nat) : State × Word := if a = lo then captureHi s (lo + 4) v else (s, readHi s a)

/-- A read by the Access codes: the value, and read-clear fields cleared. -/
def plainRead (s : State) (a : Nat) : State × Word :=
  match regDesc a with
  | some d => (clearRead s a, readWord d (rget s a))
  | none => (s, 0)

/-- A read in the COL_ window. -/
def colRead (s : State) (src : RegBy) (a : Nat) : State × Word :=
  let o := winOff a
  if o = 0 then (s, leaseWord s)
  else if o = 4 then (s, selfWord s src)
  else if o = 0x10 ∨ o = 0x14 then
    (s, fldSet (rget s a) F.COL_STATE_LOCKSTEP_FAILS (min (recentFails s ((o - 0x10) / 4)) 7))
  else if o = 0x80 ∨ o = 0x84 then if recoveryOpen s then plainRead s a else (s, 0)
  else if 0x80000 ≤ o then (s, if recoveryOpen s then BitVec.ofNat 32 (memLE s a 4) else 0)
  else plainRead s a

/-- A read in the TIME_ window. -/
def timeRead (s : State) (a : Nat) : State × Word :=
  let o := winOff a
  if o = 0x10 then
    let t := timeCapture s
    (t, rget t Reg.TIME_A_NS)
  else if o = 0x38 then (s, adjWord s.time.slewA)
  else if o = 0x3C then (s, adjWord s.time.slewB)
  else if o = 0x40 then (s, splitWord s)
  else if o = 0x50 then
    let r := plainRead s a
    (r.1, fldSet r.2 F.TIME_TXQ_STATUS_COUNT s.time.txq.length)
  else if 0x60 ≤ o ∧ o ≤ 0x78 ∧ o % 4 = 0 then
    let w := BitVec.ofNat 32 (txqWord s ((o - 0x60) / 4))
    if o = 0x78 then (txqPop s, w) else (s, w)
  else plainRead s a

/-- A read in the NOC_ window. -/
def nocRead (s : State) (a : Nat) : State × Word :=
  let o := winOff a
  if 0x1000 ≤ o ∧ o < 0x1000 + 4 * 0xC1 ∧ o % 4 = 0 then (s, domWord s ((o - 0x1000) / 4))
  else if 0x10000 ≤ o ∧ o < 0x14000 then
    let n := (o - 0x10000) / 0x40
    let j := o % 0x40
    let lo := a - j % 8
    if j = 0x28 then (s, fldSet (rget s a) F.NOC_ST_OUT_OUT (tagsOut s n true))
    else if 0x10 ≤ j ∧ j < 0x28 then pairRead s lo a ((rget s lo).toNat + (rget s (lo + 4)).toNat * 2 ^ 32)
    else plainRead s a
  else plainRead s a

/-- A read in the ACQ_ window (R343, R366). -/
def acqRead (s : State) (a : Nat) : State × Word :=
  let o := winOff a
  if 0x1000 ≤ o ∧ o < 0x2000 then unitRead s ((o - 0x1000) / 0x100) (o % 0x100)
  else if 0x20000 ≤ o ∧ o < 0x40000 then (s, BitVec.ofNat 32 (memLE s a 4))
  else if 0x80000 ≤ o ∧ o < 0xC0000 then (s, translationWord s ((o - 0x80000) / 0x4000) (o % 0x4000))
  else plainRead s a

/-- A read in the window of a die: BP_, WRP_, BRG_ or DMEM_. -/
def dieRead (s : State) (a : Nat) : State × Word :=
  let n := winOf a
  let o := winOff a
  let d := n % 4
  if n < 0x24 then
    if o = 4 then (s, dieSum s d Reg.BP_SPLIT_CNT)
    else if 0x100 ≤ o ∧ o < 0x180 then pairRead s (a - a % 8) a (getPart s ((o - 0x100) / 8)).completed
    else plainRead s a
  else if n < 0x28 then
    if o = 4 then (s, faultSum s d)
    else if o = 8 then (s, dieSum s d Reg.WRP_BP_CNT)
    else plainRead s a
  else if n < 0x2C then plainRead s a
  else if o = 4 then (s, fldSet (rget s a) F.DMEM_STATUS_IDLE (if dieIdle s d then 1 else 0))
  else if o = 0xC then
    (s, BitVec.ofNat 32 (((List.range 16).filter fun p => partIdle s p d).map fun p => 2 ^ p).sum)
  else if 0x14 ≤ o ∧ o < 0x24 then (s, descReadWord s d ((o - 0x14) / 4))
  else plainRead s a

/-- A word read in BAR0 (R35). -/
def bar0Read (s : State) (src : RegBy) (a : Nat) : State × Word :=
  let n := winOf a
  if n = 0 then colRead s src a
  else if n = 4 then timeRead s a
  else if n = 6 then if winOff a = 0 then (s, lngWord s) else plainRead s a
  else if n = 9 then
    if winOff a < 0x40000 ∧ winOff a % 0x1000 = 0x100 then
      (s, fldSet (rget s a) F.MBX_STATUS_AGE_MS (mbxAge s (winOff a / 0x1000)))
    else plainRead s a
  else if n = 0xA then nocRead s a
  else if n = 0xD then acqRead s a
  else if 0x10 ≤ n ∧ n < 0x14 ∧ winOff a = 0 then (s, hbmWord s (n - 0x10))
  else if 0x14 ≤ n ∧ n < 0x18 then
    let port := (n - 0x14) * 4 + winOff a / 0x40000
    if winOff a % 0x40000 = 0x44 then pairRead s a a (getPort s port).done
    else if winOff a % 0x40000 = 0x48 then (s, readHi s a)
    else plainRead s a
  else if 0x20 ≤ n ∧ n < 0x30 then dieRead s a
  else plainRead s a

/-- A word read at a register address: the state after the read, and the word. -/
def regRead (s : State) (src : RegBy) (a : Nat) : State × Word :=
  if inBar0 a then bar0Read s src a
  else
    match dmaqAt a with
    | some (q, o) =>
      if o = 0x14 then (s, fldSet (rget s a) F.DMAQ_STATUS_UNBOUND (if qUnbound s q then 1 else 0)) else plainRead s a
    | none => plainRead s a

/-! ## Writes -/

/-- A Collar access as the Collar registers see it. -/
def colBy (src : RegBy) : ColBy :=
  match src with
  | .col n => if n.val = 0 then .a else .b
  | _ => .other

/-- A write of a cluster register (R76, R96, R74, R124). -/
def clusterWrite (s : State) (c : ClusterId) (o a : Nat) (v : Word) : State :=
  if o = 0 then if fldGet v F.BP_CL_CTRL_CLRCNT = 1 then clearCounts s c else s
  else if o = 8 then sweepLenWrite s c v
  else if o = 0xC then spareMapWrite s c v
  else if o = 0x1C then if fldGet v F.BP_STALL_CLR_CLR = 1 then clearStalls s c else s
  else if 0x100 ≤ o ∧ o < 0x180 ∧ o % 4 = 0 then ptrBaseWrite s c ((o - 0x100) / 4) v
  else if o = 0x400 then if fldGet v F.WRP_CL_CTRL_CLR = 1 then wrpClear s c else s
  else plainWrite s a v

/-- A write in a BRG_ or DMEM_ window (R127, R139, R148, R151). -/
def dieWrite (s : State) (a : Nat) (v : Word) : State :=
  let n := winOf a
  let o := winOff a
  let d := n % 4
  if 0x28 ≤ n ∧ n < 0x2C then
    let i := o / 0x10000
    let r := o % 0x10000
    if 0x100 ≤ r ∧ r < 0x300 ∧ r % 4 = 0 ∧ bridgeOffset d o = true then
      spareWrite s d i (r % 0x100 / 4) (decide (r < 0x200)) v
    else plainWrite s a v
  else if 0x2C ≤ n then
    if o = 8 then if fldGet v F.DMEM_CTRL_CLRCNT = 1 then dmemClear s d else s
    else if o = 0x20 then descCommit s d v
    else if 0x14 ≤ o ∧ o < 0x20 ∧ o % 4 = 0 then descStage s d ((o - 0x14) / 4) v
    else if o = 0x60 then
      let s := if fldGet v F.DMEM_FILL_CTRL_DONE = 1 then fset s a F.DMEM_FILL_CTRL_DONE 0 else s
      if fldGet v F.DMEM_FILL_CTRL_GO = 1 then fillGo s d else s
    else plainWrite s a v
  else plainWrite s a v

/-- A write of SEAM_CTRL (R204, R214). -/
def seamCtrlWrite (s : State) (i : Nat) (v : Word) : State :=
  let s := if fldGet v F.SEAM_CTRL_CLRCNT = 1 then seamClear s i else s
  let s := seamEnWrite s i (decide (fldGet v F.SEAM_CTRL_EN = 1))
  if fldGet v F.SEAM_CTRL_RETRAIN = 1 then seamRetrain s i else s

/-- A write in the NOC_ window (R310, R312, R313, R317). -/
def nocWrite (s : State) (a : Nat) (v : Word) : State :=
  let o := winOff a
  if o = 0 then
    let s := if fldGet v F.NOC_CTRL_CLRERR = 1 then nocClrErr s else s
    if fldGet v F.NOC_CTRL_CLRSTAT = 1 then nocClrStat s else s
  else if o = 8 then nocTimeoutWrite s (fldGet v F.NOC_TIMEOUT_US)
  else if o = 0xC then
    if fldGet v F.NOC_RT_SWAP_GO = 1 then rtSwap s (fldGet v F.NOC_RT_SWAP_ROUTER)
    else fset s a F.NOC_RT_SWAP_ROUTER (fldGet v F.NOC_RT_SWAP_ROUTER)
  else if 0x1000 ≤ o ∧ o < 0x1000 + 4 * 0xC1 ∧ o % 4 = 0 then
    let k := (o - 0x1000) / 4
    let s := if fldGet v F.NOC_DOM_REFUSED = 1 then fset s a F.NOC_DOM_REFUSED 0 else s
    if fldGet v F.NOC_DOM_SLEEP = 1 then domainSleep s k else domainWake s k
  else if 0x20000 ≤ o ∧ o < 0x20000 + 65 * 0x400 ∧ o % 4 = 0 then
    rtShadowWrite s ((o - 0x20000) / 0x400) (o % 0x400 / 4) v
  else plainWrite s a v

/-- Hem is ARMED or ON, so that it refuses the writes of R337. -/
def hemBusy (s : State) : Bool := decide (hemState s = 1) || decide (hemState s = 2)

/-- WERR of Hem set. -/
def hemWerr (s : State) : State := fset s Reg.HEM_STATUS F.HEM_STATUS_WERR 1

/-- A write of HEM_CTRL (R328): its RW fields, then EN, ARM and SWEV. -/
def hemCtrlWrite (s : State) (v : Word) : State :=
  let s := fsets s Reg.HEM_CTRL
    [(F.HEM_CTRL_REARM, fldGet v F.HEM_CTRL_REARM), (F.HEM_CTRL_DEST, fldGet v F.HEM_CTRL_DEST),
     (F.HEM_CTRL_RATE_EN, fldGet v F.HEM_CTRL_RATE_EN), (F.HEM_CTRL_MARK_EN, fldGet v F.HEM_CTRL_MARK_EN)]
  let s := if fldGet v F.HEM_CTRL_EN = 1 then hemEnable s
    else if fbit s Reg.HEM_CTRL F.HEM_CTRL_EN then hemDisable s else s
  let s := if fldGet v F.HEM_CTRL_ARM = 1 then hemArm s else s
  hemPortState (if fldGet v F.HEM_CTRL_SWEV = 1 then hemWallEvent s 22 else s)

/-- RATE or LANES holds a reserved value. -/
def hemPortBad (v : Word) : Bool :=
  let rate := fldGet v F.HEM_PORT_RATE
  decide (fldGet v F.HEM_PORT_LANES = 3) || (if fldGet v F.HEM_PORT_MODE = 0 then decide (rate = 3) else decide (1 < rate))

/-- A write in the HEM_ window (R337). -/
def hemWrite (s : State) (a : Nat) (v : Word) : State :=
  let o := winOff a
  if o = 0 then hemCtrlWrite s v
  else if (o = 8 ∨ o = 0xC ∨ o = 0x10 ∨ o = 0x20 ∨ o = 0x24 ∨ 0x100 ≤ o) ∧ hemBusy s = true then hemWerr s
  else if o = 8 then if hemPortBad v then hemWerr s else hemPortState (plainWrite s a v)
  else if 0x100 ≤ o then hemRebind (plainWrite s a v)
  else plainWrite s a v

/-- A write in the ACQ_ window (R343, R348, R362, R368). -/
def acqWrite (s : State) (a : Nat) (v : Word) : State :=
  let o := winOff a
  if 0x10 ≤ o ∧ o < 0x20 then if fldGet v F.ACQ_TRIG_IN_FILT = 0 then s else plainWrite s a v
  else if 0x20 ≤ o ∧ o < 0x30 then
    if 2 < fldGet v F.ACQ_TRIG_OUT_SRC ∨ fldGet v F.ACQ_TRIG_OUT_WIDTH = 0 then s else plainWrite s a v
  else if 0x1000 ≤ o ∧ o < 0x2000 then unitWrite s ((o - 0x1000) / 0x100) (o % 0x100) v
  else if 0x20000 ≤ o ∧ o < 0x40000 then unitRamWrite s ((o - 0x20000) / 0x2000) (o % 0x2000) v
  else plainWrite s a v

/-- A write in the COL_ window, by an initiator that R399 admits (R398, R413, R415). -/
def colWrite (s : State) (src : RegBy) (a : Nat) (v : Word) : State :=
  let o := winOff a
  if o = 0 then if fldGet v F.COL_LEASE_YIELD = 1 then yieldLease s (colBy src) else s
  else if o = 4 then
    match src with
    | .col n =>
      let s := if fldGet v F.COL_SELF_RENEW = 1 then renew s n.val else s
      colSelfWrite s n.val (decide (fldGet v F.COL_SELF_REQUEST = 1)) (decide (fldGet v F.COL_SELF_READY = 1))
    | _ => s
  else if o = 0x30 then
    let s := if fldGet v F.COL_FUSE_WERR = 1 then fset s a F.COL_FUSE_WERR 0 else s
    if fldGet v F.COL_FUSE_BLOW = 1 then fuseBlow s (colBy src) else s
  else if o = 0x40 then
    match src with
    | .col n =>
      if holder s ≠ some n.val then s
      else if fldGet v F.COL_BOOT_RESET_OTHER = 1 then
        resetOther s (colBy src) (decide (fldGet v F.COL_BOOT_ONCE_EN = 1)) (fldGet v F.COL_BOOT_ONCE_SLOT)
      else
        fsets s a [(F.COL_BOOT_ONCE_EN, fldGet v F.COL_BOOT_ONCE_EN), (F.COL_BOOT_ONCE_SLOT, fldGet v F.COL_BOOT_ONCE_SLOT)]
    | _ => s
  else if o = 0x80 then recoveryWrite s (fldGet v F.COL_RECOVERY_LEN16) (fldGet v F.COL_RECOVERY_INDEX)
  else if o = 0x84 then if recoveryOpen s then plainWrite s a v else s
  else if 0x80000 ≤ o then if recoveryOpen s then setMemLE s a 4 v.toNat else s
  else plainWrite s a v

/-- A write of SNS_CAL (R404). -/
def snsWrite (s : State) (a : Nat) (v : Word) : State :=
  if winOff a = 0x300 then
    let s := if fldGet v F.SNS_CAL_WERR = 1 then fset s a F.SNS_CAL_WERR 0 else s
    if fldGet v F.SNS_CAL_GO = 1 then
      snsCal s (fldGet v F.SNS_CAL_KIND) (fldGet v F.SNS_CAL_DIE) (fldGet v F.SNS_CAL_SENSOR)
    else
      fsets s a [(F.SNS_CAL_KIND, fldGet v F.SNS_CAL_KIND), (F.SNS_CAL_DIE, fldGet v F.SNS_CAL_DIE),
        (F.SNS_CAL_SENSOR, fldGet v F.SNS_CAL_SENSOR)]
  else plainWrite s a v

/-- A write in the PWR_ window (R508, R511). -/
def pwrWrite (s : State) (a : Nat) (v : Word) : State :=
  let o := winOff a
  if o = 4 then vinWarnWrite s (fldGet v F.PWR_VIN_WARN_MV)
  else if 0x10 ≤ o ∧ o < 0x24 ∧ o % 4 = 0 then vcoreWrite s ((o - 0x10) / 4) (fldGet v F.PWR_VCORE_TARGET)
  else if 0x30 ≤ o ∧ o < 0x40 ∧ o % 4 = 0 then creditWrite s ((o - 0x30) / 4) (fldGet v F.PWR_CREDIT_REFILL)
  else plainWrite s a v

/-- A write of TIME_ALARM_k_CTRL: while ARMED only ARMED and the W1C bits are taken; ACTION 5 to 7 is refused (R476). -/
def alarmCtrlWrite (s : State) (k a : Nat) (v : Word) : State :=
  let same := fldGet v F.TIME_ALARM_CTRL_DOMAIN = fget s a F.TIME_ALARM_CTRL_DOMAIN ∧
    fldGet v F.TIME_ALARM_CTRL_ACTION = fget s a F.TIME_ALARM_CTRL_ACTION ∧
    fldGet v F.TIME_ALARM_CTRL_TARGET = fget s a F.TIME_ALARM_CTRL_TARGET
  if alarmArmed s k then
    let s := if same then s else timeWerr s
    let w := fldSet (fldSet (fldSet v F.TIME_ALARM_CTRL_DOMAIN (fget s a F.TIME_ALARM_CTRL_DOMAIN))
      F.TIME_ALARM_CTRL_ACTION (fget s a F.TIME_ALARM_CTRL_ACTION)) F.TIME_ALARM_CTRL_TARGET (fget s a F.TIME_ALARM_CTRL_TARGET)
    showAlarm (plainWrite s a w) k
  else if 4 < fldGet v F.TIME_ALARM_CTRL_ACTION then timeWerr s
  else showAlarm (plainWrite s a v) k

/-- A write in the TIME_ window (R463, R464, R476). -/
def timeWrite (s : State) (a : Nat) (v : Word) : State :=
  let o := winOff a
  if o = 0 then
    let s := if fldGet v F.TIME_CTRL_WERR = 1 then fset s a F.TIME_CTRL_WERR 0 else s
    let s := if fldGet v F.TIME_CTRL_SET_A = 1 then stepToSet s .a else s
    if fldGet v F.TIME_CTRL_SET_B = 1 then stepToSet s .b else s
  else if o = 4 then if 999999999 < v.toNat then timeWerr s else rset s a v
  else if o = 0x30 then incWrite s .a v.toNat
  else if o = 0x34 then incWrite s .b v.toNat
  else if o = 0x38 then slewOver (setSlew s .a (v.toInt * 2 ^ 28)) .a
  else if o = 0x3C then setSlew s .b (v.toInt * 2 ^ 28)
  else if 0x100 ≤ o ∧ o < 0x200 then
    let k := (o - 0x100) / 0x20
    if o % 0x20 = 0 then alarmCtrlWrite s k a v else if alarmArmed s k then timeWerr s else plainWrite s a v
  else plainWrite s a v

/-- The side of a channel that an initiator is on (R492). -/
def mbxSide (src : RegBy) : MbxSide :=
  match src with
  | .col _ => .module
  | _ => .host

/-- A doorbell register written: its own side clears bits, the other side sets bits 3 to 31 (R497). -/
def dbWrite (s : State) (c : Nat) (dst side : MbxSide) (v : Word) : State :=
  if side = dst then dbClear s c dst v else dbSet s c dst (v &&& 0xFFFFFFF8#32)

/-- A CTRL register of a direction written: ACK first, then POST, else COUNT_M1 alone (R495, R496). -/
def mbxCtrlWrite (s : State) (c : Nat) (d : MbxDir) (v : Word) (side : MbxSide) : State :=
  let s := if fldGet v F.MBX_H2M_CTRL_ACK = 1 then mbxAck s c d side else s
  if fldGet v F.MBX_H2M_CTRL_POST = 1 then mbxPost s c d (fldGet v F.MBX_H2M_CTRL_COUNT_M1) side
  else if fldGet v F.MBX_H2M_CTRL_ACK = 1 then s
  else mbxCountWrite s c d (fldGet v F.MBX_H2M_CTRL_COUNT_M1) side

/-- A lock register of a direction written (R492, R493). -/
def mbxLockWrite (s : State) (c : Nat) (d : MbxDir) (v : Word) (side : MbxSide) : State :=
  let token := fldGet v F.MBX_H2M_LOCK_TOKEN
  if fldGet v F.MBX_H2M_LOCK_RELEASE = 1 then mbxRelease s c d token side else mbxClaim s c d token side

/-- A write of a channel page (R492 to R497). A vector outside the function's table is refused (R482). -/
def mbxWrite (s : State) (src : RegBy) (a : Nat) (v : Word) : State :=
  let c := winOff a / 0x1000
  let o := winOff a % 0x1000
  let side := mbxSide src
  if 64 ≤ c then s
  else if o < 0x40 then mbxDataWrite s c .h2m (o / 4) v side
  else if o = 0x40 then mbxCtrlWrite s c .h2m v side
  else if o = 0x44 then mbxLockWrite s c .h2m v side
  else if 0x80 ≤ o ∧ o < 0xC0 then mbxDataWrite s c .m2h ((o - 0x80) / 4) v side
  else if o = 0xC0 then mbxCtrlWrite s c .m2h v side
  else if o = 0xC4 then mbxLockWrite s c .m2h v side
  else if o = 0x104 then dbWrite s c .host side v
  else if o = 0x108 then dbMaskWrite s c .host v
  else if o = 0x10C then dbWrite s c .module side v
  else if o = 0x110 then dbMaskWrite s c .module v
  else if o = 0x118 then if chanFn c ≠ 0 ∧ 15 < fldGet v F.MBX_VEC_VEC then s else plainWrite s a v
  else plainWrite s a v

/-- A write in the PCI_ window (R481). -/
def pciWrite (s : State) (a : Nat) (v : Word) (idWord : Nat) : State :=
  let o := winOff a
  if 0x100 ≤ o ∧ o < 0x140 ∧ o % 8 = 0 then peerWrite s ((o - 0x100) / 8) v idWord else plainWrite s a v

/-- A word written in BAR0 (R35). -/
def bar0Write (s : State) (src : RegBy) (a : Nat) (v : Word) (x : RegSide) : State :=
  let n := winOf a
  if n = 0 then colWrite s src a v
  else if n = 1 then snsWrite s a v
  else if n = 3 then pwrWrite s a v
  else if n = 4 then timeWrite s a v
  else if n = 6 then
    let o := winOff a
    if 0x100 ≤ o ∧ o < 0x160 ∧ o % 0x10 = 0 then scrubCfgWrite s ((o - 0x100) / 0x10) v
    else if 0x100 ≤ o ∧ o < 0x160 ∧ o % 0x10 = 4 then scrubRangeWrite s ((o - 0x100) / 0x10) v
    else plainWrite s a v
  else if n = 8 then pciWrite s a v x.idWord.toNat
  else if n = 9 then mbxWrite s src a v
  else if n = 0xA then nocWrite s a v
  else if n = 0xB then
    if winOff a = 8 then setRelease s (decide (fldGet v F.CFG_DONE_CTRL_RELEASE = 1)) else plainWrite s a v
  else if n = 0xC then hemWrite s a v
  else if n = 0xD then acqWrite s a v
  else if 0x14 ≤ n ∧ n < 0x18 then
    if winOff a % 0x40000 = 0 then seamCtrlWrite s ((n - 0x14) * 4 + winOff a / 0x40000) v else plainWrite s a v
  else if n = 0x18 then
    if winOff a = 4 then (if fldGet v F.CUFF_CTRL_CLRCNT = 1 then cuffClear s else s) else plainWrite s a v
  else if 0x20 ≤ n ∧ n < 0x30 then dieWrite s a v
  else plainWrite s a v

/-- A register of a DMA queue written through function `fn` (R485, R486, R491). -/
def dmaqWrite (s : State) (q o a fn : Nat) (v : Word) : State :=
  if o = 0 then dmaBaseWrite s q false v
  else if o = 4 then dmaBaseWrite s q true v
  else if o = 8 then dmaCfgWrite s q fn v
  else if o = 0xC then dmaTailWrite s q (fldGet v F.DMAQ_TAIL_TAIL)
  else plainWrite s a v

/-- A register of a mirror channel written: COL_OD_CMD as a command; COL_OD_OFFSET and COL_OD_LEN not while BUSY (R442). -/
def mirrorWrite (s : State) (f c o a : Nat) (v : Word) (x : Crypto) : State :=
  let st := Reg.COL_OD_STATUS c + mirrorOf f
  if !mirrorOpen s f then s
  else if o = 0 then mirrorCmd s f c v x
  else if (o = 4 ∨ o = 8) ∧ fbit s st F.COL_OD_STATUS_BUSY = true then fset s st F.COL_OD_STATUS_WERR 1
  else plainWrite s a v

/-- The function through which an initiator writes (R482). -/
def fnOf (src : RegBy) : Nat :=
  match src with
  | .host f => f.val
  | _ => 0

/-- A word written at a register address, by an initiator that R399 admits. -/
def regWrite (s : State) (src : RegBy) (a : Nat) (v : Word) (x : RegSide) : State :=
  if inBar0 a then bar0Write s src a v x
  else
    match clusterAt a with
    | some (c, o) => if 0x3F0000 ≤ o then clusterWrite s c (o - 0x3F0000) a v else s
    | none =>
      match dmaqAt a with
      | some (q, o) => dmaqWrite s q o a (fnOf src) v
      | none =>
        match mirrorAt a with
        | some (f, c, o) => mirrorWrite s f c o a v x.crypto
        | none => s

/-! ## Whether an access reaches its register -/

/-- The register's block has no power, or its domain sleeps (R33, R309, R317). -/
def blockAsleep (s : State) (a : Nat) : Bool :=
  match nocDest a with
  | some n => decide (n < 0x80) && (!s.power.weaveOn || fenced s n)
  | none => false

/-- R399 discards a write: the controller does not hold the lease, and the register is not its own COL_SELF. -/
def observerWrite (s : State) (src : RegBy) (a : Nat) : Option Nat :=
  match src with
  | .col n => if holder s ≠ some n.val ∧ a ≠ Reg.COL_SELF then some n.val else none
  | _ => none

/-- A register read: the word in the reply, all ones where the block does not answer (R33). -/
def readRegister (s : State) (src : RegBy) (a : Nat) : State :=
  if blockAsleep s a then { answer s Code.DOMAIN_ASLEEP with reply := leBytes 4 0xFFFFFFFF }
  else
    let r := regRead s src a
    { answer r.1 0 with reply := leBytes 4 r.2.toNat }

/-- A register write (R33, R399). -/
def writeRegister (s : State) (src : RegBy) (a : Nat) (v : Word) (x : RegSide) : State :=
  match observerWrite s src a with
  | some n => answer (refuseObserver s n) Code.ACCESS_DENIED
  | none => if blockAsleep s a then answer s Code.DOMAIN_ASLEEP else answer (regWrite s src a v x) 0

/-! ## The commands -/

def execRegisterWrite (a : BitVec 49) (v : Word) (src : RegBy) (x : RegSide) (s : State) : Host.Outcome State Fault Refusal :=
  .next (writeRegister s src a.toNat v x)
def execRcRead (a : BitVec 49) (src : RegBy) (s : State) : Host.Outcome State Fault Refusal :=
  .next (readRegister s src a.toNat)
def execLoCaptureRead (a : BitVec 49) (src : RegBy) (s : State) : Host.Outcome State Fault Refusal :=
  .next (readRegister s src a.toNat)

end Sys2Proof.Machine
end

