-- ==== Sys2Proof/Machine/NocServe.lean ====
section
/-! DEFINITION. Serving the requests of the packet network (R302, R303, R309): the checks of a target in the order of R309,
memory stores, HBM lines, registers and host memory, and the answer. -/

namespace Sys2Proof.Machine

/-! ## The target of a request -/

/-- LEN of a request. -/
def reqLen (q : NocPacket) : Nat := q.lenM1 + 1

/-- A Collar SRAM address: the controller and the offset (R27). -/
def sramAt (a : Nat) : Option (Nat × Nat) :=
  if bar0 + 0x4000000 ≤ a ∧ a < bar0 + 0x4400000 then
    some ((a - bar0 - 0x4000000) / 0x200000, (a - bar0 - 0x4000000) % 0x200000)
  else none

/-- An address of the message store (R394). -/
def inMessageStore (a : Nat) : Bool := decide (messageStore ≤ a) && decide (a < messageStore + 0x300000)

/-! ## The checks of a target (R303, R309) -/

/-- The flit count of R302. -/
def flitsOf (opc len : Nat) : Nat := if opc = opRd then 1 else if opc = opWrm then 3 else 1 + (len + 63) / 64

/-- NOC_MALFORMED: reserved bits, the flit count, or a rule of R303 broken. -/
def malformed (q : NocPacket) : Bool :=
  let n := reqLen q
  q.reserved || decide (q.flits ≠ flitsOf q.opc n) || decide (4096 < q.addr % 4096 + n) ||
  (decide (q.opc = opWrm) && (decide (q.addr % 64 ≠ 0) || decide (n ≠ 64))) ||
  (isRegister q.addr && decide (n ≤ 8) && !((decide (n = 4) || decide (n = 8)) && decide (q.addr % n = 0)))

/-- A node of a Collar controller: its number. -/
def nodeCol (n : Nat) : Option Nat := if n = 0x81 then some 0 else if n = 0x82 then some 1 else none

/-- A store that no controller has a write path to (R401): state memory, data memory, word file, Pocket, design-memory parts. -/
def designStore (s : State) (a : Nat) : Bool :=
  (pocketAt a).isSome ||
  (match clusterAt a with
   | some (_, o) => decide (0x300000 ≤ o) && decide (o < 0x3F0000)
   | none => false) ||
  (isHbm a && (List.range 16).any fun p => decide (partState s p ≠ 0) && inDmPart s p a)

/-- A write to the message store from another initiator than the lease holder (R394). -/
def notHolder (s : State) (src : Nat) : Bool :=
  match nodeCol src with
  | some n => decide (holder s ≠ some n)
  | none => true

/-- A write to a controller's SRAM that only another may make (R393). -/
def sramDenied (src a : Nat) : Bool :=
  match sramAt a, nodeCol src with
  | some (k, o), some n => decide (n ≠ k) && decide (o < 0x1C0000)
  | some _, none => true
  | none, _ => false

/-- Who a request's register access comes from (R399, R482). -/
def nocBy (q : NocPacket) : RegBy :=
  match nodeCol q.src with
  | some n => .col ⟨n % 2, Nat.mod_lt _ (by decide)⟩
  | none =>
    if q.src = 0x80 then .host (if q.sys then 0 else ⟨(q.part + 1) % 17, Nat.mod_lt _ (by decide)⟩) else .engine

/-- A write that R399 refuses: the observer's to a BAR0 window. -/
def nocObserver (s : State) (q : NocPacket) : Option Nat :=
  if inBar0 q.addr then observerWrite s (nocBy q) q.addr else none

/-- ACCESS_DENIED: the state with what the refusal leaves (R32, R393, R394, R399, R401), or none. -/
def denied (s : State) (q : NocPacket) : Option State :=
  let write := decide (q.opc ≠ opRd)
  if !q.sys && outsideCarve s q.part q.addr then some (logRecord s 7 4 q.part Code.ACCESS_DENIED q.addr [])
  else if write && inMessageStore q.addr && notHolder s q.src then
    some (match nodeCol q.src with
      | some n => refuseObserver s n
      | none => fadd s Reg.COL_REFUSED_CNT F.COL_REFUSED_CNT_COUNT 1)
  else if write && sramDenied q.src q.addr then some s
  else if write && (nodeCol q.src).isSome && designStore s q.addr then some s
  else if write then (nocObserver s q).map (refuseObserver s)
  else none

/-! ## Back-door conditions (R56, R150, R380) -/

/-- The partition that owns a Pocket bank. -/
def bankOwner (s : State) (d b : Nat) : Option Nat :=
  (List.range 16).find? fun p => decide (partState s p ≠ 0) && bankInCarve s p d b

/-- Partition `p` is stopped at a sweep boundary with none of its design-memory operations in flight (R150). -/
def partStill (s : State) (p : Nat) : Bool := !partRunning s p && (partDies s p).all fun d => partIdle s p d

/-- An access by back door, against those of the block nodes, the loader engine and the Lining engine. -/
def byBackDoor (src : Nat) : Bool := decide (0x80 ≤ src) && decide (src ≠ 0x83) && decide (src ≠ 0x87)

/-- The partition whose Pocket bank or design-memory part an address lies in. -/
def memOwner (s : State) (a : Nat) : Option Nat :=
  match pocketAt a with
  | some (d, b) => bankOwner s d b
  | none =>
    if isHbm a then (List.range 16).find? fun p => decide (partState s p ≠ 0) && inDmPart s p a else none

/-- R150 turns the access away with NOT_IDLE. -/
def memBusy (s : State) (src a : Nat) : Bool :=
  byBackDoor src && (match memOwner s a with
    | some p => !partStill s p
    | none => false)

/-- R56 turns a write to state memory away with NOT_IDLE. -/
def stateBusy (s : State) (src a : Nat) : Bool :=
  decide (src ≠ 0x87) && (match clusterAt a with
    | some (c, o) => decide (0x300000 ≤ o) && decide (o < 0x302000) && (match partOf s c with
      | some p => partRunning s p
      | none => false)
    | none => false)

/-- The partition whose state, data memory, word file or design memory an address lies in. -/
def storeOwner (s : State) (a : Nat) : Option Nat :=
  match clusterAt a with
  | some (c, o) => if 0x300000 ≤ o ∧ o < 0x3F0000 then partOf s c else none
  | none => memOwner s a

/-- A back-door write asks for a checkpoint before the gate reopens (R380). -/
def markBackDoor (s : State) (src a : Nat) : State :=
  if byBackDoor src then
    match storeOwner s a with
    | some p => clearStoppedRun (setPart s p { getPart s p with ckptGate := some (getPart s p).completed }) p
    | none => s
  else s

/-! ## Bytes -/

/-- The data of a write, one byte for each of its LEN. -/
def reqData (q : NocPacket) : List Byte := (q.data ++ List.replicate (reqLen q) 0).take (reqLen q)

/-- The bytes that a write leaves at its address: its data, under the mask in a WRM. -/
def newBytes (s : State) (q : NocPacket) : List Byte :=
  if q.opc = opWrm then
    (List.range 64).map fun i =>
      let m := q.mask.getD i 0
      (memByte s (q.addr + i) &&& ~~~ m) ||| (q.data.getD i 0 &&& m)
  else reqData q

/-- A store that answers at once: read, or written whole. -/
def plainStore (s : State) (q : NocPacket) : State × Nat × List Byte :=
  if q.opc = opRd then (s, 0, memBytes s q.addr (reqLen q))
  else (setMemBytes (markBackDoor s q.src q.addr) q.addr (newBytes s q), 0, [])

/-! ## HBM (R274, R279 to R283, R303, R382) -/

/-- The lines that a request touches, as indices from its first. -/
def reqLines (q : NocPacket) : Nat := (q.addr % 64 + reqLen q + 63) / 64

/-- A write of line `i` of a request reads the line first (R280). -/
def linePartial (q : NocPacket) (i : Nat) : Bool :=
  decide (q.opc ≠ opWr) || decide (lineOf q.addr + 64 * i < q.addr) ||
  decide (q.addr + reqLen q < lineOf q.addr + 64 * i + 64)

/-- Line `i` of a write carried out, after its undo record (R382), in the current line-key generation (R280). -/
def writeLine (s : State) (q : NocPacket) (bs : List Byte) (i : Nat) : State :=
  let lo := max q.addr (lineOf q.addr + 64 * i)
  let hi := min (q.addr + reqLen q) (lineOf q.addr + 64 * i + 64)
  let s := match (List.range 16).find? fun p => decide (partState s p ≠ 0) && inDmPart s p lo with
    | some p => clearStoppedRun (undoAppend s p lo) p
    | none => s
  setMemBytes (noteFresh s lo 1) lo ((bs.drop (lo - q.addr)).take (hi - lo))

/-- An access at an HBM port (R274, R279, R280, R282, R283). -/
def hbmServe (s : State) (q : NocPacket) (e : AccessEvent) : State × Nat × List Byte :=
  if halted s then (s, Code.DOMAIN_ASLEEP, [])
  else if memBusy s q.src q.addr then (s, Code.NOT_IDLE, [])
  else
    let r := readLines s q.addr (reqLen q) (fun i => decide (q.opc = opRd) || linePartial q i) e
    match r.halt with
    | some i => (haltAt r.state q.addr i, Code.INTEGRITY_FAIL, [])
    | none =>
      let code := if r.bad.isEmpty then 0 else Code.HBM_UNCORRECTABLE
      if q.opc = opRd then (r.state, code, if r.bad.isEmpty then memBytes r.state q.addr (reqLen q) else [])
      else
        let bs := newBytes r.state q
        let s := ((List.range (reqLines q)).filter fun i => !r.bad.contains i).foldl (fun s i => writeLine s q bs i)
          (markBackDoor r.state q.src q.addr)
        (s, code, [])

/-! ## Registers and host memory -/

/-- What a register write takes from outside. -/
def eventSide (e : AccessEvent) : RegSide :=
  match e with
  | .peerWord w => { noSide with idWord := w }
  | _ => noSide

/-- An access of 4 or 8 bytes at a register target (R8, R303). -/
def registerServe (s : State) (q : NocPacket) (e : AccessEvent) : State × Nat × List Byte :=
  let two := decide (reqLen q = 8)
  if q.opc = opRd then
    let r := regRead s (nocBy q) q.addr
    if two then
      let t := regRead r.1 (nocBy q) (q.addr + 4)
      (t.1, 0, leBytes 4 r.2.toNat ++ leBytes 4 t.2.toNat)
    else (r.1, 0, leBytes 4 r.2.toNat)
  else
    let bs := reqData q
    let s := regWrite s (nocBy q) q.addr (BitVec.ofNat 32 (leNat (bs.take 4))) (eventSide e)
    (if two then regWrite s (nocBy q) (q.addr + 4) (BitVec.ofNat 32 (leNat (bs.drop 4))) (eventSide e) else s, 0, [])

/-- An outbound request to the host (R27): its answer is the host's. -/
def hostServe (s : State) (q : NocPacket) (e : AccessEvent) : Option (State × Nat × List Byte) :=
  match e with
  | .hostError code => some (s, code.toNat, [])
  | .hostData bs =>
    if q.opc = opRd then some (s, 0, (bs ++ List.replicate (reqLen q) 0).take (reqLen q))
    else some (setMemBytes s q.addr (newBytes s q), 0, [])
  | _ => if q.opc = opRd then none else some (setMemBytes s q.addr (newBytes s q), 0, [])

/-- The access itself, once its checks have passed; none while the host has not answered. -/
def accessServe (s : State) (q : NocPacket) (e : AccessEvent) : Option (State × Nat × List Byte) :=
  if isRegister q.addr then some (registerServe s q e)
  else if isHbm q.addr then some (hbmServe s q e)
  else if isHost q.addr then hostServe s q e
  else if memBusy s q.src q.addr || (decide (q.opc ≠ opRd) && stateBusy s q.src q.addr) then some (s, Code.NOT_IDLE, [])
  else some (plainStore s q)

/-! ## Serving (R309) -/

/-- The outcome of a request at its target, by the order of R309: the state, the code and the data. -/
def targetServe (s : State) (q : NocPacket) (e : AccessEvent) : Option (State × Nat × List Byte) :=
  if malformed q then some (s, Code.NOC_MALFORMED, [])
  else if !addrMapped q.addr then some (s, Code.UNMAPPED, [])
  else
    match denied s q with
    | some t => some (t, Code.ACCESS_DENIED, [])
    | none => if isRegister q.addr && decide (8 < reqLen q) then some (s, Code.LENGTH_EXCEEDS_BUFFER, []) else accessServe s q e

/-- The operation of the answer that completes a request without error. -/
def goodOpc (opc : Nat) : Nat := if opc = opRd then opRdresp else opWrack

/-- The answer put into the network at the target's node. -/
def sendAnswer (q : NocPacket) (r : State × Nat × List Byte) : State :=
  let send := fun (t : State) (opc : Nat) =>
    { t with noc := t.noc ++ [nocAnswer q opc r.2.1 false r.2.2 (nodeRouter q.dest) (nodePort q.dest)] }
  if r.2.1 = 0 then send r.1 (goodOpc q.opc)
  else send (captureErr (countCode r.1 r.2.1) false q.src q.dest q.opc r.2.1) opErr

/-- The target has power to answer. -/
def targetPowered (s : State) (n : Nat) : Bool := decide (0x80 ≤ n) || s.power.weaveOn

/-- A request taken at its target: a packet whose FCHK fails is discarded and counted, and a MSG is sunk (R306, R309). -/
def nocServe (s : State) (opc src tag : Nat) (e : AccessEvent) : State :=
  let here := fun (q : NocPacket) => q.atNode && decide (q.opc = opc) && decide (q.src = src) && decide (q.tag = tag)
  match s.noc.find? here with
  | some q =>
    let t := { s with noc := s.noc.eraseP here }
    if !targetPowered s q.dest then s
    else if q.bad then nocCount t Reg.NOC_FCHK_CNT
    else if opc = opMsg then t
    else
      match targetServe t q e with
      | some r => sendAnswer q r
      | none => s
  | none => s

/-- A step in the life of a request. -/
def nocRequest (s : State) (opc : Nat) (r : RequestStep) : State :=
  match r with
  | .issue r => nocIssue s opc r
  | .serve src tag e => nocServe s opc src.toNat tag.val e

/-! ## Design memory's reads and writes at the stack (R143, R279, R282) -/

/-- What follows a design-memory response: the integrity halt where its line's read ended in one, the gate asked again, since the
write may have asked for a checkpoint (R380), and the cluster's waits. -/
def afterOp (s : State) (c : ClusterId) (halt : Option Nat) : State :=
  let s := match halt with
    | some a => integrityHalt s (stackOf a) (lineNo a)
    | none => s
  let s := match partOf s c with
    | some p => clearStoppedRun s p
    | none => s
  review s c

/-! ## The commands -/

def execHbmReturn (c : ClusterId) (key : IssueKey) (r : LineRead) (s : State) : Host.Outcome State Fault Refusal :=
  .next (afterOp (hbmReturn s c key r) c (haltOf s c key false r))
def execHbmWriteAck (c : ClusterId) (key : IssueKey) (r : LineRead) (s : State) : Host.Outcome State Fault Refusal :=
  .next (afterOp (hbmWriteAck s c key r) c (haltOf s c key true r))

def execRd (r : RequestStep) (s : State) : Host.Outcome State Fault Refusal := .next (nocRequest s opRd r)
def execWr (r : RequestStep) (s : State) : Host.Outcome State Fault Refusal := .next (nocRequest s opWr r)
def execWrm (r : RequestStep) (s : State) : Host.Outcome State Fault Refusal := .next (nocRequest s opWrm r)
def execMsg (r : RequestStep) (s : State) : Host.Outcome State Fault Refusal := .next (nocRequest s opMsg r)

end Sys2Proof.Machine
end

