-- ==== Sys2Proof/Machine/HostReq.lean ====
section
/-! DEFINITION. What the host and the peers ask of the block (18): DMA descriptors, inbound memory requests, requests over
mailbox channels, and the PCIe fundamental reset. -/

namespace Sys2Proof.Machine

/-! ## DMA descriptors (R485 to R489) -/

/-- Fields of a descriptor (R487). -/
def descLen (d : DmaDesc) : Nat := d.ctl.toNat % 2 ^ 24 + 1
def descEom (d : DmaDesc) : Bool := d.ctl.getLsbD 24
def descIrq (d : DmaDesc) : Bool := d.ctl.getLsbD 26

/-- A descriptor's reserved fields are not all 0 (R487, R489). -/
def descBadFields (client : Nat) (d : DmaDesc) : Bool :=
  decide (2 ^ 40 ≤ d.addr.toNat) || decide (2 ^ 27 ≤ d.ctl.toNat) || d.ctl.getLsbD 25 || decide (d.rsvd ≠ 0) ||
  (decide (client ≠ 6) && decide (d.moff ≠ 0))

/-- A range of host addresses meets an enabled peer window of 4 MiB (R481, R489). -/
def inPeerWindow (s : State) (addr len : Nat) : Bool :=
  (List.range 8).any fun k =>
    let b := fget s (Reg.PCI_PEER_LO k) F.PCI_PEER_LO_BASE * 2 ^ 18
    fbit s (Reg.PCI_PEER_LO k) F.PCI_PEER_LO_EN && decide (addr < b + 0x400000) && decide (b < addr + len)

/-- The outcome of a descriptor: the state, its code, EOM, the bytes moved, and whether the queue enters error. -/
structure DescOut where
  state  : State
  code   : Nat := 0
  eom    : Bool := false
  actual : Nat := 0
  error  : Bool := false

/-- The bytes that the host's buffer holds for a descriptor. -/
def descBytes (d : DmaDesc) (bytes : List Byte) : List Byte := (bytes ++ List.replicate (descLen d) 0).take (descLen d)

/-- CLIENT 1: bytes for the staging area, which takes those that fit (R253, R255, R489). -/
def descStream (s : State) (p : Nat) (bs : List Byte) : DescOut :=
  if halted s then { state := stageBytes s p bs, code := Code.DOMAIN_ASLEEP }
  else
    let x := getPart s p
    let room := if x.surplus.isEmpty && x.stream.isNone then oget s (Od.STAGE_MIB p) * 2 ^ 20 - x.staged else bs.length
    if bs.length ≤ room then { state := stageBytes s p bs, actual := bs.length }
    else { state := stageBytes s p (bs.take room), code := Code.LENGTH_EXCEEDS_BUFFER, actual := room }

/-- Bytes as 128-bit beats, padded with 0; the last has LAST set (R243, R489). -/
def toBeats (n : Nat) (bs : List Byte) : List (Nat × Bool) :=
  match n with
  | 0 => []
  | n + 1 => (leAt bs 0 16, decide (n = 0)) :: toBeats n (bs.drop 16)

/-- CLIENT 2 toward the module: bytes of a message, delivered at EOM; one that reaches 65,537 bytes is discarded up to its
EOM (R489). -/
def descToPort (s : State) (q : Nat) (d : DmaDesc) (bs : List Byte) : DescOut :=
  let x := getDma s q
  let all := x.message ++ bs
  if x.discard || decide (65536 < all.length) then
    { state := setDma s q { x with message := [], discard := !descEom d }, code := Code.LENGTH_EXCEEDS_BUFFER }
  else if descEom d then
    let s := setDma s q { x with message := [] }
    let beats := sget (fun _ => []) s.fromHost q ++ toBeats ((all.length + 15) / 16) all
    { state := { s with fromHost := sset (fun _ => []) s.fromHost q beats }, actual := bs.length }
  else { state := setDma s q { x with message := all }, actual := bs.length }

/-- CLIENT 5: bytes of a spilled checkpoint; at EOM the object is authenticated sector by sector and restored, or refused whole
(R285, R383). A checkpoint older than the present one also needs the undo log that was spilled with the present one, which its own
restore has left in `undoPrev`. -/
def descRestore (s : State) (q p : Nat) (d : DmaDesc) (bs : List Byte) (req : RestoreRequest) : DescOut :=
  let m := getDma s q
  let all := m.message ++ bs
  if !descEom d then { state := setDma s q { m with message := all }, actual := descLen d }
  else
    let s := setDma s q { m with message := [] }
    let payload := match keyById s req.key.toNat with
      | some k =>
        if k.2.1 = classSector ∧ k.2.2 = p then openObject k.1 req.object.toNat req.epoch.toNat all else none
      | none => none
    match payload with
    | some b =>
      let k := payloadCkpt s p b
      let u := payloadUndo s p b
      let x := getPart u.1 p
      let back := match x.ckptDone with
        | some n => if k.ecycle < n then x.undo ++ x.undoPrev else x.undo
        | none => x.undo
      let s := setPart u.1 p { x with ckpt := some k, ckptDone := some k.ecycle, undo := back }
      let s := restoreCkpt s p x.golden k
      { state := oset (setPart s p { getPart s p with undoPrev := u.2 }) (Od.CKPT_LAST p) k.ecycle, actual := descLen d }
    | none =>
      { state := logRecord s 6 4 p Code.SECTOR_AUTH_FAIL 0 [], code := Code.SECTOR_AUTH_FAIL, actual := descLen d }

/-- A memory copy's range lies in the carve, in one stack (R489). -/
def copyInCarve (s : State) (p a n : Nat) : Bool :=
  isHbm (a + n - 1) && decide (stackOf a = stackOf (a + n - 1)) && decide (partState s p ≠ 0) && inCarve s p a &&
  inCarve s p (a + n - 1)

/-- CLIENT 6: a copy between host memory and the carve (R150, R489). -/
def descCopy (s : State) (p dir : Nat) (d : DmaDesc) (bs : List Byte) (e : AccessEvent) : DescOut :=
  let a := d.moff.toNat
  let n := descLen d
  let dm := inDmPart s p a || inDmPart s p (a + n - 1)
  if !copyInCarve s p a n then { state := s, code := Code.ACCESS_DENIED }
  else if dm && !partStill s p then { state := s, code := Code.NOT_IDLE }
  else
    let s := if dm && decide (dir = 0) then clearStoppedRun (setPart s p { getPart s p with ckptGate := some (getPart s p).completed }) p else s
    let r := hbmServe s
      { opc := if dir = 0 then opWr else opRd, vc := 2, dest := 0, src := 0x86, part := p, sys := false, gen := 0, tag := 0,
        addr := a, lenM1 := n - 1, data := bs } e
    if r.2.1 ≠ 0 then { state := r.1, code := r.2.1 }
    else if dir = 0 then { state := r.1, actual := n }
    else { state := setMemBytes r.1 (hostBase + d.addr.toNat) r.2.2, actual := n }

/-- Toward the host: the head of what waits, at most LEN bytes of it; EOM where that ends a message (R485, R489). -/
def descToHost (s : State) (q : Nat) (d : DmaDesc) : Option DescOut :=
  match hostQueue s q with
  | [] => none
  | m :: rest =>
    let all := decide (m.bytes.length ≤ descLen d)
    let bs := m.bytes.take (descLen d)
    let left := if all then rest else { m with bytes := m.bytes.drop (descLen d) } :: rest
    some { state := setMemBytes { s with toHost := sset (fun _ => []) s.toHost q left } (hostBase + d.addr.toNat) bs,
           eom := all && m.eom, actual := bs.length }

/-- A move whose reads of the module's own areas end well (R274, R279, R282, R489); otherwise the descriptor ends with the code of
the error response. -/
def descRead (s : State) (a n : Nat) (e : AccessEvent) (f : State → DescOut) : DescOut :=
  let r := engineRead s a n e
  if r.2 = 0 then f r.1 else { state := r.1, code := r.2 }

/-- CLIENT 1: the staging area's last line, which the bytes may join in part, is read first (R280). -/
def stageMove (s : State) (p : Nat) (bs : List Byte) (e : AccessEvent) : DescOut :=
  let x := getPart s p
  if halted s || decide (x.staged % 64 = 0) then descStream s p bs
  else descRead s (x.stageAt.getD 0 + x.staged) 1 e fun s => descStream s p bs

/-- A descriptor that has passed its first checks: what its client does with it; none while there is nothing to move, or no
client (R485). -/
def descMove (s : State) (q : Nat) (d : DmaDesc) (bytes : List Byte) (e : AccessEvent) (req : RestoreRequest) : Option DescOut :=
  let p := q / 64
  let dir := fget s (qCfg q) F.DMAQ_CFG_DIR
  let bs := descBytes d bytes
  match qClient s q with
  | 1 => some (stageMove s p bs e)
  | 2 => if dir = 0 then some (descToPort s q d bs) else descToHost s q d
  | 3 => descToHost s q d
  | 4 => descToHost s q d
  | 5 =>
    some (if partRunning s p then { state := s, code := Code.NOT_IDLE }
      else descRead s (getPart s p).ckptAt 64 e fun s => descRestore s q p d bs req)
  | 6 => some (descCopy s p dir d bs e)
  | _ => none

/-- The checks of R489 in order, then the move. -/
def descRun (s : State) (q : Nat) (d : DmaDesc) (bytes : List Byte) (e : AccessEvent)
    (req : RestoreRequest) : Option DescOut :=
  if descBadFields (qClient s q) d then some { state := s, code := Code.VALUE_INVALID, error := true }
  else if decide (qClient s q ≠ 6) && inPeerWindow s d.addr.toNat (descLen d) then
    some { state := s, code := Code.ACCESS_DENIED, error := true }
  else
    match e with
    | .hostError _ => some { state := s, code := Code.DMA_HOST_ERROR, error := true }
    | _ => descMove s q d bytes e req

/-- DMA_DESCRIPTOR: the running queue takes its next pending descriptor (R486, R488, R489). Its write-back is to come. -/
def dmaDescriptor (s : State) (q : Nat) (d : DmaDesc) (bytes : List Byte) (e : AccessEvent)
    (req : RestoreRequest) : State :=
  if qState s q ≠ 1 ∨ (getDma s q).current.isSome ∨ dmaPending s q = 0 then s
  else
    match descRun s q d bytes e req with
    | some r =>
      let i := fget s (qHead q) F.DMAQ_HEAD_HEAD % 2 ^ fget s (qCfg q) F.DMAQ_CFG_RING_LOG2
      setDma r.state q { getDma r.state q with current := some ⟨i, r.code, r.eom, r.actual, descIrq d, r.error⟩ }
    | none => s

/-! ## Inbound memory requests (R34, R441, R479, R481, R483) -/

/-- The identity page of BAR4 (R483). -/
def idPage : Nat := 0x3FF000

/-- A requester ID of an enabled peer window (R481). -/
def isPeer (s : State) (f : PcieFrom) : Bool :=
  match f with
  | .root => false
  | .rid r => (List.range 8).any fun k =>
      fbit s (Reg.PCI_PEER_LO k) F.PCI_PEER_LO_EN && decide (fget s (Reg.PCI_PEER_HI k) F.PCI_PEER_HI_RID = r.toNat)

/-- The offset lies in the identity page, or in a channel page of 56 to 63. -/
def inIdPage (off : Nat) : Bool := decide (idPage ≤ off) && decide (off < idPage + 0x1000)
def inPeerPages (off : Nat) : Bool := decide (0x138000 ≤ off) && decide (off < 0x140000)

/-- A request that the endpoint answers with Unsupported Request (R34, R479, R481). -/
def unsupported (s : State) (r : MemRequest) : Bool :=
  let off := r.off.toNat
  let idRead := decide (r.bar = .bar4) && inIdPage off && r.data.isNone
  let fnBad := decide (r.fn ≠ 0) && (decide (partState s (r.fn.val - 1) ≠ 2) || decide (r.bar = .bar0))
  fnBad || (match r.src with
    | .root => false
    | .rid _ => !idRead && !(isPeer s r.src && decide (r.fn = 0) && decide (r.bar = .bar4) && inPeerPages off))

/-- The register that a BAR4 offset names to function `fn`, or none where nothing responds (R483). -/
def bar4Reg (fn off : Nat) : Option Nat :=
  if off < 0x100000 then
    if fn = 0 ∨ off / 0x10000 = fn - 1 then some (dmaqBase + off) else none
  else if off < 0x140000 then
    let c := (off - 0x100000) / 0x1000
    if fn = 0 ∨ chanPart c = some (fn - 1) then some (bar0 + 0x900000 + (off - 0x100000)) else none
  else none

/-- The length of a request. -/
def reqBytes (r : MemRequest) : Nat :=
  match r.data with
  | some bs => bs.length
  | none => r.len.toNat

/-- The code with which the internal request of a register access ends, or 0 (R303, R309, R479): `err` is an error response
that the network gives. -/
def regCode (s : State) (a n : Nat) (err : Option (BitVec 32)) : Nat :=
  if n = 0 ∨ (n ≤ 8 ∧ ¬ ((n = 4 ∨ n = 8) ∧ a % n = 0)) then Code.NOC_MALFORMED
  else if 8 < n then Code.LENGTH_EXCEEDS_BUFFER
  else
    match err with
    | some c => c.toNat
    | none => if blockAsleep s a then Code.DOMAIN_ASLEEP else 0

/-- Registers read: one word, or two in turn. -/
def hostRead (s : State) (by_ : RegBy) (a n : Nat) : State × List Byte :=
  let r := regRead s by_ a
  if n = 8 then
    let t := regRead r.1 by_ (a + 4)
    (t.1, leBytes 4 r.2.toNat ++ leBytes 4 t.2.toNat)
  else (r.1, leBytes 4 r.2.toNat)

/-- Registers written: one word, or two in turn. -/
def hostWrite (s : State) (by_ : RegBy) (a : Nat) (bs : List Byte) (x : RegSide) : State :=
  let t := regWrite s by_ a (BitVec.ofNat 32 (leNat (bs.take 4))) x
  if bs.length = 8 then regWrite t by_ (a + 4) (BitVec.ofNat 32 (leNat (bs.drop 4))) x else t

/-- A completion with data. -/
def complete (s : State) (code : Nat) (bs : List Byte) : State := { answer s code with reply := bs, pcieUr := false }

/-- An access to registers through BAR0 or BAR4; `bar` as PCI_HOSTERR shows it (R33, R479). -/
def hostRegs (s : State) (r : MemRequest) (bar a : Nat) (x : RegSide) (err : Option (BitVec 32)) : State :=
  let n := reqBytes r
  let code := regCode s a n err
  if code ≠ 0 then
    complete (hostError s r.data.isSome bar r.off.toNat code) code
      (if r.data.isSome then [] else List.replicate n 0xFF)
  else
    match r.data with
    | some bs => complete (hostWrite s (.host r.fn) a bs x) 0 []
    | none =>
      let t := hostRead s (.host r.fn) a n
      complete t.1 0 t.2

/-- Bytes of the identity page. -/
def idBytes (off n : Nat) : List Byte := bytesAt (leBytes 8 identityWord) (off - idPage) n

/-- A peer post: one write of a peer to the data words and CTRL of a channel page, with POST set (R494). -/
def peerPost (s : State) (r : MemRequest) (bs : List Byte) : Bool :=
  isPeer s r.src && inPeerPages r.off.toNat && decide (r.off.toNat % 0x1000 = 0) && decide (bs.length = 68) &&
  decide (fldGet (BitVec.ofNat 32 (leAt bs 64 4)) F.MBX_H2M_CTRL_POST = 1)

/-- A request to BAR4. -/
def bar4Request (s : State) (r : MemRequest) (x : RegSide) (err : Option (BitVec 32)) : State :=
  let off := r.off.toNat
  match r.data with
  | some bs =>
    if peerPost s r bs then
      complete (mbxPeerPost s ((off - 0x100000) / 0x1000) ((List.range 16).map fun i => BitVec.ofNat 32 (leAt bs (4 * i) 4))
        (fldGet (BitVec.ofNat 32 (leAt bs 64 4)) F.MBX_H2M_CTRL_COUNT_M1)) 0 []
    else
      match bar4Reg r.fn.val off with
      | some a => hostRegs s r 2 a x err
      | none => complete s 0 []
  | none =>
    if inIdPage off then complete s 0 (idBytes off (reqBytes r))
    else
      match bar4Reg r.fn.val off with
      | some a => hostRegs s r 2 a x err
      | none => complete s 0 (List.replicate (reqBytes r) 0)

/-- A request to BAR2: the command blocks and the data buffers of the mirror (R441, R442). -/
def bar2Request (s : State) (r : MemRequest) (x : RegSide) : State :=
  let off := r.off.toNat
  let f := r.fn.val
  let n := reqBytes r
  if off < 0x10000 then
    let a := mirrorBase + mirrorOf f + off
    if regCode s a n none ≠ 0 then complete s (regCode s a n none) (if r.data.isSome then [] else List.replicate n 0xFF)
    else
      match r.data with
      | some bs => complete (hostWrite s (.host r.fn) a bs x) 0 []
      | none =>
        let t := hostRead s (.host r.fn) a n
        complete t.1 0 t.2
  else if 0x100000 ≤ off ∧ off + n ≤ 0x200000 then
    let c := (off - 0x100000) / 0x10000
    let a := mirrorBase + mirrorOf f + off
    match r.data with
    | some bs =>
      let st := Reg.COL_OD_STATUS c + mirrorOf f
      if fbit s st F.COL_OD_STATUS_BUSY then complete (fset s st F.COL_OD_STATUS_WERR 1) 0 []
      else complete (setMemBytes s a bs) 0 []
    | none => complete s 0 (memBytes s a n)
  else complete s 0 (if r.data.isSome then [] else List.replicate n 0)

/-- PCIE_MEM_REQUEST. -/
def memRequest (s : State) (r : MemRequest) (x : RegSide) (err : Option (BitVec 32)) : State :=
  if unsupported s r then { s with pcieUr := true, reply := [] }
  else
    match r.bar with
    | .bar0 => if r.off.toNat < 0x4000000 then hostRegs s r 0 (bar0 + r.off.toNat) x err else s
    | .bar2 => bar2Request s r x
    | .bar4 => bar4Request s r x err

/-! ## Messages over a channel (R498 to R502) -/

/-- A reply's bytes as fragments of at most 60 bytes, each with its header (R500). -/
def fragments (fuel tag total : Nat) (first : Bool) (bs : List Byte) : List (List Word) :=
  match fuel with
  | 0 => []
  | fuel + 1 =>
    let last := decide (bs.length ≤ 60)
    let head := (if first then 2 ^ 31 + total else 0) + (if last then 2 ^ 30 else 0) + tag * 2 ^ 16
    let n := (min bs.length 60 + 3) / 4
    let ws := BitVec.ofNat 32 head :: (List.range n).map fun i => BitVec.ofNat 32 (leAt bs (4 * i) 4)
    if last then [ws] else ws :: fragments fuel tag total false (bs.drop 60)

/-- The posts of a reply. -/
def replyPosts (tag : Nat) (bs : List Byte) : List (List Word) := fragments (bs.length + 1) tag bs.length true bs

/-- The oldest waiting post goes out where the direction toward the host is free: Collar claims it, under a token of its own,
and posts (R493, R498). -/
def mbxPump (s : State) (c : Nat) : State :=
  let x := getMbx s c
  if mbxFull s c .m2h || mbxHeld s c .m2h then s
  else
    match x.waiting with
    | (ws :: more) :: rest =>
      let s := setMbx s c { x with waiting := if more.isEmpty then rest else more :: rest }
      let t := drawNat s
      let s := fsets t.2 (mbxLock c .m2h) [(F.MBX_M2H_LOCK_HELD, 1), (F.MBX_M2H_LOCK_TOKEN, t.1 % 0xFFFF + 1)]
      mbxPostNow (mbxFill s c .m2h 0 ws) c .m2h (ws.length - 1)
    | [] :: rest => setMbx s c { x with waiting := rest }
    | [] => s

/-- A reply queued (R498). -/
def mbxQueue (s : State) (c tag : Nat) (bs : List Byte) : State :=
  let x := getMbx s c
  mbxPump (setMbx s c { x with waiting := x.waiting ++ [replyPosts tag bs] }) c

/-- The place in the message store of the reply to a new request: that of its TAG, a place not yet used, or the oldest's. -/
def replyPlace (l : List (Nat × Nat × List Byte × List Byte)) (tag : Nat) : Nat :=
  match l.find? fun r => decide (r.1 = tag) with
  | some r => r.2.1
  | none => if l.length < 16 then l.length else (l.getD 15 (0, 0, [], [])).2.1

/-- A reply to a whole request: stored with the request, and queued (R501). -/
def mbxAnswer (s : State) (c tag : Nat) (request bs : List Byte) : State :=
  let x := getMbx s c
  let i := replyPlace x.replies tag
  let keep := (x.replies.filter fun r => decide (r.1 ≠ tag)).take 15
  mbxQueue (storeReply (setMbx s c { x with replies := (tag, i, request, bs) :: keep }) c i tag bs) c tag bs

/-- A message of TYPE and SEQ (R500). -/
def message (type seq : Nat) (body : List Byte) : List Byte := num false 1 type ++ [0, 0, 0] ++ num false 4 seq ++ body

/-- A message counted in MBX_DROPPED_CNT. -/
def mbxDrop (s : State) (c : Nat) : State := fadd s (Reg.MBX_DROPPED_CNT c) F.MBX_DROPPED_CNT_COUNT 1

/-- The body of an ABORT. -/
def abortBody (code : Nat) : List Byte := num false 4 code ++ num false 4 0

/-- A message sealed in a channel's session under SEQ `own`, as R451 seals a datagram, with its 8-byte header as the additional data
(R502); the IV's numbers are little-endian, as the message's are (assumption 57). -/
def sealedMessage (x : Session) (own type : Nat) (body : List Byte) : List Byte :=
  let head := message type own []
  let iv := natLE 4 x.number ++ natLE 4 1 ++ natLE 4 own
  let c := gcmDecrypt (sessionKey x) iv (ofBytes body)
  head ++ toBytes c ++ toBytes (gcmTag (sessionKey x) iv (ofBytes head) c)

/-- The body of a sealed request in plaintext, or none where its tag fails (R502). -/
def openSealed (x : Session) (request : List Byte) : Option (List Byte) :=
  let n := request.length - 16
  let iv := natLE 4 x.number ++ natLE 4 0 ++ ofBytes ((request.drop 4).take 4)
  let c := ofBytes ((request.take n).drop 8)
  if 24 ≤ request.length ∧ ofBytes (request.drop n) = gcmTag (sessionKey x) iv (ofBytes (request.take 8)) c then
    some (toBytes (gcmDecrypt (sessionKey x) iv c))
  else none

/-- A message sealed in the channel's session takes the next SEQ; the session closes when SEQ would pass 0xFFFF_FFFF (R502). -/
def sealMessage (s : State) (c : Nat) (x : Session) (type : Nat) (body : List Byte) : State × List Byte :=
  let s := setMbx s c { getMbx s c with session := some { x with next := x.next + 1 } }
  (if x.next = 0xFFFFFFFF then mbxCloseSession s c else s, sealedMessage x x.next type body)

/-- An answer of TYPE: sealed where the channel holds a session, else in plaintext with SEQ 0. -/
def mbxRespond (s : State) (c tag : Nat) (request : List Byte) (type : Nat) (body : List Byte) : State :=
  match (getMbx s c).session with
  | some x =>
    let m := sealMessage s c x type body
    mbxAnswer m.1 c tag request m.2
  | none => mbxAnswer s c tag request (message type 0 body)

/-- A request turned away before it is whole, or in plaintext: ABORT, which is not kept for repeats. -/
def mbxRefuse (s : State) (c tag code : Nat) : State :=
  if 16 ≤ (getMbx s c).waiting.length then mbxDrop s c
  else
    match (getMbx s c).session with
    | some x =>
      let m := sealMessage s c x 0x3F (abortBody code)
      mbxQueue m.1 c tag m.2
    | none => mbxQueue s c tag (message 0x3F 0 (abortBody code))

/-! ### Bodies (R452, R461) -/

/-- The entry reference at offset `a` of a body, as a key. -/
def bodyRef (b : List Byte) (a : Nat) : Nat := leAt b a 2 * 256 + leAt b (a + 2) 1

/-- The items of a WRITE: none where the body is too short. -/
def writeItems (fuel : Nat) (n : Nat) (b : List Byte) : Option (List (Nat × List Byte) × List Byte) :=
  match fuel, n with
  | _, 0 => some ([], b)
  | 0, _ => none
  | fuel + 1, n + 1 =>
    let len := leAt b 4 2
    let pad := (len + 3) / 4 * 4
    if b.length < 8 + pad then none
    else
      match writeItems fuel n (b.drop (8 + pad)) with
      | some r => some ((bodyRef b 0, (b.drop 8).take len) :: r.1, r.2)
      | none => none

/-- A request carried out in a path's scope: the state, the TYPE of the response and its body (R425, R452, R456, R457). -/
def mbxServe (s : State) (w : Path) (x : Crypto) (type : Nat) (b : List Byte) : State × Nat × List Byte :=
  let abort := fun (code : Nat) => ((s, 0x3F, abortBody code) : State × Nat × List Byte)
  match type with
  | 0x10 =>
    let n := leAt b 0 2
    if n = 0 ∨ 64 < n then abort Code.VALUE_INVALID
    else
      match bodyFault b (4 + 4 * n) Code.MBX_BAD_MESSAGE with
      | some code => abort code
      | none =>
        let r := serveRead s w false ((List.range n).map fun i => bodyRef b (4 + 4 * i))
        (r.1, 0x11, r.2)
  | 0x12 =>
    let n := leAt b 0 2
    if n = 0 ∨ 64 < n then abort Code.VALUE_INVALID
    else
      match writeItems n n (b.drop 4) with
      | none => abort Code.LENGTH_EXCEEDS_BUFFER
      | some (items, []) =>
        let r := serveWrite s w false x items
        (r.1, 0x13, r.2)
      | some (_, _ :: _) => abort Code.MBX_BAD_MESSAGE
  | 0x14 =>
    match bodyFault b 12 Code.MBX_BAD_MESSAGE with
    | some code => abort code
    | none =>
      if leAt b 8 2 = 0 ∨ 1408 < leAt b 8 2 then abort Code.VALUE_INVALID
      else
        let r := serveSegRead s w false (bodyRef b 0) (leAt b 4 4) (leAt b 8 2)
        (r.1, 0x15, r.2)
  | 0x16 =>
    let n := leAt b 8 2
    if 1408 < n then abort Code.VALUE_INVALID
    else
      match bodyFault b (12 + n) Code.MBX_BAD_MESSAGE with
      | some code => abort code
      | none =>
        let r := serveSegWrite s w false x (bodyRef b 0) (leAt b 4 4) ((b.drop 12).take n)
        (r.1, 0x17, r.2)
  | 0x18 =>
    match bodyFault b 4 Code.MBX_BAD_MESSAGE with
    | some code => abort code
    | none => (s, 0x19, serveDescribe s w false (bodyRef b 0))
  | 0x30 => if 64 < b.length then abort Code.VALUE_INVALID else (s, 0x31, b)
  | _ => abort Code.MBX_BAD_MESSAGE

/-- The path of a channel's accesses (R423, R424, R500). -/
def chanPath (c : Nat) : Path :=
  ⟨3, match chanPart c with
    | some p => some ⟨p % 16, Nat.mod_lt _ (by decide)⟩
    | none => none, decide (c < 8)⟩

/-! ### Secure channels (R502) -/

/-- HELLO: a challenge (R454). -/
def mbxHello (s : State) (c tag : Nat) (request b : List Byte) : State :=
  match bodyFault b 4 Code.MBX_BAD_MESSAGE with
  | some code => mbxAnswer s c tag request (message 0x3F 0 (abortBody code))
  | none =>
    let h := newChallenge s 0 (leAt b 0 1) (leAt b 1 1)
    let s := setMbx h.2 c { getMbx h.2 c with challenge := some h.1 }
    mbxAnswer s c tag request (message 0x02 0 (challengeBody false h.1))

/-- OPEN: the challenge is spent; the session opens with ROLE 1, or ABORT PAP_AUTH_FAIL (R454, R502). -/
def mbxOpen (s : State) (c tag : Nat) (request b : List Byte) : State :=
  match openFault b Code.MBX_BAD_MESSAGE, (getMbx s c).challenge with
  | some code, _ => mbxAnswer s c tag request (message 0x3F 0 (abortBody code))
  | none, none => mbxAnswer s c tag request (message 0x3F 0 (abortBody Code.PAP_NO_SESSION))
  | none, some h =>
    let s := setMbx s c { getMbx s c with challenge := none }
    match h.role, openKey s false h b with
    | 1, some key =>
      let x : Session := { number := h.number, key := key, part := none }
      let s := fset (setMbx s c { getMbx s c with session := some x }) (Reg.MBX_STATUS c) F.MBX_STATUS_SESSION 1
      mbxRespond s c tag request 0x04 (openedBody s false)
    | _, _ => mbxAnswer s c tag request (message 0x3F 0 (abortBody Code.PAP_AUTH_FAIL))

/-- A TYPE that a channel takes outside a session: on a secure channel HELLO and OPEN; those of R500 need one. -/
def accessType (t : Nat) : Bool :=
  decide (t = 0x10) || decide (t = 0x12) || decide (t = 0x14) || decide (t = 0x16) || decide (t = 0x18) || decide (t = 0x30)

/-- A request on a secure channel that holds no session. -/
def mbxPlainSecure (s : State) (c tag : Nat) (request : List Byte) : State :=
  let type := leAt request 0 1
  let body := request.drop 8
  if type = 0x01 then mbxHello s c tag request body
  else if type = 0x03 then mbxOpen s c tag request body
  else
    mbxAnswer s c tag request (message 0x3F 0
      (abortBody (if type = 0x05 ∨ accessType type = true then Code.PAP_NO_SESSION else Code.MBX_BAD_MESSAGE)))

/-- A sealed request of the open session (R458, R502): one whose tag fails, or whose SEQ is outside the window, is dropped; one whose
SEQ repeats is answered with the stored response. -/
def mbxSealed (s : State) (c tag : Nat) (request : List Byte) (y : Session) (x : Crypto) : State :=
  let seq := leAt request 4 4
  let type := leAt request 0 1
  match openSealed y request with
  | none => mbxDrop s c
  | some body =>
    if seq = 0 then mbxDrop s c
    else
      let z := { y with high := max y.high seq }
      let put := fun (s : State) (y : Session) => setMbx s c { getMbx s c with session := some y }
      match y.stored.find? fun r => decide (r.req = seq) with
      | some r => mbxAnswer (put s z) c tag request (sealedMessage z r.own r.type r.body)
      | none =>
        if seq + 32 ≤ y.high then mbxDrop s c
        else if type = 0x05 then mbxCloseSession (mbxRespond (put s z) c tag request 0x05 []) c
        else
          let r := mbxServe (put s z) (chanPath c) x type body
          let s := put r.1 { z with stored := (⟨seq, r.2.1, z.next, r.2.2⟩ :: z.stored).take 32 }
          let s := mbxRespond s c tag request r.2.1 r.2.2
          if seq = 0xFFFFFFFF then mbxCloseSession s c else s

/-! ### Whole requests -/

/-- A whole request: one that repeats a TAG with the same bytes is answered from its stored reply (R501); one that finds 16
replies waiting is dropped (R498); on a channel of a partition that is not OPEN it is refused (R433, R500). -/
def mbxWhole (s : State) (c tag : Nat) (request : List Byte) (x : Crypto) : State :=
  let box := getMbx s c
  if 16 ≤ box.waiting.length then mbxDrop s c
  else
    match box.replies.find? fun r => decide (r.1 = tag) && decide (r.2.2.1 = request) with
    | some r => mbxQueue s c tag r.2.2.2
    | none =>
      if c < 8 then
        match box.session with
        | some y => mbxSealed s c tag request y x
        | none => mbxPlainSecure s c tag request
      else
        let shut := match chanPart c with
          | some p => decide (partState s p ≠ 2)
          | none => false
        if shut then mbxAnswer s c tag request (message 0x3F 0 (abortBody Code.WRONG_STATE))
        else
          let r := mbxServe s (chanPath c) x (leAt request 0 1) (request.drop 8)
          mbxAnswer r.1 c tag request (message r.2.1 0 r.2.2)

/-- The longest request of a channel (R500). -/
def mbxLimit (s : State) (c : Nat) : Nat := if (getMbx s c).session.isSome then 1444 else 1428

/-- A fragment that is refused: ABORT, and the rest of its message is discarded up to LAST. -/
def fragmentRefuse (s : State) (c tag code : Nat) (last : Bool) : State :=
  mbxRefuse (setMbx s c { getMbx s c with parts := none, discard := !last }) c tag code

/-- A fragment taken: its message is assembled, and carried out at LAST (R500). -/
def mbxFragment (s : State) (c : Nat) (head : Word) (bs : List Byte) (x : Crypto) : State :=
  let box := getMbx s c
  let first := head.getLsbD 31
  let last := head.getLsbD 30
  let tag := head.toNat / 2 ^ 16 % 256
  let total := head.toNat % 2048
  if box.discard && !first then setMbx s c { box with discard := !last }
  else if first then
    if box.parts.isSome || decide (total < 8) then fragmentRefuse s c tag Code.MBX_BAD_MESSAGE last
    else if mbxLimit s c < total then fragmentRefuse s c tag Code.LENGTH_EXCEEDS_BUFFER last
    else if last then
      if bs.length = (total + 3) / 4 * 4 then mbxWhole (setMbx s c { box with discard := false }) c tag (bs.take total) x
      else fragmentRefuse s c tag Code.MBX_BAD_MESSAGE last
    else setMbx s c { box with parts := some (tag, total, bs), discard := false }
  else
    match box.parts with
    | some (t, n, l) =>
      if t ≠ tag then fragmentRefuse s c tag Code.MBX_BAD_MESSAGE last
      else if !last then setMbx s c { box with parts := some (t, n, l ++ bs) }
      else if (l ++ bs).length = (n + 3) / 4 * 4 then
        mbxWhole (setMbx s c { box with parts := none }) c tag ((l ++ bs).take n) x
      else fragmentRefuse s c tag Code.MBX_BAD_MESSAGE last
    | none => fragmentRefuse s c tag Code.MBX_BAD_MESSAGE last

/-- MBX_REQUEST: the lease holder takes and acknowledges the post that is FULL toward the module (R493, R498, R500). -/
def mbxRequest (s : State) (c : Nat) (x : Crypto) : State :=
  if !odServing s || !mbxFull s c .h2m then s
  else
    let n := fget s (Reg.MBX_H2M_CTRL c) F.MBX_H2M_CTRL_COUNT_M1
    let head := rget s (Reg.MBX_H2M_DATA c 0)
    let bs := (List.range n).flatMap fun i => leBytes 4 (rget s (Reg.MBX_H2M_DATA c (i + 1))).toNat
    mbxPump (mbxFragment (mbxAck s c .h2m .module) c head bs x) c

/-! ## The fundamental reset (R540) -/

/-- PCIE_PERST: the effect of a reset of the physical function, and the link as it has trained. -/
def pciePerst (s : State) (link : Word) : State := rset (flrPhysical s) Reg.PCI_LINK (link &&& 0xC0F0FFFF#32)

/-! ## The commands -/

def execDmaDescriptor (q : Fin 1024) (d : DmaDesc) (bytes : List (BitVec 8)) (e : AccessEvent)
    (req : RestoreRequest) (s : State) : Host.Outcome State Fault Refusal :=
  .next (dmaDescriptor s q.val d bytes e req)
def execPcieMemRequest (r : MemRequest) (x : RegSide) (err : Option (BitVec 32)) (s : State) :
    Host.Outcome State Fault Refusal :=
  .next (memRequest s r x err)
def execMbxRequest (c : Fin 64) (x : Crypto) (s : State) : Host.Outcome State Fault Refusal := .next (mbxRequest s c.val x)
def execPciePerst (link : Word) (s : State) : Host.Outcome State Fault Refusal := .next (pciePerst s link)

end Sys2Proof.Machine
end

