-- ==== Sys2Proof/Machine/Start.lean ====
section
/-! DEFINITION. The stages Baste and Fit of a start (R519 to R522, R530). -/

namespace Sys2Proof.Machine

/-! ## Parts mapped out (R522) -/

/-- Weave die `d` mapped out: its rail at 0 V and its block domains asleep, named in START_FAULTS, with a record. -/
def mapOutDie (s : State) (d : Nat) : State :=
  if dieOut s d then s
  else
    let s := fsets s (Reg.PWR_VCORE d) [(F.PWR_VCORE_NOW, 0)]
    let s := (List.range 16).foldl (fun s i =>
      hemGap (fsets s (Reg.NOC_DOM (16 * d + i)) [(F.NOC_DOM_SLEEP, 1), (F.NOC_DOM_STATE, 3)]) (16 * d + i)) s
    let s := oset s Od.START_FAULTS (oget s Od.START_FAULTS ||| 2 ^ d)
    logRecord s 16 6 modulePart Code.START_FAULT d []

/-- Stack `d` mapped out: held in reset, named in START_FAULTS and HBM_PC_RETIRED, with a record. -/
def mapOutStack (s : State) (d : Nat) : State :=
  if stackMappedOut s d then s
  else
    let s := fset s (Reg.HBM_STATUS d) F.HBM_STATUS_UP 0
    let s := oset s Od.START_FAULTS (oget s Od.START_FAULTS ||| 2 ^ (4 + d))
    let s := oset s Od.HBM_PC_RETIRED (oget s Od.HBM_PC_RETIRED ||| 2 ^ (4 + d))
    logRecord s 16 6 modulePart Code.START_FAULT (4 + d) []

/-- The parts that the tests of a stage, or R391, map out. -/
def mapOutParts (s : State) (dies hbms : Nat) : State :=
  let s := (List.range 4).foldl (fun s d => if dies / 2 ^ d % 2 = 1 then mapOutDie s d else s) s
  (List.range 4).foldl (fun s d => if hbms / 2 ^ d % 2 = 1 then mapOutStack s d else s) s

/-- The bridges whose two ends are in service come UP (R117, R520 order 5). -/
def bridgesUp (s : State) : State :=
  [(0, 0, 0, 1), (0, 1, 0, 2), (3, 0, 1, 3), (3, 1, 2, 3), (0, 2, 0, 0), (1, 0, 1, 1), (2, 0, 2, 2), (3, 2, 3, 3)].foldl
    (fun s b =>
      if dieOut s b.2.2.1 || dieOut s b.2.2.2 then s else fset s (Reg.BRG_STATUS b.1 b.2.1) F.BRG_STATUS_UP 1) s

/-! ## Baste (R520 orders 4 to 6) -/

/-- The path of values from the configuration store (R430, R436). -/
def storePath : Path := ⟨4, none, false⟩

/-- The copy of the configuration store in force: the newest whose CRC verifies, or none (R411). -/
def storeChosen (s : State) (okA okB : Bool) : Option StoreCopy :=
  match okA, okB with
  | true, true => some (if s.collar.storeA.gen < s.collar.storeB.gen then s.collar.storeB else s.collar.storeA)
  | true, false => some s.collar.storeA
  | false, true => some s.collar.storeB
  | false, false => none

/-- The kept values applied through steps 5 and 6 of R426 (R436); with no copy that verifies, the defaults, bit 8 of
START_FAULTS and a record of severity 6 (R411). -/
def applyStore (s : State) (okA okB : Bool) : State :=
  match storeChosen s okA okB with
  | some c =>
    c.entries.foldl (fun s e =>
      match odDesc e.1 with
      | some d => odApply s storePath e.1 d e.2
      | none => s) s
  | none =>
    logRecord (oset s Od.START_FAULTS (oget s Od.START_FAULTS ||| 0x100)) 14 6 modulePart (Config.code 411) 0 []

/-- BANK_PREPULL applied to the banks (R267). -/
def applyPrepull (s : State) : State :=
  (List.range 16).foldl (fun s b => fset s (Reg.CUFF_BANK b) F.CUFF_BANK_PREPULL (oget s Od.BANK_PREPULL / 2 ^ b % 2)) s

/-- RESET_CAUSE from the always-on latch, which is then empty (R530). -/
def setResetCause (s : State) : State :=
  let last := s.logFlash.records.foldl (fun (m : Option LogRecord) r =>
    match m with
    | some x => if x.seq < r.2.seq then some r.2 else m
    | none => some r.2) none
  let brown := match last with
    | some r => decide (r.code = Code.BROWNOUT)
    | none => false
  let s := oset s Od.RESET_CAUSE (if s.power.latch ≠ 0 then s.power.latch else if brown then 2 else 0)
  { s with power := { s.power with latch := 0 } }

/-- BASTE: the holder applies the configuration store, the Weave rails and the stacks come up, Ethernet starts (R519, R520).
`f` names the parts whose rail, bridges, training or test fail. -/
def baste (s : State) (okA okB : Bool) (f : StartFaults) : State :=
  if !leased s || !s.power.tack || decide (fget s Reg.PWR_STATUS F.PWR_STATUS_STAGE ≠ 0) ||
      decide (oget s Od.START_STAGE ≠ 0) || !fbit s Reg.PWR_STATUS F.PWR_STATUS_REFCLK_OK then s
  else
    let s := applyPrepull (applyStore s okA okB)
    let s := setResetCause { s with power := { s.power with weaveOn := true } }
    let s := (List.range 4).foldl (fun s d => fset s (Reg.PWR_VCORE d) F.PWR_VCORE_NOW 750) s
    let s := (List.range 4).foldl (fun s d => fset s (Reg.HBM_STATUS d) F.HBM_STATUS_UP 1) s
    let s := mapOutParts s f.dies.toNat (f.hbms.toNat ||| s.mapOut)
    reachStage (bridgesUp s) 1

/-! ## Fit (R520 orders 7 and 8, R521) -/

/-- A BP found to have failed: the spare takes its place; with the spare spent, or failed, the cluster is retired (R74,
R374). -/
def fitBp (s : State) (c : ClusterId) (b : Nat) : State :=
  let k := getCl s c.idx
  let used := k.spareBad || fbit s (Reg.BP_SPARE_MAP c) F.BP_SPARE_MAP_ACTIVE
  if k.retired then s
  else if used then
    raiseHealth (oset (setCl s c.idx { k with retired := true }) Od.CLUSTERS_RETIRED (oget s Od.CLUSTERS_RETIRED + 1)) 1
  else if b = 32 then
    raiseHealth (oset (setCl s c.idx { k with spareBad := true }) Od.SPARE_BP_FAILED (oget s Od.SPARE_BP_FAILED + 1)) 1
  else
    raiseHealth (spareMapWrite s c (fldSet (fldSet 0 F.BP_SPARE_MAP_ACTIVE 1) F.BP_SPARE_MAP_REPLACED b)) 1

/-- A cluster found to have failed is retired (R374). -/
def fitCluster (s : State) (c : ClusterId) : State :=
  let k := getCl s c.idx
  if k.retired then s
  else raiseHealth (oset (setCl s c.idx { k with retired := true }) Od.CLUSTERS_RETIRED (oget s Od.CLUSTERS_RETIRED + 1)) 1

/-- Every sensor and delay monitor of the parts in service calibrated (R98, R402, R521). -/
def calibrateAll (s : State) : State :=
  let s := (List.range 5).foldl (fun s d =>
    if decide (d < 4) && dieOut s d then s
    else
      let s := (List.range 9).foldl (fun s n =>
        match calReg 0 d n with
        | some a => fset s a F.SNS_TEMP_VALID 1
        | none => s) s
      let s := (List.range 32).foldl (fun s n =>
        match calReg 1 d n with
        | some a => fset s a F.SNS_DLYMON_VALID 1
        | none => s) s
      fset (fset s (Reg.SNS_RAIL_V d) F.SNS_TEMP_VALID 1) (Reg.SNS_RAIL_I d) F.SNS_TEMP_VALID 1) s
  let s := (List.range 4).foldl (fun s d =>
    if stackMappedOut s d then s else fset s (Reg.SNS_HBM_TEMP d) F.SNS_TEMP_VALID 1) s
  fset (fset s Reg.SNS_VIN F.SNS_TEMP_VALID 1) Reg.SNS_IIN F.SNS_TEMP_VALID 1

/-- FIT: the Fit work ends (R520, R521). `f` is what the tests found; `mv` the voltage of each Weave rail at which its
calibrated monitors predict RATE_TARGET, from the lowest up. Fit waits while a part stands at THERM_SLOW or above (R531). -/
def fit (s : State) (f : StartFaults) (mv : Fin 4 → BitVec 10) : State :=
  if !leased s || decide (fget s Reg.PWR_STATUS F.PWR_STATUS_STAGE ≠ 1) ||
      ((List.range 9).any fun part => decide (oget s Od.THERM_SLOW * 16 ≤ hottest s part)) then s
  else
    let s := f.bps.foldl (fun s x => fitBp s x.1 x.2.val) s
    let s := f.clusters.foldl fitCluster s
    let s := f.rows.foldl (fun s x => pprRepair s x.1.val x.2.val) s
    let s := mapOutParts s f.dies.toNat f.hbms.toNat
    let s := calibrateAll s
    let s := (List.finRange 4).foldl (fun s d => if dieOut s d.val then s else vcoreWrite s d.val (mv d).toNat) s
    let s := fset s Reg.CFG_STATUS F.CFG_STATUS_INIT_N_PULL 0
    doneEval (reachStage s 2)

/-! ## The commands -/

def execBaste (okA okB : Bool) (f : StartFaults) (s : State) : Host.Outcome State Fault Refusal := .next (baste s okA okB f)
def execFit (f : StartFaults) (mv0 mv1 mv2 mv3 : BitVec 10) (s : State) : Host.Outcome State Fault Refusal :=
  .next (fit s f fun d => if d = 0 then mv0 else if d = 1 then mv1 else if d = 2 then mv2 else mv3)

end Sys2Proof.Machine
end

