-- ==== Sys2Proof/Machine/Dispatch.lean ====
section
/-! DEFINITION. The dispatch of a command to its meaning, one arm per constructor of `Instr`. -/

namespace Sys2Proof.Machine

def exec (i : Instr) (s : State) : Host.Outcome State Fault Refusal :=
  match i with
  | .stitch c f => Sys2Proof.Machine.execStitch c f s
  | .lut c bp => Sys2Proof.Machine.execLut c bp s
  | .luts c bp => Sys2Proof.Machine.execLuts c bp s
  | .add c bp => Sys2Proof.Machine.execAdd c bp s
  | .addc c bp => Sys2Proof.Machine.execAddc c bp s
  | .sub c bp => Sys2Proof.Machine.execSub c bp s
  | .subb c bp => Sys2Proof.Machine.execSubb c bp s
  | .cmp c bp => Sys2Proof.Machine.execCmp c bp s
  | .sll c bp => Sys2Proof.Machine.execSll c bp s
  | .srl c bp => Sys2Proof.Machine.execSrl c bp s
  | .sra c bp => Sys2Proof.Machine.execSra c bp s
  | .rol c bp => Sys2Proof.Machine.execRol c bp s
  | .sllv c bp => Sys2Proof.Machine.execSllv c bp s
  | .srlv c bp => Sys2Proof.Machine.execSrlv c bp s
  | .srav c bp => Sys2Proof.Machine.execSrav c bp s
  | .sel c bp => Sys2Proof.Machine.execSel c bp s
  | .mov c bp => Sys2Proof.Machine.execMov c bp s
  | .mulu c bp => Sys2Proof.Machine.execMulu c bp s
  | .muls c bp => Sys2Proof.Machine.execMuls c bp s
  | .wordResultWrite c key => Sys2Proof.Machine.execWordResultWrite c key s
  | .drd c bp badEntry => Sys2Proof.Machine.execDrd c bp badEntry s
  | .dwr c bp badEntry => Sys2Proof.Machine.execDwr c bp badEntry s
  | .ldsw c bp => Sys2Proof.Machine.execLdsw c bp s
  | .stsw c bp => Sys2Proof.Machine.execStsw c bp s
  | .nop c bp => Sys2Proof.Machine.execNop c bp s
  | .setpg c bp => Sys2Proof.Machine.execSetpg c bp s
  | .brk c bp => Sys2Proof.Machine.execBrk c bp s
  | .mark c bp => Sys2Proof.Machine.execMark c bp s
  | .dfence c bp => Sys2Proof.Machine.execDfence c bp s
  | .reloadDone c item first second => Sys2Proof.Machine.execReloadDone c item first second s
  | .pocketReturn c key => Sys2Proof.Machine.execPocketReturn c key s
  | .hbmReturn c key r => Sys2Proof.Machine.execHbmReturn c key r s
  | .hbmWriteAck c key r => Sys2Proof.Machine.execHbmWriteAck c key r s
  | .dmemErrorResponse c key uncorrectable => Sys2Proof.Machine.execDmemErrorResponse c key uncorrectable s
  | .ldswResultWrite c key => Sys2Proof.Machine.execLdswResultWrite c key s
  | .creditGrant die ns => Sys2Proof.Machine.execCreditGrant die ns s
  | .sweepEnd c => Sys2Proof.Machine.execSweepEnd c s
  | .ecycleComplete p => Sys2Proof.Machine.execEcycleComplete p s
  | .progressReport c partner count => Sys2Proof.Machine.execProgressReport c partner count s
  | .warpHop c entry => Sys2Proof.Machine.execWarpHop c entry s
  | .bridgeGroup c track upset => Sys2Proof.Machine.execBridgeGroup c track upset s
  | .warpGroupArrive c slot => Sys2Proof.Machine.execWarpGroupArrive c slot s
  | .stallWatchdogExpiry c => Sys2Proof.Machine.execStallWatchdogExpiry c s
  | .rateMeterWindow d => Sys2Proof.Machine.execRateMeterWindow d s
  | .delayMonitorSample d m ps => Sys2Proof.Machine.execDelayMonitorSample d m ps s
  | .rateControlLoop d => Sys2Proof.Machine.execRateControlLoop d s
  | .bpClCtrlClrcnt c => Sys2Proof.Machine.execBpClCtrlClrcnt c s
  | .bpSweepLenWrite c w => Sys2Proof.Machine.execBpSweepLenWrite c w s
  | .bpPtrbaseWrite c bp w => Sys2Proof.Machine.execBpPtrbaseWrite c bp w s
  | .bpSpareMapWrite c w => Sys2Proof.Machine.execBpSpareMapWrite c w s
  | .bpStallClr c => Sys2Proof.Machine.execBpStallClr c s
  | .wrpClCtrlClr c => Sys2Proof.Machine.execWrpClCtrlClr c s
  | .brgSpareWrite die bridge spare out w => Sys2Proof.Machine.execBrgSpareWrite die bridge spare out w s
  | .dmemDescW3Commit die w3 => Sys2Proof.Machine.execDmemDescW3Commit die w3 s
  | .dmemFillGo die => Sys2Proof.Machine.execDmemFillGo die s
  | .fillDone die => Sys2Proof.Machine.execFillDone die s
  | .dmemCtrlClrcnt die => Sys2Proof.Machine.execDmemCtrlClrcnt die s
  | .rd r => Sys2Proof.Machine.execRd r s
  | .wr r => Sys2Proof.Machine.execWr r s
  | .wrm r => Sys2Proof.Machine.execWrm r s
  | .msg r => Sys2Proof.Machine.execMsg r s
  | .rdresp node tag gen => Sys2Proof.Machine.execRdresp node tag gen s
  | .wrack node tag gen => Sys2Proof.Machine.execWrack node tag gen s
  | .err node tag gen => Sys2Proof.Machine.execErr node tag gen s
  | .routerForward router port vc codeError => Sys2Proof.Machine.execRouterForward router port vc codeError s
  | .nocRequestTimeout node tag => Sys2Proof.Machine.execNocRequestTimeout node tag s
  | .tagQuarantineExpiry node tag => Sys2Proof.Machine.execTagQuarantineExpiry node tag s
  | .nocTimeoutWrite us => Sys2Proof.Machine.execNocTimeoutWrite us s
  | .nocRtSwap router => Sys2Proof.Machine.execNocRtSwap router s
  | .rtSwapDone => Sys2Proof.Machine.execRtSwapDone s
  | .nocClrerr => Sys2Proof.Machine.execNocClrerr s
  | .nocClrstat => Sys2Proof.Machine.execNocClrstat s
  | .domainSleep k => Sys2Proof.Machine.execDomainSleep k s
  | .domainGated k => Sys2Proof.Machine.execDomainGated k s
  | .domainWake k => Sys2Proof.Machine.execDomainWake k s
  | .domainAwake k => Sys2Proof.Machine.execDomainAwake k s
  | .hbmRefresh d => Sys2Proof.Machine.execHbmRefresh d s
  | .integrityHalt d line => Sys2Proof.Machine.execIntegrityHalt d line s
  | .pprRepair d pc => Sys2Proof.Machine.execPprRepair d pc s
  | .pcRetire d pc => Sys2Proof.Machine.execPcRetire d pc s
  | .pcCopyDone d => Sys2Proof.Machine.execPcCopyDone d s
  | .create p w => Sys2Proof.Machine.execCreate p w s
  | .createFillDone p => Sys2Proof.Machine.execCreateFillDone p s
  | .destroy p w => Sys2Proof.Machine.execDestroy p w s
  | .ksNonceRead p => Sys2Proof.Machine.execKsNonceRead p s
  | .ksOpen p bytes w => Sys2Proof.Machine.execKsOpen p bytes w s
  | .ksWrapCfg p bytes w => Sys2Proof.Machine.execKsWrapCfg p bytes w s
  | .ksWrapSector p bytes w => Sys2Proof.Machine.execKsWrapSector p bytes w s
  | .ksClose p w => Sys2Proof.Machine.execKsClose p w s
  | .ksSessionTimeout p => Sys2Proof.Machine.execKsSessionTimeout p s
  | .lineRoll p w => Sys2Proof.Machine.execLineRoll p w s
  | .lineKeyRetire p => Sys2Proof.Machine.execLineKeyRetire p s
  | .sectorRetire p w => Sys2Proof.Machine.execSectorRetire p w s
  | .seamFrameSend port => Sys2Proof.Machine.execSeamFrameSend port s
  | .dataFrame port lane word ws fec => Sys2Proof.Machine.execDataFrame port lane word ws fec s
  | .seamValueInject ch upset => Sys2Proof.Machine.execSeamValueInject ch upset s
  | .idleFrame port lane word ws fec => Sys2Proof.Machine.execIdleFrame port lane word ws fec s
  | .nak port lane word ws fec => Sys2Proof.Machine.execNak port lane word ws fec s
  | .lostFrameDetect port => Sys2Proof.Machine.execLostFrameDetect port s
  | .nakResendTimeout port => Sys2Proof.Machine.execNakResendTimeout port s
  | .mapchk port lane word ws fec => Sys2Proof.Machine.execMapchk port lane word ws fec s
  | .resume port lane word ws fec => Sys2Proof.Machine.execResume port lane word ws fec s
  | .resumePoint port lane word ws fec => Sys2Proof.Machine.execResumePoint port lane word ws fec s
  | .resumeEnd port lane word ws fec => Sys2Proof.Machine.execResumeEnd port lane word ws fec s
  | .haltFrame port lane word ws fec => Sys2Proof.Machine.execHaltFrame port lane word ws fec s
  | .peerHaltFrame port lane word ws fec => Sys2Proof.Machine.execPeerHaltFrame port lane word ws fec s
  | .laneWindowEnd port lane uncorr corr => Sys2Proof.Machine.execLaneWindowEnd port lane uncorr corr s
  | .laneMove port => Sys2Proof.Machine.execLaneMove port s
  | .laneTrainDone port lane ok => Sys2Proof.Machine.execLaneTrainDone port lane ok s
  | .laneStandbyRestore port lane => Sys2Proof.Machine.execLaneStandbyRestore port lane s
  | .seamRetrain port => Sys2Proof.Machine.execSeamRetrain port s
  | .seamLinkUp port lanes anew => Sys2Proof.Machine.execSeamLinkUp port lanes anew s
  | .seamDownTimeout port => Sys2Proof.Machine.execSeamDownTimeout port s
  | .seamCtrlEnWrite port en => Sys2Proof.Machine.execSeamCtrlEnWrite port en s
  | .seamClrcnt port => Sys2Proof.Machine.execSeamClrcnt port s
  | .bridgeCapture slot => Sys2Proof.Machine.execBridgeCapture slot s
  | .bridgeOutTake slot => Sys2Proof.Machine.execBridgeOutTake slot s
  | .bridgeBind slot => Sys2Proof.Machine.execBridgeBind slot s
  | .bridgeMove slot => Sys2Proof.Machine.execBridgeMove slot s
  | .transactorRxBeat slot => Sys2Proof.Machine.execTransactorRxBeat slot s
  | .transactorTxBeat slot => Sys2Proof.Machine.execTransactorTxBeat slot s
  | .driverConflict row span line enabled => Sys2Proof.Machine.execDriverConflict row span line enabled s
  | .vioChange bank meas => Sys2Proof.Machine.execVioChange bank meas s
  | .bankConfigTake bank => Sys2Proof.Machine.execBankConfigTake bank s
  | .cuffClrcnt => Sys2Proof.Machine.execCuffClrcnt s
  | .streamArrived p e => Sys2Proof.Machine.execStreamArrived p e s
  | .stageTimeout p => Sys2Proof.Machine.execStageTimeout p s
  | .cfgNop p => Sys2Proof.Machine.execCfgNop p s
  | .far p => Sys2Proof.Machine.execFar p s
  | .write p => Sys2Proof.Machine.execWrite p s
  | .zero p => Sys2Proof.Machine.execZero p s
  | .regions p => Sys2Proof.Machine.execRegions p s
  | .pattern p => Sys2Proof.Machine.execPattern p s
  | .keyRoll p => Sys2Proof.Machine.execKeyRoll p s
  | .commit p ch => Sys2Proof.Machine.execCommit p ch s
  | .streamCommit p ch bad => Sys2Proof.Machine.execStreamCommit p ch bad s
  | .regionRelease p => Sys2Proof.Machine.execRegionRelease p s
  | .loadWaitEnd p => Sys2Proof.Machine.execLoadWaitEnd p s
  | .initNChange high => Sys2Proof.Machine.execInitNChange high s
  | .doneRise => Sys2Proof.Machine.execDoneRise s
  | .doneFall => Sys2Proof.Machine.execDoneFall s
  | .cfgDoneRelease release => Sys2Proof.Machine.execCfgDoneRelease release s
  | .doneHoldTimeout r => Sys2Proof.Machine.execDoneHoldTimeout r s
  | .hemEnable => Sys2Proof.Machine.execHemEnable s
  | .hemDisable => Sys2Proof.Machine.execHemDisable s
  | .hemArm => Sys2Proof.Machine.execHemArm s
  | .swev => Sys2Proof.Machine.execSwev s
  | .hemEvent event => Sys2Proof.Machine.execHemEvent event s
  | .hemOverflowSend => Sys2Proof.Machine.execHemOverflowSend s
  | .hemRateTick => Sys2Proof.Machine.execHemRateTick s
  | .acqTakeEcycle p => Sys2Proof.Machine.execAcqTakeEcycle p s
  | .acqArm u => Sys2Proof.Machine.execAcqArm u s
  | .acqStop u => Sys2Proof.Machine.execAcqStop u s
  | .force u => Sys2Proof.Machine.execForce u s
  | .trigInPulse k width => Sys2Proof.Machine.execTrigInPulse k width s
  | .acqTimerExpiry u k => Sys2Proof.Machine.execAcqTimerExpiry u k s
  | .acqRearmDone u => Sys2Proof.Machine.execAcqRearmDone u s
  | .trigOutPulseEnd k => Sys2Proof.Machine.execTrigOutPulseEnd k s
  | .fire pair ecyc group => Sys2Proof.Machine.execFire pair ecyc group s
  | .busArm pair group => Sys2Proof.Machine.execBusArm pair group s
  | .disarm pair group => Sys2Proof.Machine.execDisarm pair group s
  | .busFrameSend pair lost => Sys2Proof.Machine.execBusFrameSend pair lost s
  | .rollback p cause => Sys2Proof.Machine.execRollback p cause s
  | .rollbackDrained p ch faulty slot first second => Sys2Proof.Machine.execRollbackDrained p ch faulty slot first second s
  | .selfTestDone c found => Sys2Proof.Machine.execSelfTestDone c found s
  | .replayPassesFault p => Sys2Proof.Machine.execReplayPassesFault p s
  | .checkpointCommit p => Sys2Proof.Machine.execCheckpointCommit p s
  | .checkpointSpill p => Sys2Proof.Machine.execCheckpointSpill p s
  | .scrubStep k found => Sys2Proof.Machine.execScrubStep k found s
  | .voterTick upsets => Sys2Proof.Machine.execVoterTick upsets s
  | .scrubParamRewrite => Sys2Proof.Machine.execScrubParamRewrite s
  | .phaseDrop rail => Sys2Proof.Machine.execPhaseDrop rail s
  | .renew n => Sys2Proof.Machine.execRenew n s
  | .leaseGrant => Sys2Proof.Machine.execLeaseGrant s
  | .yieldLease src => Sys2Proof.Machine.execYield src s
  | .leaseExpiry => Sys2Proof.Machine.execLeaseExpiry s
  | .leaseNoneTimeout => Sys2Proof.Machine.execLeaseNoneTimeout s
  | .colSelfWrite n request ready => Sys2Proof.Machine.execColSelfWrite n request ready s
  | .lockstepFail n => Sys2Proof.Machine.execLockstepFail n s
  | .controllerBoot n => Sys2Proof.Machine.execControllerBoot n s
  | .sensorSample x v => Sys2Proof.Machine.execSensorSample x v s
  | .snsCal kind d n => Sys2Proof.Machine.execSnsCal kind d n s
  | .sensorCalDone kind d n => Sys2Proof.Machine.execSensorCalDone kind d n s
  | .logProgram eraseFails => Sys2Proof.Machine.execLogProgram eraseFails s
  | .configStoreWrite => Sys2Proof.Machine.execConfigStoreWrite s
  | .fwImage bytes sigOk w => Sys2Proof.Machine.execFwImage bytes sigOk w s
  | .fwStart w => Sys2Proof.Machine.execFwStart w s
  | .fwReadyTimeout => Sys2Proof.Machine.execFwReadyTimeout s
  | .fwConfirmExpiry => Sys2Proof.Machine.execFwConfirmExpiry s
  | .fwAbort w => Sys2Proof.Machine.execFwAbort w s
  | .blow src => Sys2Proof.Machine.execBlow src s
  | .resetOther src onceEn onceSlot => Sys2Proof.Machine.execResetOther src onceEn onceSlot s
  | .colRecovery len16 index => Sys2Proof.Machine.execColRecovery len16 index s
  | .recoveryChunkDone sigOk => Sys2Proof.Machine.execRecoveryChunkDone sigOk s
  | .odRead w index sub off len => Sys2Proof.Machine.execOdRead w index sub off len s
  | .odWrite w index sub off bytes x => Sys2Proof.Machine.execOdWrite w index sub off bytes x s
  | .odDescribe w index sub => Sys2Proof.Machine.execOdDescribe w index sub s
  | .colOdCmdGo f c v x => Sys2Proof.Machine.execColOdCmdGo f c v x s
  | .clampClear w => Sys2Proof.Machine.execClampClear w s
  | .logRead w => Sys2Proof.Machine.execLogRead w s
  | .run p => Sys2Proof.Machine.execRun p s
  | .pause p => Sys2Proof.Machine.execPause p s
  | .step p => Sys2Proof.Machine.execStep p s
  | .stopEcycleWrite p v w => Sys2Proof.Machine.execStopEcycleWrite p v w s
  | .shutdown w => Sys2Proof.Machine.execShutdown w s
  | .ethFrameRx q f => Sys2Proof.Machine.execEthFrameRx q f s
  | .ethLinkChange q link => Sys2Proof.Machine.execEthLinkChange q link s
  | .ethFailover => Sys2Proof.Machine.execEthFailover s
  | .hello src seq role part => Sys2Proof.Machine.execHello src seq role part s
  | .openSession m body => Sys2Proof.Machine.execOpen m body s
  | .challengeLapse session => Sys2Proof.Machine.execChallengeLapse session s
  | .closeSession m => Sys2Proof.Machine.execClose m s
  | .papSessionTimeout session => Sys2Proof.Machine.execPapSessionTimeout session s
  | .papRead m refs => Sys2Proof.Machine.execPapRead m refs s
  | .papWrite m items x => Sys2Proof.Machine.execPapWrite m items x s
  | .segRead m e off len => Sys2Proof.Machine.execSegRead m e off len s
  | .segWrite m e off bytes x => Sys2Proof.Machine.execSegWrite m e off bytes x s
  | .describe m e => Sys2Proof.Machine.execDescribe m e s
  | .subscribe m subId mode period refs => Sys2Proof.Machine.execSubscribe m subId mode period refs s
  | .unsubscribe m subId => Sys2Proof.Machine.execUnsubscribe m subId s
  | .notify session subId => Sys2Proof.Machine.execNotify session subId s
  | .echo m bytes => Sys2Proof.Machine.execEcho m bytes s
  | .papViolation m f bytes => Sys2Proof.Machine.execPapViolation m f bytes s
  | .announce m x => Sys2Proof.Machine.execAnnounce m x s
  | .ptpSync m twoStep => Sys2Proof.Machine.execPtpSync m twoStep s
  | .followUp m => Sys2Proof.Machine.execFollowUp m s
  | .delayResp m => Sys2Proof.Machine.execDelayResp m s
  | .delayReqSend t seqId => Sys2Proof.Machine.execDelayReqSend t seqId s
  | .masterLost t => Sys2Proof.Machine.execMasterLost t s
  | .timeSwitch w => Sys2Proof.Machine.execTimeSwitch w s
  | .slewDone t => Sys2Proof.Machine.execSlewDone t s
  | .splitSample => Sys2Proof.Machine.execSplitSample s
  | .timeManual v w => Sys2Proof.Machine.execTimeManual v w s
  | .setA => Sys2Proof.Machine.execSetA s
  | .setB => Sys2Proof.Machine.execSetB s
  | .timeIncWrite t v => Sys2Proof.Machine.execTimeIncWrite t v s
  | .timeCapture => Sys2Proof.Machine.execTimeCapture s
  | .txqPop => Sys2Proof.Machine.execTxqPop s
  | .alarmArm k v w => Sys2Proof.Machine.execAlarmArm k v w s
  | .alarmFire k => Sys2Proof.Machine.execAlarmFire k s
  | .dmaqEnable q fn w => Sys2Proof.Machine.execDmaqEnable q fn w s
  | .dmaqAbort q => Sys2Proof.Machine.execDmaqAbort q s
  | .dmaqTailWrite q tail => Sys2Proof.Machine.execDmaqTailWrite q tail s
  | .dmaDescriptor q d bytes e req => Sys2Proof.Machine.execDmaDescriptor q d bytes e req s
  | .descriptorWriteback q => Sys2Proof.Machine.execDescriptorWriteback q s
  | .functionLevelReset fn => Sys2Proof.Machine.execFunctionLevelReset fn s
  | .pciePerst link => Sys2Proof.Machine.execPciePerst link s
  | .pcieMemRequest r x err => Sys2Proof.Machine.execPcieMemRequest r x err s
  | .peerWindowEnable k base idWord => Sys2Proof.Machine.execPeerWindowEnable k base idWord s
  | .mbxLockClaim c d token side => Sys2Proof.Machine.execMbxLockClaim c d token side s
  | .mbxLockRelease c d token side => Sys2Proof.Machine.execMbxLockRelease c d token side s
  | .post c d countM1 side => Sys2Proof.Machine.execPost c d countM1 side s
  | .ack c d side => Sys2Proof.Machine.execAck c d side s
  | .peerPost c ws countM1 => Sys2Proof.Machine.execPeerPost c ws countM1 s
  | .doorbellSet c dst w => Sys2Proof.Machine.execDoorbellSet c dst w s
  | .doorbellClear c dst w => Sys2Proof.Machine.execDoorbellClear c dst w s
  | .doorbellMaskWrite c dst w => Sys2Proof.Machine.execDoorbellMaskWrite c dst w s
  | .mbxCrossed c => Sys2Proof.Machine.execMbxCrossed c s
  | .mbxRequest c x => Sys2Proof.Machine.execMbxRequest c x s
  | .vinValid strap => Sys2Proof.Machine.execVinValid strap s
  | .vinLockout deep => Sys2Proof.Machine.execVinLockout deep s
  | .vinWarn => Sys2Proof.Machine.execVinWarn s
  | .vinRecover => Sys2Proof.Machine.execVinRecover s
  | .inputOvercurrent => Sys2Proof.Machine.execInputOvercurrent s
  | .overcurrent => Sys2Proof.Machine.execOvercurrent s
  | .railOvercurrent d => Sys2Proof.Machine.execRailOvercurrent d s
  | .brakeRelease cause => Sys2Proof.Machine.execBrakeRelease cause s
  | .powerCapLoop => Sys2Proof.Machine.execPowerCapLoop s
  | .pwrCreditWrite d n => Sys2Proof.Machine.execPwrCreditWrite d n s
  | .pwrVcoreWrite rail mv => Sys2Proof.Machine.execPwrVcoreWrite rail mv s
  | .thermalTrip part => Sys2Proof.Machine.execThermalTrip part s
  | .thermalTripClear part => Sys2Proof.Machine.execThermalTripClear part s
  | .thermalShutdown => Sys2Proof.Machine.execThermalShutdown s
  | .shutdownRailsOff => Sys2Proof.Machine.execShutdownRailsOff s
  | .blockIdleGate k => Sys2Proof.Machine.execBlockIdleGate k s
  | .porst ns => Sys2Proof.Machine.execPorst ns s
  | .tack => Sys2Proof.Machine.execTack s
  | .baste okA okB f => Sys2Proof.Machine.execBaste okA okB f s
  | .fit f mv0 mv1 mv2 mv3 => Sys2Proof.Machine.execFit f mv0 mv1 mv2 mv3 s
  | .refclkLoss => Sys2Proof.Machine.execRefclkLoss s
  | .refclkReturn => Sys2Proof.Machine.execRefclkReturn s
  | .refclkLost => Sys2Proof.Machine.execRefclkLost s
  | .rcRead a src => Sys2Proof.Machine.execRcRead a src s
  | .loCaptureRead a src => Sys2Proof.Machine.execLoCaptureRead a src s
  | .registerWrite a v src x => Sys2Proof.Machine.execRegisterWrite a v src x s
  | .refclkArrival => Sys2Proof.Machine.execRefclkArrival s
  | .porstNRelease strap => Sys2Proof.Machine.execPorstNRelease strap s
  | .laneAlignmentLost port lane => Sys2Proof.Machine.execLaneAlignmentLost port lane s
  | .mbxSessionTimeout c => Sys2Proof.Machine.execMbxSessionTimeout c s
  | .triggerBusBadFrame pair => Sys2Proof.Machine.execTriggerBusBadFrame pair s
  | .pcieLinkError uncorrectable => Sys2Proof.Machine.execPcieLinkError uncorrectable s
  | .fuseBlowDone => Sys2Proof.Machine.execFuseBlowDone s

end Sys2Proof.Machine
end

