-- ==== Sys2Proof/Machine/Tick.lean ====
section
/-! DEFINITION. What the block does with no command waiting: one REFCLK period of 6.4 ns (assumption 1). -/

namespace Sys2Proof.Machine

/-- What runs off REFCLK once it is locked: the time unit, the rails, the engines that sweep and copy HBM lines, and the
fabric's synthesised clocks. -/
def clockTick (s : State) : State :=
  if fbit s Reg.PWR_STATUS F.PWR_STATUS_REFCLK_OK then
    fabricTick (hbmTick (timeTick ((List.range 5).foldl vcoreTick s)))
  else s

/-- What Collar and the engines take from their queues by themselves: one item each. -/
def queueTick (s : State) : State :=
  let s := hemTick (ethDrain (ethDrain (mirrorTick s) 0) 1)
  shutdownAdvance (if odServing s then (List.range 64).foldl mbxPump s else s)

/-- One idle REFCLK period. -/
def idleTick (s : State) : State :=
  let s := queueTick (clockTick s)
  { s with ticks := s.ticks + 1 }

end Sys2Proof.Machine
end

