-- ==== Sys2Proof/WellFormed.lean ====
section
/-! DEFINITION. Well-formed commands: the limits on operands that their types do not already set. -/

namespace Sys2Proof

/-- A Seam frame is 80 words (R197). -/
def frameWf (ws : List (BitVec 64)) : Bool := decide (ws.length = 80)

/-- The command's operands lie within the limits that the spec sets them. -/
def Instr.wf (i : Instr) : Bool :=
  match i with
  | .stitch _ _ => true
  | .lut _ _ => true
  | .luts _ _ => true
  | .add _ _ => true
  | .addc _ _ => true
  | .sub _ _ => true
  | .subb _ _ => true
  | .cmp _ _ => true
  | .sll _ _ => true
  | .srl _ _ => true
  | .sra _ _ => true
  | .rol _ _ => true
  | .sllv _ _ => true
  | .srlv _ _ => true
  | .srav _ _ => true
  | .sel _ _ => true
  | .mov _ _ => true
  | .mulu _ _ => true
  | .muls _ _ => true
  | .wordResultWrite _ _ => true
  | .drd _ _ _ => true
  | .dwr _ _ _ => true
  | .ldsw _ _ => true
  | .stsw _ _ => true
  | .nop _ _ => true
  | .setpg _ _ => true
  | .brk _ _ => true
  | .mark _ _ => true
  | .dfence _ _ => true
  | .reloadDone _ _ _ _ => true
  | .pocketReturn _ _ => true
  | .hbmReturn _ _ _ => true
  | .hbmWriteAck _ _ _ => true
  | .dmemErrorResponse _ _ _ => true
  | .ldswResultWrite _ _ => true
  | .creditGrant _ _ => true
  | .sweepEnd _ => true
  | .ecycleComplete _ => true
  | .progressReport _ _ _ => true
  | .warpHop _ _ => true
  | .bridgeGroup _ _ _ => true
  | .warpGroupArrive _ _ => true
  | .stallWatchdogExpiry _ => true
  | .rateMeterWindow _ => true
  | .delayMonitorSample _ _ _ => true
  | .rateControlLoop _ => true
  | .bpClCtrlClrcnt _ => true
  | .bpSweepLenWrite _ _ => true
  | .bpPtrbaseWrite _ _ _ => true
  | .bpSpareMapWrite _ _ => true
  | .bpStallClr _ => true
  | .wrpClCtrlClr _ => true
  | .brgSpareWrite die bridge spare _ _ => (decide (bridge.val < (if die.val = 0 ∨ die.val = 3 then 3 else 1)) && decide (spare.val < (if bridge.val = (if die.val = 0 ∨ die.val = 3 then 2 else 0) then 24 else 8)))
  | .dmemDescW3Commit _ _ => true
  | .dmemFillGo _ => true
  | .fillDone _ => true
  | .dmemCtrlClrcnt _ => true
  | .rd _ => true
  | .wr _ => true
  | .wrm _ => true
  | .msg _ => true
  | .rdresp _ _ _ => true
  | .wrack _ _ _ => true
  | .err _ _ _ => true
  | .routerForward _ _ _ _ => true
  | .nocRequestTimeout _ _ => true
  | .tagQuarantineExpiry _ _ => true
  | .nocTimeoutWrite _ => true
  | .nocRtSwap _ => true
  | .rtSwapDone => true
  | .nocClrerr => true
  | .nocClrstat => true
  | .domainSleep _ => true
  | .domainGated _ => true
  | .domainWake _ => true
  | .domainAwake _ => true
  | .hbmRefresh _ => true
  | .integrityHalt _ _ => true
  | .pprRepair _ _ => true
  | .pcRetire _ _ => true
  | .pcCopyDone _ => true
  | .create _ _ => true
  | .createFillDone _ => true
  | .destroy _ _ => true
  | .ksNonceRead _ => true
  | .ksOpen _ _ _ => true
  | .ksWrapCfg _ _ _ => true
  | .ksWrapSector _ _ _ => true
  | .ksClose _ _ => true
  | .ksSessionTimeout _ => true
  | .lineRoll _ _ => true
  | .lineKeyRetire _ => true
  | .sectorRetire _ _ => true
  | .seamFrameSend _ => true
  | .dataFrame _ _ _ ws _ => frameWf ws
  | .seamValueInject _ _ => true
  | .idleFrame _ _ _ ws _ => frameWf ws
  | .nak _ _ _ ws _ => frameWf ws
  | .lostFrameDetect _ => true
  | .nakResendTimeout _ => true
  | .mapchk _ _ _ ws _ => frameWf ws
  | .resume _ _ _ ws _ => frameWf ws
  | .resumePoint _ _ _ ws _ => frameWf ws
  | .resumeEnd _ _ _ ws _ => frameWf ws
  | .haltFrame _ _ _ ws _ => frameWf ws
  | .peerHaltFrame _ _ _ ws _ => frameWf ws
  | .laneWindowEnd _ _ _ _ => true
  | .laneMove _ => true
  | .laneTrainDone _ _ _ => true
  | .laneStandbyRestore _ _ => true
  | .seamRetrain _ => true
  | .seamLinkUp _ _ _ => true
  | .seamDownTimeout _ => true
  | .seamCtrlEnWrite _ _ => true
  | .seamClrcnt _ => true
  | .bridgeCapture _ => true
  | .bridgeOutTake _ => true
  | .bridgeBind _ => true
  | .bridgeMove _ => true
  | .transactorRxBeat _ => true
  | .transactorTxBeat _ => true
  | .driverConflict _ _ _ _ => true
  | .vioChange _ _ => true
  | .bankConfigTake _ => true
  | .cuffClrcnt => true
  | .streamArrived _ _ => true
  | .stageTimeout _ => true
  | .cfgNop _ => true
  | .far _ => true
  | .write _ => true
  | .zero _ => true
  | .regions _ => true
  | .pattern _ => true
  | .keyRoll _ => true
  | .commit _ _ => true
  | .streamCommit _ _ _ => true
  | .regionRelease _ => true
  | .loadWaitEnd _ => true
  | .initNChange _ => true
  | .doneRise => true
  | .doneFall => true
  | .cfgDoneRelease _ => true
  | .doneHoldTimeout _ => true
  | .hemEnable => true
  | .hemDisable => true
  | .hemArm => true
  | .swev => true
  | .hemEvent _ => true
  | .hemOverflowSend => true
  | .hemRateTick => true
  | .acqTakeEcycle _ => true
  | .acqArm _ => true
  | .acqStop _ => true
  | .force _ => true
  | .trigInPulse _ _ => true
  | .acqTimerExpiry _ _ => true
  | .acqRearmDone _ => true
  | .trigOutPulseEnd _ => true
  | .fire _ _ _ => true
  | .busArm _ _ => true
  | .disarm _ _ => true
  | .busFrameSend _ _ => true
  | .rollback _ _ => true
  | .rollbackDrained _ _ _ _ _ _ => true
  | .selfTestDone _ _ => true
  | .replayPassesFault _ => true
  | .checkpointCommit _ => true
  | .checkpointSpill _ => true
  | .scrubStep _ _ => true
  | .voterTick _ => true
  | .scrubParamRewrite => true
  | .phaseDrop _ => true
  | .renew _ => true
  | .leaseGrant => true
  | .yieldLease _ => true
  | .leaseExpiry => true
  | .leaseNoneTimeout => true
  | .colSelfWrite _ _ _ => true
  | .lockstepFail _ => true
  | .controllerBoot _ => true
  | .sensorSample _ _ => true
  | .snsCal _ _ _ => true
  | .sensorCalDone _ _ _ => true
  | .logProgram _ => true
  | .configStoreWrite => true
  | .fwImage _ _ _ => true
  | .fwStart _ => true
  | .fwReadyTimeout => true
  | .fwConfirmExpiry => true
  | .fwAbort _ => true
  | .blow _ => true
  | .resetOther _ _ _ => true
  | .colRecovery _ _ => true
  | .recoveryChunkDone _ => true
  | .odRead _ _ _ _ _ => true
  | .odWrite _ _ _ _ _ _ => true
  | .odDescribe _ _ _ => true
  | .colOdCmdGo _ _ _ _ => true
  | .clampClear _ => true
  | .logRead _ => true
  | .run _ => true
  | .pause _ => true
  | .step _ => true
  | .stopEcycleWrite _ _ _ => true
  | .shutdown _ => true
  | .ethFrameRx _ _ => true
  | .ethLinkChange _ _ => true
  | .ethFailover => true
  | .hello _ _ _ _ => true
  | .openSession _ _ => true
  | .challengeLapse _ => true
  | .closeSession _ => true
  | .papSessionTimeout _ => true
  | .papRead _ _ => true
  | .papWrite _ _ _ => true
  | .segRead _ _ _ _ => true
  | .segWrite _ _ _ _ _ => true
  | .describe _ _ => true
  | .subscribe _ _ _ _ _ => true
  | .unsubscribe _ _ => true
  | .notify _ _ => true
  | .echo _ _ => true
  | .papViolation _ _ _ => true
  | .announce _ _ => true
  | .ptpSync _ _ => true
  | .followUp _ => true
  | .delayResp _ => true
  | .delayReqSend _ _ => true
  | .masterLost _ => true
  | .timeSwitch _ => true
  | .slewDone _ => true
  | .splitSample => true
  | .timeManual _ _ => true
  | .setA => true
  | .setB => true
  | .timeIncWrite _ _ => true
  | .timeCapture => true
  | .txqPop => true
  | .alarmArm _ _ _ => true
  | .alarmFire _ => true
  | .dmaqEnable _ _ _ => true
  | .dmaqAbort _ => true
  | .dmaqTailWrite _ _ => true
  | .dmaDescriptor _ _ _ _ _ => true
  | .descriptorWriteback _ => true
  | .functionLevelReset _ => true
  | .pciePerst _ => true
  | .pcieMemRequest _ _ _ => true
  | .peerWindowEnable _ _ _ => true
  | .mbxLockClaim _ _ _ _ => true
  | .mbxLockRelease _ _ _ _ => true
  | .post _ _ _ _ => true
  | .ack _ _ _ => true
  | .peerPost _ _ _ => true
  | .doorbellSet _ _ _ => true
  | .doorbellClear _ _ _ => true
  | .doorbellMaskWrite _ _ _ => true
  | .mbxCrossed _ => true
  | .mbxRequest _ _ => true
  | .vinValid _ => true
  | .vinLockout _ => true
  | .vinWarn => true
  | .vinRecover => true
  | .inputOvercurrent => true
  | .overcurrent => true
  | .railOvercurrent _ => true
  | .brakeRelease _ => true
  | .powerCapLoop => true
  | .pwrCreditWrite _ _ => true
  | .pwrVcoreWrite _ _ => true
  | .thermalTrip _ => true
  | .thermalTripClear _ => true
  | .thermalShutdown => true
  | .shutdownRailsOff => true
  | .blockIdleGate _ => true
  | .porst _ => true
  | .tack => true
  | .baste _ _ _ => true
  | .fit _ _ _ _ _ => true
  | .refclkLoss => true
  | .refclkReturn => true
  | .refclkLost => true
  | .rcRead _ _ => true
  | .loCaptureRead _ _ => true
  | .registerWrite _ _ _ _ => true
  | .refclkArrival => true
  | .porstNRelease _ => true
  | .laneAlignmentLost _ _ => true
  | .mbxSessionTimeout _ => true
  | .triggerBusBadFrame _ => true
  | .pcieLinkError _ => true
  | .fuseBlowDone => true

end Sys2Proof
end

