-- ==== Sys2Proof/Safety.lean ====
section
/-! DEFINITION. What counts as a legal state and a safe run: the invariant that every step keeps, and the words in which
the statements say what a command does and what it leaves alone. -/

namespace Sys2Proof

open Machine

/-- The canonical form of the addressed memory (assumption 3). -/
def Safety.memoryWf (s : Machine.State) : Prop := Machine.memWf s.mem = true

/-! ## Completion and frames -/

/-- The command answers a next state, of which `P` holds. -/
def Safety.Runs (i : Instr) (s : State) (P : State → Prop) : Prop := ∃ t, exec i s = .next t ∧ P t

/-- Nothing but registers changes. -/
def Safety.RegsOnly (s t : State) : Prop := t = { s with regs := t.regs }

/-- Nothing but dictionary entries changes. -/
def Safety.OdOnly (s t : State) : Prop := t = { s with od := t.od }

/-- Nothing but registers and dictionary entries changes. -/
def Safety.RegsOdOnly (s t : State) : Prop := t = { s with regs := t.regs, od := t.od }

/-- Nothing but the dies' engines changes. -/
def Safety.DiesOnly (s t : State) : Prop := t = { s with dies := t.dies }

/-- Nothing but track stages changes. -/
def Safety.StagesOnly (s t : State) : Prop := t = { s with stages := t.stages }

/-- Every register outside `l` reads as before. -/
def Safety.RegsKept (s t : State) (l : List Nat) : Prop := ∀ a, a ∉ l → rget t a = rget s a

/-- Every dictionary entry outside `l` reads as before. -/
def Safety.OdKept (s t : State) (l : List Nat) : Prop := ∀ k, k ∉ l → oget t k = oget s k

/-- Every byte of memory outside `[lo, hi)` reads as before. -/
def Safety.MemKept (s t : State) (lo hi : Nat) : Prop := ∀ a, a < lo ∨ hi ≤ a → memByte t a = memByte s a

/-- Every cluster but `c` is as before. -/
def Safety.ClustersKept (s t : State) (c : ClusterId) : Prop := ∀ i, i ≠ c.idx → getCl t i = getCl s i

/-- Every die's engine but that of die `d` is as before. -/
def Safety.DiesKept (s t : State) (d : Nat) : Prop := ∀ i, i ≠ d → getDie t i = getDie s i

/-- Every partition's own state but that of `p` is as before. -/
def Safety.PartsKept (s t : State) (p : Nat) : Prop := ∀ i, i ≠ p → getPart t i = getPart s i

/-- A controller holds the charge lease, the module is past Tack, and no orderly shutdown is in progress: Collar serves
requests (R397, R519, R527). -/
def Safety.serving (s : State) : Prop :=
  leased s = true ∧ fget s Reg.PWR_STATUS F.PWR_STATUS_STAGE ≠ 0 ∧ s.power.closing = false

/-! ## A stitch -/

/-- The cluster has approached a stitch of its sweep (R79 order 1, R81): the stitch has GO and its operands, no BP of it waits or
meets a tag fault (R36, R84), and logical BP `b`, whose instruction there is `i`, has not run it. -/
def Safety.stitchReady (s : State) (c : ClusterId) (b : Fin 32) (i : BpInstr) : Prop :=
  participating s c = true ∧ partOf s c ≠ none ∧ (getCl s c.idx).inSweep = true ∧
  (getCl s c.idx).stitch < sweepLen s c ∧ hasRun (getCl s c.idx) b.val = false ∧ instrAt s c b.val = i ∧
  approach s c = s ∧ stitchWaits s c = [] ∧ stitchTagFault s c = none

/-- What every instruction does to the result bits: bit `b` of the stitch's results is `v` and BP `b` has run (R79). -/
def Safety.resultSet (k k' : Cluster) (b : Nat) (v : Bool) : Prop :=
  (∀ j, j < 32 → k'.cur.getLsbD j = if j = b then v else k.cur.getLsbD j) ∧
  (∀ j, j < 32 → hasRun k' j = (decide (j = b) || hasRun k j))

/-- What SW and DW write of a LUT or LUTS result `v` (R49, R53, R54), and all that is left alone. -/
def Safety.lutEffect (s t : State) (c : ClusterId) (b : Nat) (v sw dw : Bool) : Prop :=
  let k := getCl s c.idx
  let k' := getCl t c.idx
  let p := sget (fun _ => 0) k.dwptr b
  let q := sget (fun _ => 0) k.swptr b
  resultSet k k' b v ∧
  (dw = true → memBit t (dataBase c b) p = v ∧ sget (fun _ => 0) k'.dwptr b = (p + 1) % 16384 ∧
    MemKept s t (dataBase c b + p / 8) (dataBase c b + p / 8 + 1)) ∧
  (dw = false → t.mem = s.mem ∧ k'.dwptr = k.dwptr) ∧
  (sw = true → sget (fun _ => 0) k'.swptr b = (q + 1) % 65536 ∧
    (sget (fun _ => none) k.written q = none → sget (fun _ => none) k'.written q = some ⟨v, k.stitch, b⟩) ∧
    ∀ a, a ≠ q → sget (fun _ => none) k'.written a = sget (fun _ => none) k.written a) ∧
  (sw = false → k'.swptr = k.swptr ∧ k'.written = k.written) ∧
  k' = { k with cur := k'.cur, ran := k'.ran, dwptr := k'.dwptr, swptr := k'.swptr, written := k'.written } ∧
  ClustersKept s t c

/-- The command of a word operation. -/
def Safety.wordCommand (op : WordOp) (c : ClusterId) (b : Fin 32) : Instr :=
  match op with
  | .add => .add c b | .addc => .addc c b | .sub => .sub c b | .subb => .subb c b | .cmp => .cmp c b
  | .sll => .sll c b | .srl => .srl c b | .sra => .sra c b | .rol => .rol c b
  | .sllv => .sllv c b | .srlv => .srlv c b | .srav => .srav c b
  | .sel => .sel c b | .mov => .mov c b | .mulu => .mulu c b | .muls => .muls c b

/-! ## The Cuff -/

/-- `t` is `u` once its fabric has followed: trees on pins and cells, and then the pins. Where no tree of `u` hangs on a pin or a cell,
nothing but pins changes. -/
def Safety.FabricFollows (u t : State) : Prop :=
  t = settleFabric u ∧ ((∀ n, n < 8 → treeSrc u n ≠ 1 ∧ treeSrc u n ≠ 2) → t = { u with pinOut := t.pinOut })

/-- The command answers a next state in which the fabric has followed a state of which `P` holds. -/
def Safety.RunsFabric (i : Instr) (s : State) (P : State → Prop) : Prop := Runs i s fun t => ∃ u, FabricFollows u t ∧ P u

/-- The same of a bridge's binding or move, after which the waits of its partition's clusters are reviewed (R95). -/
def Safety.RunsBridge (i : Instr) (s : State) (slot : Nat) (P : State → Prop) : Prop :=
  Runs i s fun t => ∃ u v, FabricFollows u v ∧ t = reviewSlot v slot ∧ P u

/-! ## Seam frames -/

/-- A lane word that shows MARK and its reserved bits 0, and STANDBY as told (R196). -/
def Safety.goodWord (word : BitVec 20) (standby : Bool) : Prop :=
  word.toNat / 2 ^ 16 = 9 ∧ word.toNat % 2 ^ 12 = 0 ∧ decide (word.toNat / 2 ^ 12 % 2 = 1) = standby

/-- A frame that a port carrying frames takes: its codeword was correctable, its CRC is right, and the checks of every type
pass (R197, R202, R212). -/
def Safety.goodFrame (s : State) (i : Nat) (f : SeamFrame) (fec : Bool) : Prop :=
  portUp s i = true ∧ fec = true ∧ crc32 (frameBytes f) = frameBits f 79 63 32 ∧ frameFits f = true

/-- The state once a frame's lane word, header and tokens are taken (R196, R201 to R207). -/
def Safety.headTaken (s : State) (i lane : Nat) (standby : Bool) (f : SeamFrame) : State :=
  takeTokens (takeHeader (laneSeen s i lane standby) i f) i f

/-- A DATA or CTRL frame that is next in order and is not withheld (R200, R202): its SEQ is the one expected, no frame is
held for order or waits to be unpacked. -/
def Safety.nextInOrder (s : State) (i : Nat) (f : SeamFrame) : Prop :=
  frameBits f 0 59 44 = (getPort s i).rxNext ∧ (getPort s i).rxNext < 65536 ∧ (getPort s i).rxWait = [] ∧
  (getPort s i).rxHeld = []

/-! ## PAP requests -/

/-- A request of an open session under a SEQ not seen before, within the window (R455, R458); neither side's SEQ is the last. -/
def Safety.papNew (s : State) (m : PapMsg) (k : Nat) (x : Session) : Prop :=
  odServing s = true ∧ m.session ≠ 0 ∧ sessionSlot s m.session.toNat = some k ∧ getSession s k = some x ∧
  m.seq ≠ 0 ∧ m.seq.toNat < 0xFFFFFFFF ∧ x.next < 0xFFFFFFFF ∧ (∀ r ∈ x.stored, r.req ≠ m.seq.toNat) ∧
  x.high < m.seq.toNat + 32

/-- The message with the tag that its TYPE and body have in its session (R451). -/
def Safety.papTagged (x : Session) (m : PapMsg) (type : Nat) (body : List Byte) : PapMsg :=
  { m with tag := requestTag x m.seq.toNat type body }

/-- The request is answered once, sealed in its session, under the module's next SEQ, and the response is kept (R451, R455, R458). -/
def Safety.papAnswered (s t : State) (m : PapMsg) (k : Nat) (x : Session) (type : Nat) (body : List Byte) : Prop :=
  t.papSent = s.papSent ++ [sessionMessage { x with addr := m.src.toNat } x.next type m.seq.toNat body] ∧
  ∃ y, getSession t k = some y ∧ y.number = x.number ∧ y.part = x.part ∧ y.key = x.key ∧ y.addr = m.src.toNat ∧
    y.high = max x.high m.seq.toNat ∧ y.next = x.next + 1 ∧
    y.stored.head? = some ⟨m.seq.toNat, type, x.next, body⟩

end Sys2Proof
end

