-- ==== Sys2Proof/Certificates/Slice0/Obligations.lean ====
section
/-! DEFINITION. The statements for the provers. -/

section

open Sys2Proof Sys2Proof.Machine Sys2Proof.Safety

/-! ## The queue -/

/-- The command at the front of the queue is what a step runs, on the state with the queue's rest. Model readings and
choices it rests on: assumption 1. -/
def Obligations.StepRunsTheFrontCommand : Prop :=
  ∀ (s : State) (c : Instr) (rest : List Instr),
    Machine.step { s with pending := c :: rest } = exec c { s with pending := rest }

/-! ## Instructions (02, 03) -/

/-- From R44 to R46, R49, R53, R79. LUT and LUTS on every encoding, a reserved selector or field included (R72). Model
readings and choices it rests on: assumption 8. -/
def Obligations.LutStitchesGiveTheirResult : Prop :=
  ∀ (s : State) (c : ClusterId) (b : Fin 32) (tt : BitVec 16) (x y z : BitVec 9) (sw dw : Bool),
    (∀ w : BitVec 9, stitchReady s c b (.lut tt x y z w sw dw) →
      Runs (.lut c b) s fun t =>
        let o := operandBit s c (getCl s c.idx) b.val
        lutEffect s t c b.val (tt.getLsbD (8 * (o w).toNat + 4 * (o z).toNat + 2 * (o y).toNat + (o x).toNat)) sw dw) ∧
    (∀ a : BitVec 16, stitchReady s c b (.luts tt x y z sw dw a) →
      Runs (.luts c b) s fun t =>
        let o := operandBit s c (getCl s c.idx) b.val
        lutEffect s t c b.val
          (tt.getLsbD (8 * (memBit s (stateBase c) a.toNat).toNat + 4 * (o z).toNat + 2 * (o y).toNat + (o x).toNat)) sw dw)

/-- From R57 to R61: a word stitch puts its result in flight, under its issue key; the BP's own result bit is 0. R59:
the results of the word operations, and the carry and overflow flags, in 32-bit arithmetic. Model readings and choices
it rests on: assumptions 8, 13. -/
def Obligations.WordStitchesComputeAndIssueTheirResult : Prop :=
  (∀ (s : State) (c : ClusterId) (b : Fin 32) (op : WordOp) (f : WordFields),
     stitchReady s c b (.word op f) →
     Runs (wordCommand op c b) s fun t =>
       let k := getCl s c.idx
       let k' := getCl t c.idx
       let r := wordResult op (wordA s c f) (wordB s c f) k.flags.c f.imm5.toNat (windowBit k f.csel)
       let p : PendingWrite :=
         { key := ⟨k.ecycle, k.stitch, b.val⟩, port := .word, wr := decide (op ≠ .cmp), value := r.value,
           lat := wordLatency Config.stepping op,
           entry := if f.nwb = true ∨ op = .cmp then none else some f.df.toNat,
           zn := if f.fw = true ∨ op = .cmp then some (decide (r.value = 0), r.value.getLsbD 31) else none,
           cv := if f.fw = true ∨ op = .cmp then r.cv else none }
       k'.pend = k.pend ++ [p] ∧
       resultSet k k' b.val false ∧ k' = { k with cur := k'.cur, ran := k'.ran, pend := k'.pend } ∧
       t.mem = s.mem ∧ ClustersKept s t c) ∧
  (∀ (a b : Word) (fc cond : Bool) (n : Nat),
     let v := fun op => (wordResult op a b fc n cond).value
     let cv := fun op => (wordResult op a b fc n cond).cv
     v .add = a + b ∧ v .addc = a + b + BitVec.ofNat 32 fc.toNat ∧
     v .sub = a - b ∧ v .subb = a - b - BitVec.ofNat 32 fc.toNat ∧ v .cmp = a - b ∧
     v .sll = a <<< n ∧ v .srl = a >>> n ∧ v .sra = a.sshiftRight n ∧ v .rol = a.rotateLeft n ∧
     v .sllv = a <<< (b.toNat % 32) ∧ v .srlv = a >>> (b.toNat % 32) ∧ v .srav = a.sshiftRight (b.toNat % 32) ∧
     v .sel = (if cond then a else b) ∧ v .mov = a ∧
     v .mulu = (a &&& 0xFFFF#32) * (b &&& 0xFFFF#32) ∧
     v .muls = (a.setWidth 16).signExtend 32 * (b.setWidth 16).signExtend 32 ∧
     cv .add = some (decide (2 ^ 32 ≤ a.toNat + b.toNat), a.saddOverflow b) ∧
     cv .sub = some (decide (a.toNat < b.toNat), a.ssubOverflow b) ∧ cv .cmp = cv .sub ∧
     cv .sel = none ∧ cv .mov = none ∧ cv .mulu = some (false, false) ∧ cv .muls = some (false, false))

/-- From R60, R61, R63, R64: a word result that may complete enters the word file, WR and the flags, and a result of
port W1 enters the word file when its turn comes; each only where no write of a higher issue key stands, and it is in
flight no more. Model readings and choices it rests on: assumptions 13, 15, 85. -/
def Obligations.CompletedResultsLand : Prop :=
  ∀ (s : State) (c : ClusterId) (key : IssueKey) (p : PendingWrite),
    (findPending (getCl s c.idx) .word key = some p ∧ mayComplete s c p = true ∨
      (findPending (getCl s c.idx) .ldsw key = some p ∨ findPending (getCl s c.idx) .pocket key = some p) ∧
        ((getCl s c.idx).w1Used = false ∨ (getCl s c.idx).inSweep = false) ∧
        w1Next (getCl s c.idx) (mayComplete s c) = some p) →
    Runs (match p.port with
      | .word => .wordResultWrite c key
      | .ldsw => .ldswResultWrite c key
      | _ => .pocketReturn c key) s fun t =>
      let k := getCl s c.idx
      let k' := getCl t c.idx
      (∀ e, p.entry = some e → keyAfter (sget (fun _ => none) k.wfKey e) p.key = true →
        wfGet t c e = p.value ∧ MemKept s t (wfAddr c e) (wfAddr c e + 4) ∧
        sget (fun _ => none) k'.wfKey e = some p.key) ∧
      (∀ e, p.entry = some e → keyAfter (sget (fun _ => none) k.wfKey e) p.key = false → t.mem = s.mem) ∧
      (p.entry = none → t.mem = s.mem) ∧
      k'.pend = k.pend.erase p ∧
      k'.wr = (if p.wr = true ∧ keyAfter k.wrKey p.key = true then p.value else k.wr) ∧
      (∀ z n, p.zn = some (z, n) → keyAfter k.znKey p.key = true → k'.flags.z = z ∧ k'.flags.n = n) ∧
      (∀ o v, p.cv = some (o, v) → keyAfter k.cvKey p.key = true → k'.flags.c = o ∧ k'.flags.v = v) ∧
      (p.zn = none ∨ keyAfter k.znKey p.key = false → k'.flags.z = k.flags.z ∧ k'.flags.n = k.flags.n) ∧
      (p.cv = none ∨ keyAfter k.cvKey p.key = false → k'.flags.c = k.flags.c ∧ k'.flags.v = k.flags.v) ∧
      t = { s with mem := t.mem, clusters := t.clusters, regs := t.regs } ∧ RegsKept s t [Reg.BP_PROGRESS c] ∧
      ClustersKept s t c

/-- From R68, R69: the control stitches. NOP and DFENCE do nothing more than run (R68, R140); a reserved operation
runs as NOP (R72). R72: the first illegal encoding that a cluster executes while BP_ILLEGAL.VALID is 0 is captured,
and makes one log record; a reserved operation then runs as NOP. The record's severity is the model's free constant
(assumption 5). Model readings and choices it rests on: assumptions 5, 8, 81. -/
def Obligations.ControlAndIllegalStitchesHaveTheirEffect : Prop :=
  (∀ (s : State) (c : ClusterId) (b : Fin 32),
     let k := getCl s c.idx
     (stitchReady s c b .nop ∨ stitchReady s c b .reserved →
       Runs (.nop c b) s fun t => resultSet k (getCl t c.idx) b.val false ∧ t.mem = s.mem ∧ ClustersKept s t c) ∧
     (stitchReady s c b .dfence →
       Runs (.dfence c b) s fun t => resultSet k (getCl t c.idx) b.val false ∧ t.mem = s.mem ∧ ClustersKept s t c) ∧
     (∀ page, stitchReady s c b (.setpg page) →
       Runs (.setpg c b) s fun t =>
         resultSet k (getCl t c.idx) b.val false ∧ t.mem = s.mem ∧ ClustersKept s t c ∧
         (∀ j, sget (fun _ => 0) (getCl t c.idx).dpage j =
           if j = b.val then page.toNat else sget (fun _ => 0) k.dpage j)) ∧
     (∀ u i, stitchReady s c b (.brk u i) →
       Runs (.brk c b) s fun t =>
         resultSet k (getCl t c.idx) b.val false ∧ t.mem = s.mem ∧ ClustersKept s t c ∧
         (getCl t c.idx).breakReq = (k.breakReq || u || windowBit k i) ∧
         ((u || windowBit k i) = true → fget t (Reg.BP_CL_STATUS c) F.BP_CL_STATUS_BRK = 1)) ∧
     (∀ tag u i p, stitchReady s c b (.mark tag u i) → partOf s c = some p →
       Runs (.mark c b) s fun t =>
         resultSet k (getCl t c.idx) b.val false ∧ t.mem = s.mem ∧
         ((u || windowBit k i) = true → (getPart s p).marksActed ≤ k.ecycle →
           (getPart t p).marks = (getPart s p).marks ++ [⟨k.ecycle, imageStitch s p k.stitch, tag.toNat⟩]) ∧
         ((u || windowBit k i) = false → (getPart t p).marks = (getPart s p).marks))) ∧
  (∀ (s : State) (c : ClusterId) (b : Fin 32),
     stitchReady s c b .reserved → s.logQueue.length < 4096 →
     Runs (.nop c b) s fun t =>
       let k := getCl s c.idx
       resultSet k (getCl t c.idx) b.val false ∧
       fget t (Reg.BP_CL_STATUS c) F.BP_CL_STATUS_ILL = 1 ∧
       (fbit s (Reg.BP_ILLEGAL c) F.BP_ILLEGAL_VALID = false → k.stitch < 8192 →
         fget t (Reg.BP_ILLEGAL c) F.BP_ILLEGAL_VALID = 1 ∧ fget t (Reg.BP_ILLEGAL c) F.BP_ILLEGAL_STITCH = k.stitch ∧
         fget t (Reg.BP_ILLEGAL c) F.BP_ILLEGAL_BP = b.val ∧ t.logSeq = s.logSeq + 1 ∧
         ∃ r, t.logQueue = s.logQueue ++ [r] ∧ r.code = Code.ILLEGAL_ENCODING ∧ r.seq = s.logSeq) ∧
       (fbit s (Reg.BP_ILLEGAL c) F.BP_ILLEGAL_VALID = true →
         rget t (Reg.BP_ILLEGAL c) = rget s (Reg.BP_ILLEGAL c) ∧ t.logQueue = s.logQueue))

/-- R39: a BP that executes a WORD, MEM or CTRL stitch writes 0 as its result bit for that stitch. Model readings and
choices it rests on: assumption 8. -/
def Obligations.NonLutStitchesWriteZero : Prop :=
  ∀ (s : State) (c : ClusterId) (b : Fin 32),
    let zero := fun (t : State) => resultSet (getCl s c.idx) (getCl t c.idx) b.val false
    let inOrder := ∀ a, a < b.val → hasRun (getCl s c.idx) a = true ∨ isMemOp (instrAt s c a) = false
    (∀ op f, stitchReady s c b (.word op f) → Runs (wordCommand op c b) s zero) ∧
    (∀ desc awf dwf wc wb, stitchReady s c b (.drd desc awf dwf wc wb) → inOrder → Runs (.drd c b false) s zero) ∧
    (∀ desc awf dwf wc wb mwf me, stitchReady s c b (.dwr desc awf dwf wc wb mwf me) → inOrder → Runs (.dwr c b false) s zero) ∧
    (∀ swa dwf, stitchReady s c b (.ldsw swa dwf) → Runs (.ldsw c b) s zero) ∧
    (∀ swa swf wc wb, stitchReady s c b (.stsw swa swf wc wb) → Runs (.stsw c b) s zero) ∧
    (stitchReady s c b .nop → Runs (.nop c b) s zero) ∧
    (∀ page, stitchReady s c b (.setpg page) → Runs (.setpg c b) s zero) ∧
    (∀ u i, stitchReady s c b (.brk u i) → Runs (.brk c b) s zero) ∧
    (∀ tag u i, stitchReady s c b (.mark tag u i) → Runs (.mark c b) s zero) ∧
    (stitchReady s c b .dfence → Runs (.dfence c b) s zero)

/-- From R63, R66, R67, R131, R134, R135, R139, R142: the memory stitches. A read's value is on its way to the word
file under its issue key; a write to Pocket is made; a check that fails makes no access; a descriptor entry that
cannot be read holds the cluster for its reload. Model readings and choices it rests on: assumptions 8, 13, 94. -/
def Obligations.MemoryStitchesMakeTheirAccess : Prop :=
  ∀ (s : State) (c : ClusterId) (b : Fin 32),
    let k := getCl s c.idx
    let ret := fun (port : WbPort) (entry : BitVec 10) (v : Word) =>
      ({ key := ⟨k.ecycle, k.stitch, b.val⟩, port := port, entry := some entry.toNat, value := v, wr := false,
         zn := none, cv := none, lat := if port = .ldsw then 1 else pocketDistance } : PendingWrite)
    (∀ swa dwf, stitchReady s c b (.ldsw swa dwf) →
      Runs (.ldsw c b) s fun t =>
        (getCl t c.idx).pend = k.pend ++ [ret .ldsw dwf (BitVec.ofNat 32 (memLE s (stateBase c + 4 * swa.toNat) 4))] ∧
        resultSet k (getCl t c.idx) b.val false ∧ t.mem = s.mem ∧ ClustersKept s t c) ∧
    (∀ swa swf wc wb, stitchReady s c b (.stsw swa swf wc wb) →
      Runs (.stsw c b) s fun t =>
        (condHolds k wc wb = true → ∀ i, i < 32 → sget (fun _ => none) k.written (32 * swa.toNat + i) = none →
          sget (fun _ => none) (getCl t c.idx).written (32 * swa.toNat + i) =
            some ⟨(wfGet s c swf.toNat).getLsbD i, k.stitch, b.val⟩) ∧
        (∀ a, condHolds k wc wb = false ∨ a < 32 * swa.toNat ∨ 32 * swa.toNat + 32 ≤ a →
          sget (fun _ => none) (getCl t c.idx).written a = sget (fun _ => none) k.written a) ∧
        resultSet k (getCl t c.idx) b.val false ∧ t.mem = s.mem ∧ ClustersKept s t c) ∧
    (∀ desc awf dwf wc wb, stitchReady s c b (.drd desc awf dwf wc wb) →
      (∀ a, a < b.val → hasRun k a = true ∨ isMemOp (instrAt s c a) = false) →
      Runs (.drd c b false) s fun t =>
        let d := descGet s c.die.val desc.toNat
        let a := awfAddr s c awf
        resultSet k (getCl t c.idx) b.val false ∧ t.mem = s.mem ∧ ClustersKept s t c ∧
        (condHolds k wc wb = false → (getCl t c.idx).pend = k.pend) ∧
        (condHolds k wc wb = true → descCheck s c d a = none → a ≤ descDepthM1 d → descPocket d = true →
          (getCl t c.idx).pend = k.pend ++ [ret .pocket dwf (readElem s c.die.val d a)]) ∧
        (condHolds k wc wb = true → descCheck s c d a = none → descDepthM1 d < a →
          (getCl t c.idx).pend = k.pend ++ [ret .pocket dwf 0] ∧
          fget t (Reg.DMEM_OOR_CNT c.die.val) F.DMEM_OOR_CNT_COUNT =
            min (fget s (Reg.DMEM_OOR_CNT c.die.val) F.DMEM_OOR_CNT_COUNT + 1) 0xFFFFFFFF) ∧
        (condHolds k wc wb = true → descCheck s c d a ≠ none → (getCl t c.idx).pend = k.pend ++ [ret .pocket dwf 0]) ∧
        (condHolds k wc wb = true → descCheck s c d a = none → a ≤ descDepthM1 d → descPocket d = false →
          (getCl t c.idx).pend = k.pend ++ [ret .hbm dwf 0] ∧
          ∃ o, (getDie t c.die.val).ops = (getDie s c.die.val).ops ++ [o] ∧ o.cluster = c.idx ∧ o.desc = desc.toNat ∧
            o.addr = elemAddr d a ∧ o.elem = a ∧ o.write = false)) ∧
    (∀ desc awf dwf wc wb mwf me, stitchReady s c b (.dwr desc awf dwf wc wb mwf me) →
      (∀ a, a < b.val → hasRun k a = true ∨ isMemOp (instrAt s c a) = false) →
      Runs (.dwr c b false) s fun t =>
        let d := descGet s c.die.val desc.toNat
        let a := awfAddr s c awf
        let at_ := descBase c.die.val d + a * descElemBits d / 8
        let mask : Word := if me then wfGet s c mwf.toNat else BitVec.allOnes 32
        resultSet k (getCl t c.idx) b.val false ∧ (getCl t c.idx).pend = k.pend ∧ ClustersKept s t c ∧
        MemKept s t at_ (at_ + (descElemBits d + 7) / 8) ∧
        (condHolds k wc wb = false ∨ descCheck s c d a ≠ none ∨ descDepthM1 d < a ∨ descRo d = true ∨ descPocket d = false →
          t.mem = s.mem) ∧
        (condHolds k wc wb = true → descCheck s c d a = none → descDepthM1 d < a →
          fget t (Reg.DMEM_OOR_CNT c.die.val) F.DMEM_OOR_CNT_COUNT =
            min (fget s (Reg.DMEM_OOR_CNT c.die.val) F.DMEM_OOR_CNT_COUNT + 1) 0xFFFFFFFF) ∧
        (condHolds k wc wb = true → descCheck s c d a = none → a ≤ descDepthM1 d → descRo d = true →
          fget t (Reg.DMEM_RO_WR_CNT c.die.val) F.DMEM_RO_WR_CNT_COUNT =
            min (fget s (Reg.DMEM_RO_WR_CNT c.die.val) F.DMEM_RO_WR_CNT_COUNT + 1) 0xFFFFFFFF) ∧
        (condHolds k wc wb = true → descCheck s c d a = none → a ≤ descDepthM1 d → descRo d = false → descPocket d = true →
          ∀ i, i < descWidth d → (readElem t c.die.val d a).getLsbD i =
            if mask.getLsbD i then (wfGet s c dwf.toNat).getLsbD i else (readElem s c.die.val d a).getLsbD i) ∧
        (condHolds k wc wb = true → descCheck s c d a = none → a ≤ descDepthM1 d → descRo d = false →
          descPocket d = false →
          ∃ o, (getDie t c.die.val).ops = (getDie s c.die.val).ops ++ [o] ∧ o.cluster = c.idx ∧ o.desc = desc.toNat ∧
            o.addr = elemAddr d a ∧ o.elem = a ∧ o.write = true ∧ o.data = wfGet s c dwf.toNat ∧ o.mask = mask)) ∧
    (∀ desc awf dwf wc wb, stitchReady s c b (.drd desc awf dwf wc wb) →
      Runs (.drd c b true) s fun t =>
        desc.toNat ∈ (getDie t c.die.val).badDesc ∧ causeRepair ∈ (getCl t c.idx).waits ∧
        hasRun (getCl t c.idx) b.val = false ∧ t.mem = s.mem)

/-! ## Results, descriptors, the sweep and Warp (03 to 05) -/

/-- From R32, R63, R135, R138, R143, R144, R146, R280, R382: what comes back from HBM. A read's value is the element
as every write of lower key left it, and goes through port W1; a write is made after its line's undo record; an error
holds the cluster. R275, R276, R282, R389, R391: refresh changes nothing that software sees; a pseudo-channel retires
with its copy; repair rows are counted; the integrity halt zeroises every key and reports where the tag failed. Model
readings and choices it rests on: assumptions 11, 16, 36, 78. -/
def Obligations.HbmOperationsAndEventsHaveTheirEffect : Prop :=
  (∀ (s : State) (c : ClusterId) (key : IssueKey) (o : DmemOp) (r : LineRead),
     let k := getCl s c.idx
     let x := getDie s c.die.val
     let d := descGet s c.die.val o.desc
     let failed := fun (t : State) =>
       (getDie t c.die.val).ops = x.ops.erase o ∧ (getCl t c.idx).hold = true ∧ (getCl t c.idx).pend = k.pend ∧ t.mem = s.mem
     (∀ p, findPending k .hbm key = some p → findOp x c key false = some o → earlierOp x o = false → opCode s c o = 0 →
       r ∈ [LineRead.clean, .corrected, .tagRetry] →
       let v := readElem s c.die.val d o.elem
       let p' := { p with value := v, ready := true }
       let k1 := { k with pend := k.pend.map fun q => if q = p then p' else q }
       let turn := (k.w1Used && k.inSweep) = false ∧ w1Next k1 (mayComplete (setCl s c.idx k1) c) = some p'
       Runs (.hbmReturn c key r) s fun t =>
         (getDie t c.die.val).ops = x.ops.erase o ∧ DiesKept s t c.die.val ∧
         (¬ turn → (getCl t c.idx).pend = k1.pend ∧ t.mem = s.mem) ∧
         (turn → (getCl t c.idx).pend = k1.pend.erase p' ∧
           ∀ e, p.entry = some e → MemKept s t (wfAddr c e) (wfAddr c e + 4) ∧
             (keyAfter (sget (fun _ => none) k.wfKey e) p.key = true → wfGet t c e = v))) ∧
     (findOp x c key true = some o → earlierOp x o = false → opCode s c o = 0 → undoHolds s c o = false →
       r ∈ [LineRead.clean, .corrected, .tagRetry] →
       Runs (.hbmWriteAck c key r) s fun t =>
         t.mem = (writeElem s c.die.val d o.elem o.data o.mask).mem ∧
         (getDie t c.die.val).ops = x.ops.erase o ∧ DiesKept s t c.die.val ∧ (getCl t c.idx).pend = k.pend ∧
         ∀ p, partOf s c = some p → (getPart t p).undo.any (fun u => decide (u.1 = lineOf o.addr)) = true) ∧
     (∀ p, findPending k .hbm key = some p → findOp x c key false = some o → earlierOp x o = false → opCode s c o ≠ 0 →
       Runs (.hbmReturn c key r) s failed) ∧
     (findOp x c key true = some o → earlierOp x o = false → opCode s c o ≠ 0 → Runs (.hbmWriteAck c key r) s failed) ∧
     (∀ ue, (x.ops.find? fun q => decide (q.cluster = c.idx) && decide (q.key = key)) = some o →
       Runs (.dmemErrorResponse c key ue) s fun t => failed t ∧ ClustersKept s t c)) ∧
  (∀ (s : State) (d : Fin 4) (pc : Fin 64),
     (Runs (.hbmRefresh d) s fun t => t = s) ∧
     (fbit s (Reg.HBM_STATUS d.val) F.HBM_STATUS_RETIRED = false →
       Runs (.pcRetire d pc) s fun t =>
         fget t (Reg.HBM_STATUS d.val) F.HBM_STATUS_RETIRED = 1 ∧
         fget t (Reg.HBM_STATUS d.val) F.HBM_STATUS_RETIRED_PC = pc.val ∧
         fget t (Reg.HBM_STATUS d.val) F.HBM_STATUS_COPYING = 1 ∧ copiedTo t d.val = 0 ∧
         1 ≤ oget t Od.HEALTH ∧ t.mem = s.mem) ∧
     (Runs (.pcCopyDone d) s fun t =>
       fget t (Reg.HBM_STATUS d.val) F.HBM_STATUS_COPYING = 0 ∧
       fget t (Reg.HBM_STATUS d.val) F.HBM_STATUS_RETIRED = fget s (Reg.HBM_STATUS d.val) F.HBM_STATUS_RETIRED ∧
       (fbit s (Reg.HBM_STATUS d.val) F.HBM_STATUS_COPYING = true → copiedTo t d.val = pcDataLines) ∧
       t = { s with regs := t.regs, copied := t.copied } ∧ RegsKept s t [Reg.HBM_STATUS d.val]) ∧
     (sget (fun _ => 0) s.pprUsed (64 * d.val + pc.val) < 16 →
       Runs (.pprRepair d pc) s fun t =>
         sget (fun _ => 0) t.pprUsed (64 * d.val + pc.val) = sget (fun _ => 0) s.pprUsed (64 * d.val + pc.val) + 1 ∧
         oget t Od.PPR_ROWS_USED = oget s Od.PPR_ROWS_USED + 1 ∧ 1 ≤ oget t Od.HEALTH ∧ t.mem = s.mem) ∧
     (∀ line : Fin 754974720,
       (halted s = false →
         Runs (.integrityHalt d line) s fun t =>
           oget t Od.INTEGRITY_HALT = 1 ∧ oget t Od.HALT_STACK = d.val ∧ oget t Od.HALT_LINE = line.val ∧
           t.pinsHeld = true ∧ (∀ k, k < 64 → sget (fun _ => 0) t.keys k = 0) ∧
           ∃ r, t.logQueue.getLast? = some r ∧ r.code = Code.INTEGRITY_FAIL ∧ r.severity = 7) ∧
       (halted s = true →
         Runs (.integrityHalt d line) s fun t =>
           oget t Od.HALT_EXTRA = min (oget s Od.HALT_EXTRA + 1) 0xFFFFFFFF ∧ OdOnly s t ∧
           OdKept s t [Od.HALT_EXTRA])))

/-- From R139, R148, R149, R151: the die's descriptor table, its fill unit and its counters. Model readings and
choices it rests on: assumptions 11, 94. -/
def Obligations.DescriptorsAndFillsTakeEffect : Prop :=
  ∀ (s : State) (d : Fin 4),
    let x := getDie s d.val
    let n := fget s (Reg.DMEM_DESC_IDX d.val) F.DMEM_DESC_IDX_INDEX
    let first := fget s (Reg.DMEM_FILL_BANKS d.val) F.DMEM_FILL_BANKS_FIRST
    let m1 := fget s (Reg.DMEM_FILL_BANKS d.val) F.DMEM_FILL_BANKS_COUNT_M1
    let v := rget s (Reg.DMEM_FILL_DATA d.val)
    (∀ w3 : Word, ownerRunning s d.val (descGet s d.val n) = false →
      ownerRunning s d.val (w3 ++ x.stage2 ++ x.stage1 ++ x.stage0) = false →
      descReserved (w3 ++ x.stage2 ++ x.stage1 ++ x.stage0) = false →
      Runs (.dmemDescW3Commit d w3) s fun t =>
        descGet t d.val n = w3 ++ x.stage2 ++ x.stage1 ++ x.stage0 ∧
        (∀ j, j ≠ n → descGet t d.val j = descGet s d.val j) ∧ DiesOnly s t ∧ DiesKept s t d.val) ∧
    (∀ w3 : Word, descReserved (w3 ++ x.stage2 ++ x.stage1 ++ x.stage0) = true →
      Runs (.dmemDescW3Commit d w3) s fun t =>
        fget t (Reg.DMEM_STATUS d.val) F.DMEM_STATUS_WERR = 1 ∧ t.dies = s.dies ∧
        RegsKept s t [Reg.DMEM_STATUS d.val] ∧ RegsOnly s t) ∧
    (fbit s (Reg.DMEM_FILL_CTRL d.val) F.DMEM_FILL_CTRL_GO = false → first + m1 ≤ 2047 →
      fillTouchesRunning s d.val first m1 = false →
      Runs (.dmemFillGo d) s fun t =>
        fget t (Reg.DMEM_FILL_CTRL d.val) F.DMEM_FILL_CTRL_GO = 1 ∧
        fget t (Reg.DMEM_STATUS d.val) F.DMEM_STATUS_FILL_BUSY = 1 ∧
        (getDie t d.val).fill = some (first, m1 + 1, v.toNat) ∧ DiesKept s t d.val ∧
        RegsKept s t [Reg.DMEM_STATUS d.val, Reg.DMEM_FILL_CTRL d.val] ∧ t = { s with regs := t.regs, dies := t.dies }) ∧
    (fbit s (Reg.DMEM_FILL_CTRL d.val) F.DMEM_FILL_CTRL_GO = false →
      2047 < first + m1 ∨ fillTouchesRunning s d.val first m1 = true →
      Runs (.dmemFillGo d) s fun t =>
        fget t (Reg.DMEM_STATUS d.val) F.DMEM_STATUS_WERR = 1 ∧ RegsKept s t [Reg.DMEM_STATUS d.val] ∧
        RegsOnly s t) ∧
    (∀ a n w, (getDie s d.val).fill = some (a, n, w) → w < 2 ^ 32 →
      Runs (.fillDone d) s fun t =>
        (∀ i, i < n * 8192 → memLE t (pocketAddr d.val a + 4 * i) 4 = w) ∧
        MemKept s t (pocketAddr d.val a) (pocketAddr d.val (a + n)) ∧
        fget t (Reg.DMEM_FILL_CTRL d.val) F.DMEM_FILL_CTRL_GO = 0 ∧
        fget t (Reg.DMEM_FILL_CTRL d.val) F.DMEM_FILL_CTRL_DONE = 1 ∧
        fget t (Reg.DMEM_STATUS d.val) F.DMEM_STATUS_FILL_BUSY = 0 ∧ (getDie t d.val).fill = none ∧
        t = { s with mem := t.mem, regs := t.regs, dies := t.dies }) ∧
    (Runs (.dmemCtrlClrcnt d) s fun t =>
      rget t (Reg.DMEM_OOR_CNT d.val) = 0 ∧ rget t (Reg.DMEM_RO_WR_CNT d.val) = 0 ∧
      rget t (Reg.DMEM_HBM_PEAK d.val) = 0 ∧ RegsOnly s t ∧
      RegsKept s t [Reg.DMEM_OOR_CNT d.val, Reg.DMEM_RO_WR_CNT d.val, Reg.DMEM_HBM_PEAK d.val])

/-- From R79, R81, R89, R95, R180: a stitch whose BPs have all run completes; one that is not given GO waits and shows
why; a credit request is granted whole and in order. R48, R53, R54, R61, R69, R89, R90, R94: the start of a sweep, at
which an instruction that cannot be read stops the cluster before anything runs; the end of a sweep, of an ecycle, and
a stall that lasts. Model readings and choices it rests on: assumptions 10, 13, 15, 82. -/
def Obligations.StitchesSweepsAndEcyclesComplete : Prop :=
  (∀ (s : State) (c : ClusterId),
     let k := getCl s c.idx
     (participating s c = true → partOf s c ≠ none → k.inSweep = true → k.stitch < sweepLen s c → approach s c = s →
       k.ran = BitVec.allOnes 32 → goWaits s c = [] → routeBlocked s c = false →
       Runs (.stitch c { instrEcc := none, spareMismatch := false, residue := false }) s fun t =>
         let k' := getCl t c.idx
         k'.stitch = k.stitch + 1 ∧ k'.win0 = k.cur ∧ k'.win1 = k.win0 ∧ k'.win2 = k.win1 ∧ k'.win3 = k.win2 ∧
         k'.ran = 0 ∧ k'.waits = [] ∧ k'.ecycle = k.ecycle ∧ k'.wr = k.wr ∧ k'.flags = k.flags ∧
         fget t (Reg.BP_PROGRESS c) F.BP_PROGRESS_STALLED = 0 ∧
         fget t (Reg.BP_PROGRESS c) F.BP_PROGRESS_STITCH = (k.stitch + 1) % 8192) ∧
     (∀ f : StitchFaults, f.instrEcc = none → participating s c = true → partOf s c ≠ none → k.inSweep = true →
       k.stitch < sweepLen s c → approach s c = s → goWaits s c ≠ [] →
       Runs (.stitch c f) s fun t =>
         (getCl t c.idx).waits = goWaits s c ∧ (getCl t c.idx).waited = true ∧ (getCl t c.idx).stitch = k.stitch ∧
         (getCl t c.idx).ran = k.ran ∧ t.mem = s.mem ∧ ClustersKept s t c ∧
         fget t (Reg.BP_PROGRESS c) F.BP_PROGRESS_STALLED = 1) ∧
     (∀ (d : Fin 4) (ns i n : Nat) (rest : List (Nat × Nat)),
       (getDie s d.val).credits = (i, n) :: rest →
       chargeNow s d.val n ≤ min 16384 ((getDie s d.val).bucket + refillOf s d.val ns) →
       Runs (.creditGrant d ns) s fun t =>
         (getDie t d.val).bucket = min 16384 ((getDie s d.val).bucket + refillOf s d.val ns) - chargeNow s d.val n ∧
         (getDie t d.val).credits = rest ∧ (getCl t i).credited = true ∧ DiesKept s t d.val ∧
         t = { s with dies := t.dies, clusters := t.clusters, regs := t.regs }) ∧
     (∀ (d : Fin 4) (ns : Nat), (getDie s d.val).credits = [] →
       Runs (.creditGrant d ns) s fun t =>
         (getDie t d.val).bucket = min 16384 ((getDie s d.val).bucket + refillOf s d.val ns) ∧
         DiesOnly s t ∧ DiesKept s t d.val)) ∧
  (∀ (s : State) (c : ClusterId) (p : Fin 16),
     let k := getCl s c.idx
     (k.inSweep = true → sweepLen s c ≤ k.stitch → participating s c = true → swf (fun _ => none) k.written = true →
       Runs (.sweepEnd c) s fun t =>
         let k' := getCl t c.idx
         k'.ecycle = k.ecycle + 1 ∧ k'.stitch = 0 ∧ k'.inSweep = false ∧ k'.written = [] ∧
         (∀ a w, sget (fun _ => none) k.written a = some w → memBit t (stateBase c) a = w.value) ∧
         (∀ a, sget (fun _ => none) k.written a = none → memBit t (stateBase c) a = memBit s (stateBase c) a) ∧
         ClustersKept s t c ∧ t = { s with mem := t.mem, clusters := t.clusters, parts := t.parts, regs := t.regs }) ∧
     (∀ phys, k.inSweep = false → participating s c = true → partOf s c = some p.val → gateAdmits s p.val k.ecycle = true →
       k.hold = false →
       Runs (.stitch c { instrEcc := some phys, spareMismatch := false, residue := false }) s fun t =>
         let k' := getCl t c.idx
         k'.inSweep = true ∧ k'.stitch = k.stitch ∧ k'.wr = 0 ∧ k'.flags = {} ∧ k'.ran = 0 ∧
         (∀ j, sget (fun _ => 0) k'.dpage j = 0) ∧
         (∀ j, j < 32 → sget (fun _ => 0) k'.swptr j = fget s (Reg.BP_PTRBASE c j) F.BP_PTRBASE_SWBASE) ∧
         fget t (Reg.BP_CL_STATUS c) F.BP_CL_STATUS_RUN = 1 ∧ (k.pend = [] → t.mem = s.mem) ∧ ClustersKept s t c) ∧
     ((getPart s p.val).hold = .none → allCompleted s p.val (getPart s p.val).completed = true →
       Runs (.ecycleComplete p) s fun t => oget t (Od.RUN_ECYCLE p.val) = (getPart s p.val).completed + 1) ∧
     (clRun s c = true → k.noProgress = false → k.sendWait = true ∨ stitchWaits s c ≠ [] →
       Runs (.stallWatchdogExpiry c) s fun t =>
         (getCl t c.idx).noProgress = true ∧ ClustersKept s t c ∧ t.mem = s.mem ∧ t.logSeq = s.logSeq + 1 ∧
         ∃ r, t.logQueue = s.logQueue ++ [r] ∧ r.code = Code.NO_PROGRESS ∧ r.severity = 5))

/-- R41: a window index that reaches before stitch 0 of the current sweep delivers 0, whatever the previous sweep left
in the window, as a sweep begins and as its stitches run and complete. Model readings and choices it rests on:
assumption 8. -/
def Obligations.WindowsCarryNothingFromTheSweepBefore : Prop :=
  ∀ (s : State) (c : ClusterId),
    let zeroBefore := fun (k : Cluster) =>
      k.inSweep = true → ∀ i : BitVec 7, k.stitch < i.toNat / 32 + 1 → windowBit k i = false
    (∀ f : StitchFaults, zeroBefore (getCl s c.idx) → Runs (.stitch c f) s fun t => zeroBefore (getCl t c.idx)) ∧
    (∀ b : Fin 32, ∀ x ∈ [Instr.lut c b, .luts c b, .drd c b false, .dwr c b false, .drd c b true, .dwr c b true, .ldsw c b, .stsw c b, .nop c b, .setpg c b,
        .brk c b, .mark c b, .dfence c b],
      zeroBefore (getCl s c.idx) → Runs x s fun t => zeroBefore (getCl t c.idx)) ∧
    (∀ (b : Fin 32) (op : WordOp), zeroBefore (getCl s c.idx) →
      Runs (wordCommand op c b) s fun t => zeroBefore (getCl t c.idx)) ∧
    ((getCl s c.idx).inSweep = true → sweepLen s c ≤ (getCl s c.idx).stitch → participating s c = true →
      Runs (.sweepEnd c) s fun t => (getCl t c.idx).inSweep = false)

/-- R49: a DW write stores the result at address DWPTR and then adds 1 to DWPTR, modulo 16,384; DWPTR is loaded from
the BP's DWBASE at the start of every sweep. Model readings and choices it rests on: assumption 8. -/
def Obligations.DwWritesFollowTheirPointer : Prop :=
  ∀ (s : State) (c : ClusterId) (b : Fin 32),
    let o := operandBit s c (getCl s c.idx) b.val
    let at_ := sget (fun _ => 0) (getCl s c.idx).dwptr b.val
    let stored := fun (t : State) (v : Bool) =>
      memBit t (dataBase c b) at_ = v ∧ sget (fun _ => 0) (getCl t c.idx).dwptr b.val = (at_ + 1) % 16384
    (∀ (tt : BitVec 16) (x y z w : BitVec 9) (sw : Bool), stitchReady s c b (.lut tt x y z w sw true) →
      Runs (.lut c b) s fun t =>
        stored t (tt.getLsbD (8 * (o w).toNat + 4 * (o z).toNat + 2 * (o y).toNat + (o x).toNat))) ∧
    (∀ (tt : BitVec 16) (x y z : BitVec 9) (sw : Bool) (a : BitVec 16), stitchReady s c b (.luts tt x y z sw true a) →
      Runs (.luts c b) s fun t =>
        stored t (tt.getLsbD
          (8 * (memBit s (stateBase c) a.toNat).toNat + 4 * (o z).toNat + 2 * (o y).toNat + (o x).toNat))) ∧
    (∀ (p : Fin 16) (phys : Fin 33), (getCl s c.idx).inSweep = false → participating s c = true → partOf s c = some p.val →
      gateAdmits s p.val (getCl s c.idx).ecycle = true → (getCl s c.idx).hold = false →
      Runs (.stitch c { instrEcc := some phys, spareMismatch := false, residue := false }) s fun t =>
        (getCl t c.idx).inSweep = true ∧
        sget (fun _ => 0) (getCl t c.idx).dwptr b.val = fget s (Reg.BP_PTRBASE c b.val) F.BP_PTRBASE_DWBASE)

/-- From R87, R108, R109, R113, R116, R118, R120: groups move from stage to stage, over a bridge, and into input
slots. Model readings and choices it rests on: assumptions 10, 13, 80, 82. -/
def Obligations.GroupsMoveAlongTheirRoutes : Prop :=
  ∀ (s : State) (c : ClusterId) (src : Nat) (x : Stage),
    (∀ (n : Fin 188) (y : ClusterId) (u : Nat), offered s c n.val = some (src, x) → landing c n.val = .track y u →
      getStage s (stageKey y u) = none →
      Runs (.warpHop c n) s fun t =>
        getStage t (stageKey y u) = some ⟨x.group, []⟩ ∧
        (branchesOf s c src = [n.val] → getStage t (stageKey c src) = none) ∧
        (∀ key, key ≠ stageKey y u → key ≠ stageKey c src → getStage t key = getStage s key) ∧
        StagesOnly s t) ∧
    (∀ n : Fin 188, offered s c n.val = some (src, x) → landing c n.val = .nowhere →
      Runs (.warpHop c n) s fun t =>
        (branchesOf s c src = [n.val] → getStage t (stageKey c src) = none) ∧
        (∀ key, key ≠ stageKey c src → getStage t key = getStage s key) ∧ StagesOnly s t) ∧
    (∀ (k : Fin 28) (y : ClusterId) (u : Nat) (upset : BitVec 48) (g : Group), offered s c (160 + k.val) = some (src, x) →
      landing c (160 + k.val) = .bridge y u → crossGroup x.group upset.toNat = some g → getStage s (stageKey y u) = none →
      Runs (.bridgeGroup c k upset) s fun t =>
        getStage t (stageKey y u) = some ⟨g, []⟩ ∧
        (branchesOf s c src = [160 + k.val] → getStage t (stageKey c src) = none) ∧
        t = { s with stages := t.stages, regs := t.regs }) ∧
    (∀ (k : Fin 28) (ch : Nat) (v : Bool) (upset : BitVec 48) (g : Group), offered s c (160 + k.val) = some (src, x) →
      landing c (160 + k.val) = .yoke ch → crossGroup x.group upset.toNat = some g → g.value = some v →
      Runs (.bridgeGroup c k upset) s fun t =>
        sget (fun _ => []) t.outbound ch = sget (fun _ => []) s.outbound ch ++ [(g.ecycle, v)] ∧
        t = { s with stages := t.stages, regs := t.regs, outbound := t.outbound }) ∧
    (∀ (k : Fin 28) (y : ClusterId) (u : Nat) (upset : BitVec 48), offered s c (160 + k.val) = some (src, x) →
      landing c (160 + k.val) = .bridge y u → crossGroup x.group upset.toNat = none →
      let b := bridgeOf c (160 + k.val)
      let at_ := Reg.BRG_CODE_ERR_CNT b.1 b.2.1
      Runs (.bridgeGroup c k upset) s fun t =>
        fget t at_ F.BRG_CODE_ERR_CNT_COUNT = min (fget s at_ F.BRG_CODE_ERR_CNT_COUNT + 1) 0xFFFFFFFF ∧
        (branchesOf s c src = [160 + k.val] → getStage t (stageKey c src) = none) ∧
        (∀ z ∈ fedSlots s routeFuel y u, (getCl t z.1.idx).hold = true) ∧
        t = { s with stages := t.stages, regs := t.regs, clusters := t.clusters }) ∧
    (∀ (j : Fin 32) (v : Bool), offered s c j.val = some (src, x) → x.group.value = some v →
      acceptBit s c j.val (x.group.stitch % 8192) = true → participating s c = true → (queueOf (getCl s c.idx) j.val).length < 16 →
      Runs (.warpGroupArrive c j) s fun t =>
        queueOf (getCl t c.idx) j.val =
          queueOf (getCl s c.idx) j.val ++ [⟨v, x.group.stitch % 8192, x.group.ecycle % 2⟩] ∧
        ClustersKept s t c ∧ t.mem = s.mem) ∧
    (∀ (partner : ClusterId) (count old : Nat), count ≤ completedCount s partner →
      sget (fun _ => none) (getCl s c.idx).reports partner.idx = some old → c.die = partner.die →
      Runs (.progressReport c partner count) s fun t =>
        sget (fun _ => none) (getCl t c.idx).reports partner.idx = some (max old count) ∧
        t = { s with clusters := t.clusters, regs := t.regs } ∧ ClustersKept s t c)

/-- From R55, R74, R76, R96, R121, R124, R127: writes of a cluster's registers and of a bridge's spares. Model
readings and choices it rests on: assumptions 62, 75, 83. -/
def Obligations.ClusterRegistersAreWritten : Prop :=
  ∀ (s : State) (c : ClusterId) (w : Word),
    (Runs (.bpClCtrlClrcnt c) s fun t =>
      rget t (Reg.BP_SPLIT_CNT c) = 0 ∧ rget t (Reg.BP_DUPW_CNT c) = 0 ∧ RegsOnly s t ∧
      RegsKept s t [Reg.BP_SPLIT_CNT c, Reg.BP_DUPW_CNT c]) ∧
    (Runs (.bpStallClr c) s fun t =>
      (∀ x, x < 8 → rget t (Reg.BP_STALL_CNT c x) = 0) ∧ RegsOnly s t) ∧
    (Runs (.wrpClCtrlClr c) s fun t =>
      rget t (Reg.WRP_BP_CNT c) = 0 ∧ rget t (Reg.WRP_QUEUE_PEAK c) = 0 ∧ RegsOnly s t ∧
      RegsKept s t [Reg.WRP_BP_CNT c, Reg.WRP_QUEUE_PEAK c]) ∧
    (clRun s c = false → ∀ b : Fin 32, Runs (.bpPtrbaseWrite c b w) s fun t =>
      fget t (Reg.BP_PTRBASE c b.val) F.BP_PTRBASE_SWBASE = fldGet w F.BP_PTRBASE_SWBASE ∧
      fget t (Reg.BP_PTRBASE c b.val) F.BP_PTRBASE_DWBASE = fldGet w F.BP_PTRBASE_DWBASE ∧
      RegsOnly s t ∧ RegsKept s t [Reg.BP_PTRBASE c b.val]) ∧
    (clRun s c = true → ∀ b : Fin 32, Runs (.bpPtrbaseWrite c b w) s fun t =>
      fget t (Reg.BP_CL_STATUS c) F.BP_CL_STATUS_WERR = 1 ∧ RegsOnly s t ∧
      RegsKept s t [Reg.BP_CL_STATUS c]) ∧
    (clRun s c = false → fldGet w F.BP_SWEEP_LEN_LEN ≠ 0 → fldGet w F.BP_SWEEP_LEN_LEN ≤ 8192 →
      Runs (.bpSweepLenWrite c w) s fun t =>
        sweepLen t c = fldGet w F.BP_SWEEP_LEN_LEN ∧
        (participating s c = true → RegsOnly s t ∧ RegsKept s t [Reg.BP_SWEEP_LEN c]) ∧
        (participating s c = false → ∀ p, partOf s c = some p →
          (getCl t c.idx).stitch = 0 ∧ (getCl t c.idx).inSweep = false ∧ (getCl t c.idx).ecycle = joinAt s p c) ∧
        (∀ d, d ≠ c.idx → getCl t d = { getCl s d with reports := (getCl t d).reports }) ∧
        t = { s with regs := t.regs, clusters := t.clusters } ∧ RegsKept s t [Reg.BP_SWEEP_LEN c, Reg.BP_PROGRESS c]) ∧
    (fldGet w F.BP_SWEEP_LEN_LEN = 0 →
      Runs (.bpSweepLenWrite c w) s fun t =>
        participating t c = false ∧ clRun t c = false ∧ (getCl t c.idx).inSweep = false ∧
        (∀ d, sget (fun _ => none) (getCl t d).reports c.idx = none) ∧ ((getCl s c.idx).ran = 0 → t.mem = s.mem)) ∧
    (Runs (.bpSpareMapWrite c w) s fun t =>
      fget t (Reg.BP_SPARE_MAP c) F.BP_SPARE_MAP_ACTIVE = fldGet w F.BP_SPARE_MAP_ACTIVE ∧
      fget t (Reg.BP_SPARE_MAP c) F.BP_SPARE_MAP_REPLACED = fldGet w F.BP_SPARE_MAP_REPLACED ∧
      t = { s with regs := t.regs, od := t.od } ∧ RegsKept s t [Reg.BP_SPARE_MAP c] ∧
      OdKept s t [Od.SPARE_BP_USED]) ∧
    (∀ (d : Fin 4) (i : Fin 3) (k : Fin 24) (out : Bool), (Instr.brgSpareWrite d i k out w).wf = true →
      fldGet w F.BRG_SPARE_OUT_TRACK < bridgeTracks d.val i.val →
      trackTaken s d.val i.val k.val out (fldGet w F.BRG_SPARE_OUT_TRACK) = false →
      Runs (.brgSpareWrite d i k out w) s fun t =>
        fget t (spareReg d.val i.val k.val out) F.BRG_SPARE_OUT_ACTIVE = fldGet w F.BRG_SPARE_OUT_ACTIVE ∧
        fget t (spareReg d.val i.val k.val out) F.BRG_SPARE_OUT_TRACK = fldGet w F.BRG_SPARE_OUT_TRACK ∧
        (∀ a, a ≠ spareReg d.val i.val k.val out → a ≠ Reg.PCI_EVENT → (∀ e j, a ≠ Reg.BRG_STATUS e j) →
          rget t a = rget s a) ∧
        OdKept s t [Od.HEALTH] ∧ t.mem = s.mem ∧ t.clusters = s.clusters ∧ t.stages = s.stages) ∧
    (∀ (d : Fin 4) (i : Fin 3) (k : Fin 24) (out : Bool), (Instr.brgSpareWrite d i k out w).wf = true →
      bridgeTracks d.val i.val ≤ fldGet w F.BRG_SPARE_OUT_TRACK →
      Runs (.brgSpareWrite d i k out w) s fun t =>
        rget t (spareReg d.val i.val k.val out) = rget s (spareReg d.val i.val k.val out) ∧
        ∃ r, t.logQueue = s.logQueue ++ [r] ∧ r.code = Code.LIMIT_REFUSED) ∧
    (∀ (d : Fin 4) (i : Fin 3) (k : Fin 24) (out : Bool), (Instr.brgSpareWrite d i k out w).wf = false →
      exec (.brgSpareWrite d i k out w) s = .fault .noSuchUnit)

/-! ## The packet network (11) -/

/-- From R298, R302, R307, R309, R319: a request issued by an initiator that is not fenced, with a free tag, enters
the network at its router with its tag in use; one whose address no range of R27 holds is answered ERR UNMAPPED at the
initiator. Model readings and choices it rests on: assumptions 20, 21. -/
def Obligations.RequestsEnterTheNetwork : Prop :=
  ∀ (s : State) (r : NocRequest),
    let n := r.src.toNat
    (initiates n = true → fenced s n = false → getTag s n r.tag.val = none →
      ∀ x ∈ [(Instr.rd (.issue r), opRd), (Instr.wr (.issue r), opWr), (Instr.wrm (.issue r), opWrm)],
        (∀ d, nocDest r.addr.toNat = some d →
          Runs x.1 s fun t =>
            (∃ q, t.noc = s.noc ++ [q] ∧ q.opc = x.2 ∧ q.src = n ∧ q.dest = d ∧ q.tag = r.tag.val ∧
              q.addr = r.addr.toNat ∧ q.gen = getGen s n r.tag.val ∧ q.router = nodeRouter n ∧ q.port = nodePort n ∧
              q.data = r.data ∧ q.mask = r.mask ∧ q.atNode = false) ∧
            (∃ g, getTag t n r.tag.val = some g ∧ g.opc = x.2 ∧ g.dest = d ∧ g.len = r.lenM1.toNat + 1 ∧
              g.quarantined = false) ∧
            fget t (Reg.NOC_ST_REQ n) F.NOC_ST_REQ_COUNT =
              min (fget s (Reg.NOC_ST_REQ n) F.NOC_ST_REQ_COUNT + 1) 0xFFFFFFFF ∧
            t.mem = s.mem) ∧
        (nocDest r.addr.toNat = none →
          Runs x.1 s fun t =>
            t.noc = s.noc ∧ t.nocTags = s.nocTags ∧ t.mem = s.mem ∧
            t.nocAnswers = s.nocAnswers ++ [⟨n, r.tag.val, opErr, Code.UNMAPPED, []⟩])) ∧
    (initiates n = true → fenced s n = false → ∀ d, nocDest r.addr.toNat = some d →
      Runs (.msg (.issue r)) s fun t =>
        t = { s with noc := t.noc } ∧ ∃ q, t.noc = s.noc ++ [q] ∧ q.opc = opMsg ∧ q.src = n ∧ q.dest = d)

/-- From R303, R309: a read or write of a store that answers at once, which passes the checks of its target, is made
and answered; a write changes the bytes of its address and length and no others. Model readings and choices it rests
on: assumptions 17, 18, 78. -/
def Obligations.StoreRequestsAreServed : Prop :=
  ∀ (s : State) (src : BitVec 8) (tag : Fin 1024) (q : NocPacket),
    let here := fun (opc : Nat) (x : NocPacket) =>
      x.atNode && decide (x.opc = opc) && decide (x.src = src.toNat) && decide (x.tag = tag.val)
    let u := fun (opc : Nat) => { s with noc := s.noc.eraseP (here opc) }
    q.bad = false → targetPowered s q.dest = true → malformed q = false → addrMapped q.addr = true →
    isRegister q.addr = false → isHbm q.addr = false → isHost q.addr = false →
    (s.noc.find? (here opRd) = some q → denied (u opRd) q = none → memBusy (u opRd) q.src q.addr = false →
      Runs (.rd (.serve src tag .clean)) s fun t =>
        t = { s with noc := s.noc.eraseP (here opRd) ++
          [nocAnswer q opRdresp 0 false (memBytes s q.addr (reqLen q)) (nodeRouter q.dest) (nodePort q.dest)] }) ∧
    (s.noc.find? (here opWr) = some q → denied (u opWr) q = none → memBusy (u opWr) q.src q.addr = false →
      stateBusy (u opWr) q.src q.addr = false →
      Runs (.wr (.serve src tag .clean)) s fun t =>
        memBytes t q.addr (reqLen q) = reqData q ∧ MemKept s t q.addr (q.addr + reqLen q) ∧
        t.noc = s.noc.eraseP (here opWr) ++
          [nocAnswer q opWrack 0 false [] (nodeRouter q.dest) (nodePort q.dest)] ∧
        t = { s with mem := t.mem, noc := t.noc, parts := t.parts, clusters := t.clusters, regs := t.regs }) ∧
    (s.noc.find? (here opWrm) = some q → denied (u opWrm) q = none → memBusy (u opWrm) q.src q.addr = false →
      stateBusy (u opWrm) q.src q.addr = false →
      Runs (.wrm (.serve src tag .clean)) s fun t =>
        (∀ i, i < 64 → memByte t (q.addr + i) =
          (memByte s (q.addr + i) &&& ~~~ q.mask.getD i 0) ||| (q.data.getD i 0 &&& q.mask.getD i 0)) ∧
        MemKept s t q.addr (q.addr + 64) ∧
        t.noc = s.noc.eraseP (here opWrm) ++
          [nocAnswer q opWrack 0 false [] (nodeRouter q.dest) (nodePort q.dest)])

/-- From R304, R305, R307, R309, R312: a router passes the packet at the head of an input by its active table, and
answers a request that it cannot pass on; a request whose next hop is an HBM port that is full waits. R310, R311: a
response frees its tag and reaches its client; a timeout gives the client an error and quarantines the tag, and the
end of the quarantine frees it with a new generation. Model readings and choices it rests on: assumptions 20, 21. -/
def Obligations.RoutersForwardAndRequestsEnd : Prop :=
  (∀ (s : State) (i : Fin 65) (port : Fin 32) (vc : Fin 4) (err : Bool) (q : NocPacket),
     let here := fun (x : NocPacket) =>
       !x.atNode && decide (x.router = i.val) && decide (x.port = port.val) && decide (x.vc = vc.val)
     let a := Reg.NOC_RT_ACT i.val q.dest
     let o := fget s a F.NOC_RT_ACT_PORT
     s.noc.find? here = some q →
     (portFull s i.val q = true → Runs (.routerForward i port vc err) s fun t => t = s) ∧
     (portFull s i.val q = false → fbit s a F.NOC_RT_ACT_VALID = true → fbit s a F.NOC_RT_ACT_ASLEEP = false → q.hops < 31 →
       (∀ j r, nocLink i.val o = some (j, r) → nocLocal i.val o = none →
         Runs (.routerForward i port vc err) s fun t =>
           t = { s with noc := s.noc.eraseP here ++ [{ q with
             hops := q.hops + 1, router := j, port := r, bad := q.bad || (err && crossesBridge i.val o) }] }) ∧
       (∀ n, nocLink i.val o = none → nocLocal i.val o = some n → fenced s n = false →
         Runs (.routerForward i port vc err) s fun t =>
           t = { s with noc := s.noc.eraseP here ++ [{ q with
             hops := q.hops + 1, atNode := true, bad := q.bad || (err && crossesBridge i.val o) }] })) ∧
     (portFull s i.val q = false → fbit s a F.NOC_RT_ACT_VALID = false → isRequest q.opc = true → q.opc ≠ opMsg →
       Runs (.routerForward i port vc err) s fun t =>
         t.noc = s.noc.eraseP here ++ [nocAnswer q opErr Code.UNMAPPED true [] i.val 31] ∧
         t = { s with noc := t.noc, regs := t.regs }) ∧
     (portFull s i.val q = false → fbit s a F.NOC_RT_ACT_VALID = true → fbit s a F.NOC_RT_ACT_ASLEEP = true →
       isRequest q.opc = true → q.opc ≠ opMsg →
       Runs (.routerForward i port vc err) s fun t =>
         t.noc = s.noc.eraseP here ++ [nocAnswer q opErr Code.DOMAIN_ASLEEP true [] i.val 31] ∧
         t = { s with noc := t.noc, regs := t.regs }) ∧
     (fbit s a F.NOC_RT_ACT_VALID = false → isRequest q.opc = false →
       Runs (.routerForward i port vc err) s fun t =>
         t.noc = s.noc.eraseP here ∧
         fget t Reg.NOC_DROP_CNT F.NOC_DROP_CNT_COUNT = min (fget s Reg.NOC_DROP_CNT F.NOC_DROP_CNT_COUNT + 1) 0xFFFFFFFF)) ∧
  (∀ (s : State) (node : BitVec 8) (tag : Fin 1024) (g : NocTag),
     let n := node.toNat
     getTag s n tag.val = some g →
     (g.quarantined = false → ∀ (gen : Fin 4) (q : NocPacket),
       ∀ x ∈ [(Instr.rdresp node tag gen, opRdresp), (Instr.wrack node tag gen, opWrack), (Instr.err node tag gen, opErr)],
         let here := fun (y : NocPacket) =>
           y.atNode && decide (y.opc = x.2) && decide (y.dest = n) && decide (y.tag = tag.val) && decide (y.gen = gen.val)
         s.noc.find? here = some q → q.bad = false → getGen s n tag.val = gen.val →
         Runs x.1 s fun t =>
           t.noc = s.noc.eraseP here ∧ getTag t n tag.val = none ∧
           (∀ k, k ≠ tagKey n tag.val → sget (fun _ => none) t.nocTags k = sget (fun _ => none) s.nocTags k) ∧
           t.nocAnswers = s.nocAnswers ++
             [⟨n, tag.val, x.2, q.code, if x.2 = opErr then errData g.opc q.code g.len else q.data⟩] ∧
           t = { s with noc := t.noc, nocTags := t.nocTags, nocAnswers := t.nocAnswers, regs := t.regs }) ∧
     (g.quarantined = false → opOfTag s n tag.val = none →
       Runs (.nocRequestTimeout node tag) s fun t =>
         getTag t n tag.val = some { g with quarantined := true } ∧
         t.nocAnswers = s.nocAnswers ++ [⟨n, tag.val, opErr, Code.TIMEOUT, errData g.opc Code.TIMEOUT g.len⟩] ∧
         fget t (Reg.NOC_ST_TMO n) F.NOC_ST_TMO_COUNT = min (fget s (Reg.NOC_ST_TMO n) F.NOC_ST_TMO_COUNT + 1) 0xFFFFFFFF ∧
         t = { s with nocTags := t.nocTags, nocAnswers := t.nocAnswers, regs := t.regs }) ∧
     (g.quarantined = true →
       Runs (.tagQuarantineExpiry node tag) s fun t =>
         getTag t n tag.val = none ∧ getGen t n tag.val = (getGen s n tag.val + 1) % 4 ∧
         t = { s with nocTags := t.nocTags, nocGens := t.nocGens }))

/-- From R310, R312, R313, R317, R318, R319: the registers of the NOC_ window and the domains' life. Model readings
and choices it rests on: assumption 21. -/
def Obligations.NetworkRegistersAndDomainsFollowTheirRules : Prop :=
  ∀ (s : State),
    (∀ us : BitVec 20, Runs (.nocTimeoutWrite us) s fun t =>
      fget t Reg.NOC_TIMEOUT F.NOC_TIMEOUT_US = min (max us.toNat 10) 100000 ∧
      (10 ≤ us.toNat → us.toNat ≤ 100000 → RegsOnly s t ∧ RegsKept s t [Reg.NOC_TIMEOUT])) ∧
    (∀ r : BitVec 7, r.toNat ≤ 0x40 ∨ r.toNat = 0x7F → fbit s Reg.NOC_RT_SWAP F.NOC_RT_SWAP_GO = false →
      Runs (.nocRtSwap r) s fun t =>
        (∀ i e, e < 256 → (i = r.toNat ∨ r.toNat = 0x7F ∧ i ≤ 0x40) →
          rget t (Reg.NOC_RT_ACT i e) = rget s (Reg.NOC_RT_SH i e) ∧
          rget t (Reg.NOC_RT_SH i e) = rget s (Reg.NOC_RT_ACT i e)) ∧
        fget t Reg.NOC_STATUS F.NOC_STATUS_SWAPPING = 1 ∧ RegsOnly s t) ∧
    (∀ r : BitVec 7, 0x40 < r.toNat → r.toNat ≠ 0x7F →
      Runs (.nocRtSwap r) s fun t => fget t Reg.NOC_STATUS F.NOC_STATUS_WERR = 1 ∧ RegsKept s t [Reg.NOC_STATUS]) ∧
    (Runs .rtSwapDone s fun t =>
      fget t Reg.NOC_RT_SWAP F.NOC_RT_SWAP_GO = 0 ∧ fget t Reg.NOC_STATUS F.NOC_STATUS_SWAPPING = 0 ∧
      RegsOnly s t ∧ RegsKept s t [Reg.NOC_RT_SWAP, Reg.NOC_STATUS]) ∧
    (Runs .nocClrerr s fun t =>
      (∀ a ∈ [Reg.NOC_ASLEEP_CNT, Reg.NOC_UNMAPPED_CNT, Reg.NOC_LOOP_CNT, Reg.NOC_LATE_CNT, Reg.NOC_FCHK_CNT,
        Reg.NOC_DROP_CNT, Reg.NOC_ERR_CAP, Reg.NOC_ERR_CODE], rget t a = 0) ∧ RegsOnly s t) ∧
    (Runs .nocClrstat s fun t =>
      (∀ n, n < 256 → rget t (Reg.NOC_ST_REQ n) = 0 ∧ rget t (Reg.NOC_ST_ERR n) = 0 ∧
        rget t (Reg.NOC_ST_LAT_MAX n) = 0 ∧
        fget t (Reg.NOC_ST_OUT n) F.NOC_ST_OUT_PEAK = tagsOut s n true % 2048) ∧ RegsOnly s t) ∧
    (∀ k : Fin 193,
      (domState s k.val = 0 ∨ domState s k.val = 4 → sleepRefused s k.val = false →
        Runs (.domainSleep k) s fun t =>
          domState t k.val = 1 ∧ fget t (Reg.NOC_DOM k.val) F.NOC_DOM_SLEEP = 1 ∧ RegsOnly s t ∧
          RegsKept s t [Reg.NOC_DOM k.val]) ∧
      (domState s k.val = 0 ∨ domState s k.val = 4 → sleepRefused s k.val = true →
        Runs (.domainSleep k) s fun t =>
          domState t k.val = domState s k.val ∧ fget t (Reg.NOC_DOM k.val) F.NOC_DOM_REFUSED = 1 ∧
          RegsKept s t [Reg.NOC_DOM k.val]) ∧
      (domState s k.val = 1 ∨ domState s k.val = 2 →
        Runs (.domainGated k) s fun t =>
          domState t k.val = (if domainDrained s k.val then 3 else 2) ∧
          t = { s with regs := t.regs, hem := t.hem, od := t.od } ∧
          (watchesIn s k.val = 0 ∨ hemState s ≠ 2 ∨ 64 ≤ k.val → RegsKept s t [Reg.NOC_DOM k.val] ∧ t.od = s.od)) ∧
      (domState s k.val ≠ 0 →
        Runs (.domainWake k) s fun t =>
          domState t k.val = 4 ∧ fget t (Reg.NOC_DOM k.val) F.NOC_DOM_SLEEP = 0 ∧ RegsOnly s t ∧
          RegsKept s t [Reg.NOC_DOM k.val]) ∧
      (domState s k.val = 4 →
        Runs (.domainAwake k) s fun t =>
          domState t k.val = 0 ∧ t = { s with regs := t.regs, hem := t.hem, od := t.od } ∧
          (watchesIn s k.val = 0 ∨ hemState s ≠ 2 → RegsKept s t [Reg.NOC_DOM k.val] ∧ t.od = s.od)))

/-! ## HBM, keys and partitions (10) -/

/-- From R291 to R294: a partition is created, filled and destroyed. Model readings and choices it rests on:
assumption 34. -/
def Obligations.PartitionsAreCreatedAndDestroyed : Prop :=
  ∀ (s : State) (p : Fin 16) (w : Path),
    (serving s → ownerPath w = true → 2 ≤ fget s Reg.PWR_STATUS F.PWR_STATUS_STAGE → partState s p.val = 0 →
      carveConflict s p.val = none → keyRefusal s = none →
      Runs (.create p w) s fun t =>
        partState t p.val = 1 ∧ fget t (Reg.PART_STATE p.val) F.PART_STATE_STATE = 1 ∧
        oget t (Od.LINE_KEY_ID p.val) = fget s Reg.XTS_IDS F.XTS_IDS_ISSUED + 1 ∧
        oget t (Od.PART_FAIL p.val) = 0 ∧ t.result = 0 ∧ t.mem = s.mem) ∧
    (∀ key, serving s → ownerPath w = true → 2 ≤ fget s Reg.PWR_STATUS F.PWR_STATUS_STAGE → partState s p.val = 0 →
      carveConflict s p.val = some key →
      Runs (.create p w) s fun t =>
        t.result = Code.CARVE_CONFLICT ∧ oget t (Od.PART_FAIL p.val) = Code.CARVE_CONFLICT ∧
        oget t (Od.FAIL_FIELD p.val) = key / 256 % 256 * 256 + key % 256 ∧ partState t p.val = 0 ∧ t.mem = s.mem) ∧
    (partState s p.val = 1 →
      Runs (.createFillDone p) s fun t =>
        partState t p.val = 2 ∧ getPart t p.val = { ckptAt := (getPart t p.val).ckptAt } ∧ PartsKept s t p.val ∧
        (∀ d a, d < 4 → unitAddr d (carveFirst s p.val d) ≤ a →
          a < unitAddr d (carveFirst s p.val d + carveCount s p.val d) → memByte t a = 0) ∧
        (∀ a, inCarve s p.val a = false → memByte t a = memByte s a)) ∧
    (serving s → ownerPath w = true → partState s p.val = 1 ∨ partState s p.val = 2 →
      Runs (.destroy p w) s fun t =>
        partState t p.val = 0 ∧ getPart t p.val = {} ∧ t.result = 0 ∧ oget t (Od.PART_FAIL p.val) = 0)

/-- From R286 to R290: key sessions, provisioned keys and line-key rolls of an OPEN partition. KS_OPEN is accepted
where its static key hashes to OWNER_KEY_HASH and its signature over the nonce verifies; a wrapped key is loaded where
it unwraps under the KEK. A free value draws the nonce, the generated keys and the slot (assumption 2). Model readings
and choices it rests on: assumptions 2, 11, 32, 33, 77, 79. -/
def Obligations.KeySessionsAndRollsFollowTheirRules : Prop :=
  ∀ (s : State) (p : Fin 16) (w : Path),
    let id := fget s Reg.XTS_IDS F.XTS_IDS_ISSUED + 1
    (Runs (.ksNonceRead p) s fun t =>
      (∃ v, (getPart t p.val).ksNonce = some v ∧ oget t (Od.KS_NONCE p.val) = v ∧ v < 2 ^ 128 ∧ t.reply = leBytes 16 v) ∧
      t.result = 0 ∧ PartsKept s t p.val ∧ OdKept s t [Od.KS_NONCE p.val]) ∧
    (Runs (.ksSessionTimeout p) s fun t =>
      fget t (Reg.PART_STATE p.val) F.PART_STATE_SESSION = 0 ∧ ksOpen t p.val = false ∧ t.od = s.od) ∧
    (rolling s p.val = true → sweepDone s p.val = true → (getPart s p.val).undoOld = false →
      Runs (.lineKeyRetire p) s fun t =>
        rolling t p.val = false ∧ keySlots t p.val classLine 1 = [] ∧ t.mem = s.mem) ∧
    (serving s → secPath w p.val = true → partState s p.val = 2 →
      (∀ (bytes : List (BitVec 8)) (v : Nat) (q : Nat × Nat × Nat), bytes.length = 194 → (getPart s p.val).ksNonce = some v →
        keyHash ((ofBytes bytes).take 49) = oget s (Od.OWNER_KEY_HASH p.val) →
        ecExpand (((ofBytes bytes).drop 49).take 49) = some q → ownerSigned s p.val v (ofBytes bytes) = true →
        keyRefusal (setPart (ksClose s p.val) p.val { getPart s p.val with ksNonce := none }) = none →
        Runs (.ksOpen p bytes w) s fun t =>
          fget t (Reg.PART_STATE p.val) F.PART_STATE_SESSION = 1 ∧ ksOpen t p.val = true ∧
          (getPart t p.val).ksNonce = none ∧ t.result = 0) ∧
      (∀ bytes : List (BitVec 8), bytes.length = 194 →
        keyHash ((ofBytes bytes).take 49) ≠ oget s (Od.OWNER_KEY_HASH p.val) ∨
          (∃ v, (getPart s p.val).ksNonce = some v ∧ ownerSigned s p.val v (ofBytes bytes) = false) ∨
          (getPart s p.val).ksNonce = none →
        Runs (.ksOpen p bytes w) s fun t =>
          t.result = Code.ACCESS_DENIED ∧ ksOpen t p.val = false ∧ (getPart t p.val).ksNonce = none ∧ t.mem = s.mem) ∧
      (∀ (bytes : List (BitVec 8)) (key : BitVec 768), bytes.length = 40 → ksUnwrap s p.val bytes = some key →
        keyRefusal s = none →
        Runs (.ksWrapCfg p bytes w) s fun t =>
          oget t (Od.CFG_KEY_ID p.val) = id ∧ oget t (Od.STREAM_SEQ_LAST p.val) = 0 ∧ t.result = 0 ∧ t.mem = s.mem ∧
          ∃ k, k < 64 ∧ slotLiveKey t k = true ∧ fget t (Reg.XTS_SLOT k) F.XTS_SLOT_KEY_ID = id ∧
            slotKey t k = keyOfBytes (keyBytes classCfg key)) ∧
      (∀ (bytes : List (BitVec 8)) (key : BitVec 768), bytes.length = 104 → ksUnwrap s p.val bytes = some key →
        keySlots s p.val classSector 1 = [] → keyRefusal s = none →
        Runs (.ksWrapSector p bytes w) s fun t =>
          fget t Reg.XTS_IDS F.XTS_IDS_ISSUED = id ∧ t.result = 0 ∧ t.mem = s.mem ∧
          ∃ k, k < 64 ∧ slotLiveKey t k = true ∧ fget t (Reg.XTS_SLOT k) F.XTS_SLOT_KEY_ID = id ∧
            slotKey t k = keyOfBytes (keyBytes classSector key)) ∧
      (Runs (.ksClose p w) s fun t =>
        fget t (Reg.PART_STATE p.val) F.PART_STATE_SESSION = 0 ∧ ksOpen t p.val = false ∧ t.result = 0 ∧ t.od = s.od) ∧
      (Runs (.sectorRetire p w) s fun t =>
        t.result = 0 ∧ OdKept s t [Od.SECTOR_KEY_ID p.val] ∧ ∀ k ∈ keySlots s p.val classSector 1, slotLiveKey t k = false) ∧
      (rolling s p.val = false → keyRefusal s = none →
        Runs (.lineRoll p w) s fun t =>
          rolling t p.val = true ∧ oget t (Od.LINE_KEY_ID p.val) = id ∧ odValue t w (Od.REKEY_PERMILLE p.val) = 0 ∧
          t.result = 0 ∧ (getPart t p.val).swept = 0 ∧ (getPart t p.val).lineGen = (getPart s p.val).lineGen + 1))

/-! ## Seam links (07) -/

/-- From R197, R201 to R203, R211: what every good frame's header does, by the frames that carry nothing else: IDLE, a
NAK in an IDLE frame, HALT and PEER_HALT. Model readings and choices it rests on: assumptions 22, 95. -/
def Obligations.SeamHeadersAndHaltsAreTaken : Prop :=
  ∀ (s : State) (i : Fin 16) (lane : Fin 5) (word : BitVec 20) (standby : Bool) (ws : List (BitVec 64)),
    let f := frameOf ws
    let u := headTaken s i.val lane.val standby f
    let acked := fun (q : Nat) => decide ((frameBits f 0 43 28 + 65536 - q) % 65536 < 32768)
    frameWf ws = true → goodWord word standby → goodFrame s i.val f true →
    (frameBits f 0 63 60 = 2 →
      Runs (.idleFrame i lane word ws true) s fun t =>
        (getPort t i.val).credit = frameBits f 0 26 16 ∧
        (getPort t i.val).replay = (getPort s i.val).replay.filter (fun r => !acked r.1) ∧
        (getPort t i.val).txSeq = (getPort s i.val).txSeq ∧ (getPort t i.val).rxNext = (getPort s i.val).rxNext ∧
        t.rings = s.rings ∧ t.mem = s.mem) ∧
    (frameBits f 0 63 60 = 2 → frameBits f 0 27 27 = 1 →
      Runs (.nak i lane word ws true) s fun t =>
        (getPort t i.val).resend = (getPort s i.val).replay.filter (fun r => !acked r.1) ∧
        (getPort t i.val).replay = (getPort s i.val).replay.filter (fun r => !acked r.1) ∧ t.mem = s.mem) ∧
    (∀ p l, portLink u i.val = some (p, l) → (getPart u p).peerHalt = false →
      ∀ x ∈ [(Instr.haltFrame i lane word ws true, 4), (Instr.peerHaltFrame i lane word ws true, 5)],
        frameBits f 0 63 60 = x.2 →
        Runs x.1 s fun t =>
          (getPart t p).peerHalt = true ∧ fget t (Reg.SEAM_STATUS i.val) F.SEAM_STATUS_PEER_HALT = 1 ∧
          (∃ r, t.logQueue = s.logQueue ++ [r] ∧ r.severity = 6 ∧ r.code = frameBits f 5 31 0) ∧ t.alert = true)

/-- From R198, R200, R202, R208 to R210, R214: a DATA frame's bundles enter their rings and control messages act, once
each, in order; a bad frame is answered with NAK. Model readings and choices it rests on: assumptions 22, 95. -/
def Obligations.SeamNumberedFramesAreTakenInOrder : Prop :=
  ∀ (s : State) (i : Fin 16) (lane : Fin 5) (word : BitVec 20) (ws : List (BitVec 64)),
    let f := frameOf ws
    let u := headTaken s i.val lane.val false f
    frameWf ws = true →
    (goodWord word false → goodFrame s i.val f true → nextInOrder s i.val f → frameBits f 0 63 60 = 1 →
      (getPort s i.val).resumeWait = false →
      ∀ (b : Bundle) (r : SeamIn), parseBundles 74 (contentOf f) = some [b] →
        bundlesFit (portIns s i.val) (portCount s i.val) (getPort s i.val).resuming (inPos s) [b] = true →
        extendCount 16 (portCount s i.val) b.ecycle ≤ portCount s i.val + 1 →
        (portIns s i.val).find? (fun r => decide (r.channel = b.channel)) = some r →
        Runs (.dataFrame i lane word ws true) s fun t =>
          sget (fun _ => []) t.rings b.channel = sget (fun _ => []) s.rings b.channel ++
            b.values.zipIdx.map (fun v => ⟨(inPos s b.channel).1, r.stitches.getD (b.index + v.2) 0, v.1⟩) ∧
          inPos t b.channel = posAfter (inPos s b.channel) b.values.length r.stitches.length ∧
          (getPort t i.val).rxNext = ((getPort s i.val).rxNext + 1) % 65536 ∧
          (getPort t i.val).unpacked = (getPort s i.val).unpacked + 1) ∧
    (goodWord word false → goodFrame s i.val f true → nextInOrder s i.val f → frameBits f 0 63 60 = 3 → ctrlFits f = true →
      (∀ x ∈ [(Instr.mapchk i lane word ws true, 1), (Instr.resume i lane word ws true, 2),
          (Instr.resumePoint i lane word ws true, 3), (Instr.resumeEnd i lane word ws true, 4)], frameBits f 5 63 56 = x.2 →
        Runs x.1 s fun t =>
          (getPort t i.val).rxNext = ((getPort s i.val).rxNext + 1) % 65536 ∧
          (getPort t i.val).unpacked = (getPort s i.val).unpacked + 1 ∧ t.rings = s.rings) ∧
      (frameBits f 5 63 56 = 1 → ∀ p l, portLink s i.val = some (p, l) →
        (frameWord f 6).toNat = (seamMapOf s p).emulation → frameBits f 7 47 40 = (seamMapOf s p).diameter →
        frameBits f 7 63 56 = l.peerModule → frameBits f 7 55 48 = l.peerLink →
        frameBits f 7 31 0 = mapCrc ((portIns s i.val).map fun r => (r.channel, r.stitches.length)) →
        Runs (.mapchk i lane word ws true) s fun t => fget t (Reg.SEAM_STATUS i.val) F.SEAM_STATUS_MAP_OK = 1) ∧
      (frameBits f 5 63 56 = 1 → ∀ p l, portLink s i.val = some (p, l) →
        (frameWord f 6).toNat ≠ (seamMapOf s p).emulation →
        Runs (.mapchk i lane word ws true) s fun t =>
          fget t (Reg.SEAM_STATUS i.val) F.SEAM_STATUS_MAP_OK = 0 ∧
          fget t (Reg.SEAM_STATUS i.val) F.SEAM_STATUS_MAP_MISMATCH = 1 ∧
          oget t (Od.LOAD_STATUS p) = Code.SEAM_MAP_MISMATCH) ∧
      (frameBits f 5 63 56 = 2 →
        Runs (.resume i lane word ws true) s fun t =>
          (getPort t i.val).resendB = (getPort u i.val).retained.filter fun b =>
            decide (extendCount 48 (portCount s i.val) (frameBits f 6 63 16) ≤ b.ecycle)) ∧
      (frameBits f 5 63 56 = 4 →
        Runs (.resumeEnd i lane word ws true) s fun t => (getPort t i.val).resumeWait = false)) ∧
    (portUp s i.val = true → (getPort s i.val).nakWait = false → isType 1 f = true →
      Runs (.dataFrame i lane word ws false) s fun t =>
        (getPort t i.val).nak = true ∧ (getPort t i.val).nakWait = true ∧
        (getPort t i.val).rxNext = (getPort s i.val).rxNext ∧ t.rings = s.rings)

/-- From R188, R196, R199 to R202: frames are sent, lost frames are asked for again, and ring values enter the fabric.
Model readings and choices it rests on: assumptions 12, 22, 23, 95. -/
def Obligations.SeamFramesAreSentAndValuesInjected : Prop :=
  ∀ (s : State) (i : Fin 16),
    let x := getPort s i.val
    let lane := (laneWord x (nextLane x), ·)
    (∀ q f rest, portUp s i.val = true → x.working ≠ [] → idleDue x = false → x.resend = (q, f) :: rest →
      Runs (.seamFrameSend i) s fun t =>
        (getPort t i.val).resend = rest ∧ (getPort t i.val).sent.length = x.sent.length + 1 ∧
        (getPort t i.val).txSeq = x.txSeq ∧ (getPort t i.val).replay = x.replay ∧
        fget t (Reg.SEAM_CNT i.val 1) F.SEAM_CNT_COUNT = min (fget s (Reg.SEAM_CNT i.val 1) F.SEAM_CNT_COUNT + 1) 0xFFFFFFFF ∧
        t = { s with ports := t.ports, regs := t.regs }) ∧
    (∀ c rest, portUp s i.val = true → x.working ≠ [] → idleDue x = false → x.resend = [] → x.ctrl = c :: rest → maySend x = true →
      Runs (.seamFrameSend i) s fun t =>
        (getPort t i.val).ctrl = rest ∧ (getPort t i.val).txSeq = (x.txSeq + 1) % 65536 ∧
        (getPort t i.val).sentCount = x.sentCount + 1 ∧
        (∃ f, (getPort t i.val).replay = x.replay ++ [(x.txSeq, f)] ∧ (getPort t i.val).sent = x.sent ++ [lane f]) ∧
        t = { s with ports := t.ports }) ∧
    (portUp s i.val = true → x.working ≠ [] → idleDue x = true ∨ (x.resend = [] ∧ maySend x = false) →
      Runs (.seamFrameSend i) s fun t =>
        (getPort t i.val).sent = x.sent ++ [lane (buildFrame s i.val 2 0 [])] ∧ (getPort t i.val).txSeq = x.txSeq ∧
        (getPort t i.val).replay = x.replay ∧ (getPort t i.val).resend = x.resend ∧ (getPort t i.val).ctrl = x.ctrl ∧ t = { s with ports := t.ports }) ∧
    (portUp s i.val = true → x.nakWait = false →
      Runs (.lostFrameDetect i) s fun t =>
        (getPort t i.val).nak = true ∧ (getPort t i.val).nakWait = true ∧ (getPort t i.val).rxHeld = [] ∧
        t = { s with ports := t.ports, regs := t.regs } ∧ RegsKept s t [Reg.SEAM_CNT i.val 0]) ∧
    (x.nakWait = true →
      Runs (.nakResendTimeout i) s fun t =>
        (getPort t i.val).nak = true ∧ t = { s with ports := t.ports, regs := t.regs } ∧
        RegsKept s t [Reg.SEAM_CNT i.val 0]) ∧
    (∀ (ch : Fin 3072) (v : RingValue) (rest : List RingValue) (upset : BitVec 48) (g : Group),
      sget (fun _ => []) s.rings ch.val = v :: rest →
      crossGroup { value := some v.value, stitch := v.stitch, ecycle := v.ecycle, count := 0 } upset.toNat = some g →
      getStage s (stageKey (inboundStage ch.val).1 (inboundStage ch.val).2) = none →
      Runs (.seamValueInject ch upset) s fun t =>
        sget (fun _ => []) t.rings ch.val = rest ∧
        getStage t (stageKey (inboundStage ch.val).1 (inboundStage ch.val).2) =
          some ⟨g, []⟩ ∧ t = { s with rings := t.rings, stages := t.stages })

/-- From R186, R203, R204: lanes are left, moved, retrained and restored. R186, R204, R210, R213, R214: links come up,
retrain, are lost and are switched off. Model readings and choices it rests on: assumptions 22, 95. -/
def Obligations.SeamLanesAndPortsFollowTheirRules : Prop :=
  (∀ (s : State) (i : Fin 16) (k : Fin 5),
     let x := getPort s i.val
     (∀ uncorr corr, corr ≤ 0xFFFF → Runs (.laneWindowEnd i k uncorr corr) s fun t =>
       fget t (Reg.SEAM_LANE i.val k.val) F.SEAM_LANE_CORR = corr ∧
       ((oget s Od.LANE_UNCORR_LIMIT < uncorr ∨ oget s Od.LANE_CORR_LIMIT < corr) →
         fbit s (Reg.SEAM_LANE i.val k.val) F.SEAM_LANE_UP = true → k.val ∈ (getPort t i.val).lreqs) ∧
       t = { s with ports := t.ports, regs := t.regs } ∧
       RegsKept s t [Reg.SEAM_LANE i.val k.val, Reg.SEAM_STATUS i.val]) ∧
     (fbit s (Reg.SEAM_LANE i.val k.val) F.SEAM_LANE_UP = true → (∃ j ∈ x.rxLanes, j ≠ k.val) →
       Runs (.laneAlignmentLost i k) s fun t =>
         fget t (Reg.SEAM_LANE i.val k.val) F.SEAM_LANE_UP = 0 ∧ k.val ∈ (getPort t i.val).lreqs ∧ (∀ j ∈ x.rxLanes, j ≠ k.val → j ∈ (getPort t i.val).rxLanes) ∧
         t = { s with ports := t.ports, regs := t.regs }) ∧
     (∀ j, x.peerLreq = some k.val → x.working.contains k.val = true → x.standby = some j →
       Runs (.laneMove i) s fun t =>
         (getPort t i.val).working = x.working.map (fun l => if l = k.val then j else l) ∧
         (getPort t i.val).standby = none ∧ (getPort t i.val).peerLreq = none ∧
         t = { s with ports := t.ports, regs := t.regs }) ∧
     (x.peerLreq = some k.val → x.working.contains k.val = true → x.standby = none →
       x.working.filter (fun l => decide (l ≠ k.val)) ≠ [] →
       Runs (.laneMove i) s fun t =>
         (getPort t i.val).working = x.working.filter (fun l => decide (l ≠ k.val)) ∧
         (getPort t i.val).peerLreq = none ∧
         (x.working.length ≤ 4 → fget t (Reg.SEAM_STATUS i.val) F.SEAM_STATUS_DEGRADED = 1)) ∧
     (Runs (.laneTrainDone i k true) s fun t =>
       fget t (Reg.SEAM_LANE i.val k.val) F.SEAM_LANE_UP = 1 ∧
       fget t (Reg.SEAM_LANE i.val k.val) F.SEAM_LANE_TRAINING = 0 ∧
       fget t (Reg.SEAM_LANE i.val k.val) F.SEAM_LANE_FAILED = 0 ∧
       sget (fun _ => 0) (getPort t i.val).fails k.val = 0 ∧ t = { s with ports := t.ports, regs := t.regs }) ∧
     (sget (fun _ => 0) x.fails k.val = 2 →
       Runs (.laneTrainDone i k false) s fun t =>
         fget t (Reg.SEAM_LANE i.val k.val) F.SEAM_LANE_FAILED = 1 ∧ sget (fun _ => 0) (getPort t i.val).fails k.val = 3) ∧
     (fbit s (Reg.SEAM_LANE i.val k.val) F.SEAM_LANE_UP = true → x.working.contains k.val = false →
       x.standby ≠ some k.val → portUp s i.val = true → x.working.length < 4 →
       Runs (.laneStandbyRestore i k) s fun t =>
         (getPort t i.val).working = x.working ++ [k.val] ∧
         fget t (Reg.SEAM_STATUS i.val) F.SEAM_STATUS_WORKING = x.working.length + 1 ∧
         t = { s with ports := t.ports, regs := t.regs }) ∧
     (fbit s (Reg.SEAM_LANE i.val k.val) F.SEAM_LANE_UP = true → x.working.contains k.val = false →
       x.standby = none → portUp s i.val = true → 4 ≤ x.working.length →
       Runs (.laneStandbyRestore i k) s fun t =>
         (getPort t i.val).standby = some k.val ∧ (getPort t i.val).working = x.working)) ∧
  (∀ (s : State) (i : Fin 16),
     let x := getPort s i.val
     let en := fbit s (Reg.SEAM_CTRL i.val) F.SEAM_CTRL_EN
     (∀ (mask : BitVec 5) (anew : Bool), mask ≠ 0 → en = true →
       Runs (.seamLinkUp i mask anew) s fun t =>
         fget t (Reg.SEAM_STATUS i.val) F.SEAM_STATUS_UP = 1 ∧ fget t (Reg.SEAM_STATUS i.val) F.SEAM_STATUS_LOST = 0 ∧
         fget t (Reg.SEAM_CTRL i.val) F.SEAM_CTRL_RETRAIN = 0 ∧
         (getPort t i.val).working = ((List.range 5).filter fun k => mask.getLsbD k).take 4 ∧
         (getPort t i.val).standby = ((List.range 5).filter fun k => mask.getLsbD k)[4]? ∧
         (getPort t i.val).txSeq = (if x.retraining && !anew then x.txSeq else 0) ∧
         (getPort t i.val).rxNext = (if x.retraining && !anew then x.rxNext else 0) ∧
         (getPort t i.val).replay = (if x.retraining && !anew then x.replay else []) ∧
         t = { s with ports := t.ports, regs := t.regs }) ∧
     (en = true →
       Runs (.seamRetrain i) s fun t =>
         fget t (Reg.SEAM_STATUS i.val) F.SEAM_STATUS_UP = 0 ∧ fget t (Reg.SEAM_CTRL i.val) F.SEAM_CTRL_RETRAIN = 1 ∧
         (getPort t i.val).working = [] ∧ (getPort t i.val).replay = x.replay ∧ (getPort t i.val).txSeq = x.txSeq ∧
         t = { s with ports := t.ports, regs := t.regs }) ∧
     (portUp s i.val = false → fbit s (Reg.SEAM_STATUS i.val) F.SEAM_STATUS_LOST = false → en = true →
       Runs (.seamDownTimeout i) s fun t =>
         fget t (Reg.SEAM_STATUS i.val) F.SEAM_STATUS_LOST = 1 ∧ t.alert = true ∧
         ∃ r, t.logQueue = s.logQueue ++ [r] ∧ r.severity = 6) ∧
     (Runs (.seamCtrlEnWrite i true) s fun t =>
       fget t (Reg.SEAM_CTRL i.val) F.SEAM_CTRL_EN = 1 ∧ RegsOnly s t ∧ RegsKept s t [Reg.SEAM_CTRL i.val]) ∧
     ((∀ p l, portLink s i.val = some (p, l) → partRunning s p = false) →
       Runs (.seamCtrlEnWrite i false) s fun t =>
         fget t (Reg.SEAM_CTRL i.val) F.SEAM_CTRL_EN = 0 ∧ fget t (Reg.SEAM_STATUS i.val) F.SEAM_STATUS_UP = 0 ∧
         (getPort t i.val).working = [] ∧ t = { s with ports := t.ports, regs := t.regs }) ∧
     (∀ p l, portLink s i.val = some (p, l) → partRunning s p = true → portOuts s i.val ≠ [] →
       Runs (.seamCtrlEnWrite i false) s fun t =>
         t.regs = s.regs ∧ t.ports = s.ports ∧ ∃ r, t.logQueue = s.logQueue ++ [r] ∧ r.code = Code.LIMIT_REFUSED) ∧
     (Runs (.seamClrcnt i) s fun t =>
       (∀ k, k < 5 → rget t (Reg.SEAM_CNT i.val k) = 0 ∧ fget t (Reg.SEAM_LANE i.val k) F.SEAM_LANE_UNCORR = 0) ∧
       RegsOnly s t))

/-! ## The Cuff (08) -/

/-- From R234, R235, R236: at an edge, the slot's signals from the fabric act: captures enter the input FIFO, or are
discarded by the binding form, and takes leave the output FIFO. R238 to R242: what a bridge binds to its next ecycle
and what it moves out. Model readings and choices it rests on: assumptions 23, 29, 90. -/
def Obligations.BridgesFillBindAndMove : Prop :=
  (∀ (s : State) (i : Fin 32),
     let y := getSlot s i.val
     let st := Reg.CUFF_FP_STATUS i.val
     let d := fabricData s i.val % 2 ^ ctlInWidth s.frames i.val
     slotMode s i.val = 1 → slotLive s i.val = true →
     (fabricSignal s i.val 128 = false → RunsFabric (.bridgeCapture i) s fun t => t = s) ∧
     (fabricSignal s i.val 129 = false → RunsFabric (.bridgeOutTake i) s fun t => t = s) ∧
     (fabricSignal s i.val 128 = true → y.inFifo.length < 4096 →
       RunsFabric (.bridgeCapture i) s fun t =>
         (getSlot t i.val).inFifo = y.inFifo ++ [d] ∧ (getSlot t i.val).outFifo = y.outFifo ∧
         fget t st F.CUFF_FP_STATUS_IN_FILL = y.inFifo.length + 1 ∧
         (ctlQueue s.frames i.val = true →
           (ctlHigh s.frames i.val ≤ y.inFifo.length + 1 → fget t st F.CUFF_FP_STATUS_FULL = 1) ∧
           (y.inFifo.length + 1 < ctlHigh s.frames i.val → y.inFifo.length + 1 ≤ ctlLow s.frames i.val →
             fget t st F.CUFF_FP_STATUS_FULL = 0) ∧
           (ctlLow s.frames i.val < y.inFifo.length + 1 → y.inFifo.length + 1 < ctlHigh s.frames i.val →
             fbit t st F.CUFF_FP_STATUS_FULL = fbit s st F.CUFF_FP_STATUS_FULL)) ∧
         t = { s with slots := t.slots, regs := t.regs } ∧ RegsKept s t [st, Reg.CUFF_FP_OUT_FILL i.val]) ∧
     (fabricSignal s i.val 128 = true → 4096 ≤ y.inFifo.length → ctlQueue s.frames i.val = true →
       RunsFabric (.bridgeCapture i) s fun t =>
         (getSlot t i.val).inFifo = y.inFifo ∧ (getSlot t i.val).outFifo = y.outFifo ∧ fbit t st F.CUFF_FP_STATUS_OVF = true ∧
         fget t (Reg.CUFF_FP_DROP_CNT i.val) F.CUFF_FP_DROP_CNT_COUNT =
           min (fget s (Reg.CUFF_FP_DROP_CNT i.val) F.CUFF_FP_DROP_CNT_COUNT + 1) 0xFFFFFFFF ∧
         (fbit s st F.CUFF_FP_STATUS_OVF = true → y.ovfKinds % 2 = 1 → t = { s with slots := t.slots, regs := t.regs })) ∧
     (fabricSignal s i.val 128 = true → 4096 ≤ y.inFifo.length → ctlQueue s.frames i.val = false →
       RunsFabric (.bridgeCapture i) s fun t =>
         (getSlot t i.val).inFifo = y.inFifo.tail ++ [d] ∧ fbit t st F.CUFF_FP_STATUS_OVF = true ∧
         fget t (Reg.CUFF_FP_SUPERSEDED_CNT i.val) F.CUFF_FP_SUPERSEDED_CNT_COUNT =
           min (fget s (Reg.CUFF_FP_SUPERSEDED_CNT i.val) F.CUFF_FP_SUPERSEDED_CNT_COUNT + 1) 0xFFFFFFFF) ∧
     (∀ v rest, fabricSignal s i.val 129 = true → y.outFifo = v :: rest → rest.length < 4096 →
       RunsFabric (.bridgeOutTake i) s fun t =>
         (getSlot t i.val).outFifo = rest ∧ (getSlot t i.val).shown = v ∧ (getSlot t i.val).inFifo = y.inFifo ∧
         fget t (Reg.CUFF_FP_OUT_FILL i.val) F.CUFF_FP_OUT_FILL_OUT_FILL = rest.length ∧
         t = { s with slots := t.slots, regs := t.regs } ∧ RegsKept s t [st, Reg.CUFF_FP_OUT_FILL i.val]) ∧
     (fabricSignal s i.val 129 = true → y.outFifo = [] →
       RunsFabric (.bridgeOutTake i) s fun t =>
         fget t (Reg.CUFF_FP_UNDER_CNT i.val) F.CUFF_FP_UNDER_CNT_COUNT =
           min (fget s (Reg.CUFF_FP_UNDER_CNT i.val) F.CUFF_FP_UNDER_CNT_COUNT + 1) 0xFFFFFFFF ∧
         fget t st F.CUFF_FP_STATUS_UNDERRUN = 1 ∧ RegsOnly s t ∧ RegsKept s t [st, Reg.CUFF_FP_UNDER_CNT i.val])) ∧
  (∀ (s : State) (i : Fin 32) (p : Nat),
     let y := getSlot s i.val
     let q := getPart s p
     let x := y.bound
     let w := ctlInWidth s.frames i.val
     slotPart s i.val = some p → slotMode s i.val = 1 → s.pinsHeld = false →
     (x ≤ q.completed + 1 → (2 ≤ x ∨ oget s (Od.RUN_STATE p) = 2) →
       (∀ r, loggedBinding s p i.val x = some r →
         RunsBridge (.bridgeBind i) s i.val fun t =>
           (getSlot t i.val).bound = x + 1 ∧ (getSlot t i.val).inFifo = y.inFifo ∧ t.parts = s.parts ∧
           rget t (Reg.CUFF_FP_BOUND i.val) = BitVec.ofNat 32 x ∧
           ∀ ch tag pos, slotChans s.frames i.val 0 = [(ch, tag, pos)] → sget (fun _ => []) t.rings ch =
             sget (fun _ => []) s.rings ch ++ [⟨x, tag, layoutBit w (bindK s.frames i.val) r.count r.entries pos⟩]) ∧
       (∀ (c : Nat) (entries : List Nat), loggedBinding s p i.val x = none →
         (ctlAllow s.frames i.val = true → (allowance s i.val x).isSome = true) →
         (ctlQueue s.frames i.val = true →
           c = min (min y.inFifo.length (ctlBindMax s.frames i.val))
             (if ctlAllow s.frames i.val then (allowance s i.val x).getD 0 else ctlBindMax s.frames i.val) ∧
           entries = y.inFifo.take c) →
         (ctlQueue s.frames i.val = false →
           c = (if y.inFifo = [] then 0 else 1) ∧
           entries = [(y.inFifo.getLast?.getD (y.last.getD 0))]) →
         ((⟨i.val, x, c, entries⟩ :: q.inlog).map fun r => inlogBytes (ctlInWidth s.frames r.slot) r).sum
           ≤ oget s (Od.INLOG_MIB p) * 0x100000 →
         RunsBridge (.bridgeBind i) s i.val fun t =>
           (getSlot t i.val).bound = x + 1 ∧
           (getSlot t i.val).inFifo = (if ctlQueue s.frames i.val then y.inFifo.drop c else []) ∧
           (getPart t p).inlog = q.inlog ++ [⟨i.val, x, c, entries⟩] ∧
           rget t (Reg.CUFF_FP_BOUND i.val) = BitVec.ofNat 32 x ∧
           ∀ ch tag pos, slotChans s.frames i.val 0 = [(ch, tag, pos)] → sget (fun _ => []) t.rings ch =
             sget (fun _ => []) s.rings ch ++ [⟨x, tag, layoutBit w (bindK s.frames i.val) c entries pos⟩])) ∧
     (q.completed + 1 < x → RunsBridge (.bridgeBind i) s i.val fun t => t = s) ∧
     (∀ l, outValues s i.val y.moved = some l →
       let k := outK s.frames i.val
       let ow := ctlOutWidth s.frames i.val
       let n := if ctlOutQueue s.frames i.val then min (posNat l (k * ow) (countBits k)) k else 1
       (y.moveMark ≤ y.moved → y.outFifo.length + n ≤ 4096 →
         RunsBridge (.bridgeMove i) s i.val fun t =>
           (getSlot t i.val).outFifo = y.outFifo ++ (List.range n).map (fun j => posNat l (j * ow) ow) ∧
           (getSlot t i.val).moved = y.moved + 1 ∧
           rget t (Reg.CUFF_FP_MOVED i.val) = BitVec.ofNat 32 y.moved ∧
           t = { s with slots := t.slots, regs := t.regs, outbound := t.outbound }) ∧
       (y.moved < y.moveMark →
         RunsBridge (.bridgeMove i) s i.val fun t =>
           (getSlot t i.val).outFifo = y.outFifo ∧ (getSlot t i.val).moved = y.moved + 1 ∧
           rget t (Reg.CUFF_FP_MOVED i.val) = BitVec.ofNat 32 (y.moveMark - 1) ∧
           t = { s with slots := t.slots, regs := t.regs, outbound := t.outbound })))

/-- From R225, R231, R243 and CUFF_CTRL: transactor beats, shared-line conflicts, bank supplies and the counters'
clear. Model readings and choices it rests on: assumptions 28, 31, 90. -/
def Obligations.TransactorsBanksAndConflictsFollowTheirRules : Prop :=
  ∀ (s : State),
    (∀ (i : Fin 32),
      let y := getSlot s i.val
      let data := fabricData s i.val
      let last := fabricSignal s i.val 129
      slotMode s i.val = 2 → slotLive s i.val = true →
      (fabricSignal s i.val 130 = false → RunsFabric (.transactorRxBeat i) s fun t => t = s) ∧
      (fabricSignal s i.val 128 = false → RunsFabric (.transactorTxBeat i) s fun t => t = s) ∧
      (∀ m rest, fabricSignal s i.val 130 = true → dmaServes s (ctlRxq s.frames i.val) 2 0 = true →
        sget (fun _ => []) s.fromHost (ctlRxq s.frames i.val) = m :: rest →
        RunsFabric (.transactorRxBeat i) s fun t =>
          sget (fun _ => []) t.fromHost (ctlRxq s.frames i.val) = rest ∧ t = { s with fromHost := t.fromHost }) ∧
      (fabricSignal s i.val 128 = true → dmaServes s (ctlTxq s.frames i.val) 2 1 = true → dmaPending s (ctlTxq s.frames i.val) ≠ 0 → y.txBad = false →
        (y.txBeats.length ≠ 4096 → last = false →
          RunsFabric (.transactorTxBeat i) s fun t =>
            (getSlot t i.val).txBeats = y.txBeats ++ [data] ∧ t = { s with slots := t.slots }) ∧
        (y.txBeats.length ≠ 4096 → last = true →
          RunsFabric (.transactorTxBeat i) s fun t =>
            (getSlot t i.val).txBeats = [] ∧
            hostQueue t (ctlTxq s.frames i.val) = hostQueue s (ctlTxq s.frames i.val) ++
              [⟨(y.txBeats ++ [data]).flatMap (leBytes 16), true⟩] ∧
            t = { s with slots := t.slots, toHost := t.toHost }) ∧
        (y.txBeats.length = 4096 →
          RunsFabric (.transactorTxBeat i) s fun t =>
            (getSlot t i.val).txBeats = [] ∧ (getSlot t i.val).txBad = !last ∧ t.toHost = s.toHost ∧
            fbit t (Reg.CUFF_FP_STATUS i.val) F.CUFF_FP_STATUS_OVF = true ∧
            fget t (Reg.CUFF_FP_DROP_CNT i.val) F.CUFF_FP_DROP_CNT_COUNT =
              min (fget s (Reg.CUFF_FP_DROP_CNT i.val) F.CUFF_FP_DROP_CNT_COUNT + 1) 0xFFFFFFFF))) ∧
    (∀ (row : Fin 32) (span : Fin 4) (line : Fin 16) (en : BitVec 12) (d e : Nat) (ds : List Nat),
      ((List.range 12).filter fun k => en.getLsbD k) = d :: e :: ds →
      RunsFabric (.driverConflict row span line en) s fun t =>
        fget t Reg.CUFF_DRVX_CNT F.CUFF_DRVX_CNT_COUNT =
          min (fget s Reg.CUFF_DRVX_CNT F.CUFF_DRVX_CNT_COUNT + 1) 0xFFFFFFFF ∧
        fget t Reg.CUFF_STATUS F.CUFF_STATUS_DRVX = 1 ∧
        (∀ k, k < 12 →
          (routeEntry t.frames (12 * span.val + k) row.val (128 + line.val) / 0x8000 = 1 ↔ en.getLsbD k = true)) ∧
        (fbit s Reg.CUFF_DRVX_CAP F.CUFF_DRVX_CAP_VALID = true → rget t Reg.CUFF_DRVX_CAP = rget s Reg.CUFF_DRVX_CAP) ∧
        (fbit s Reg.CUFF_DRVX_CAP F.CUFF_DRVX_CAP_VALID = false →
          fget t Reg.CUFF_DRVX_CAP F.CUFF_DRVX_CAP_VALID = 1 ∧ fget t Reg.CUFF_DRVX_CAP F.CUFF_DRVX_CAP_ROW = row.val ∧
          fget t Reg.CUFF_DRVX_CAP F.CUFF_DRVX_CAP_SPAN = span.val ∧ fget t Reg.CUFF_DRVX_CAP F.CUFF_DRVX_CAP_LINE = line.val ∧
          fget t Reg.CUFF_DRVX_CAP F.CUFF_DRVX_CAP_CONNECTED = d ∧
          fget t Reg.CUFF_DRVX_CAP F.CUFF_DRVX_CAP_ENABLED = en.toNat)) ∧
    (∀ (b : Fin 16) (meas : Fin 4),
      let r := Reg.CUFF_BANK b.val
      (RunsFabric (.vioChange b meas) s fun t =>
        fget t r F.CUFF_BANK_VIO_MEAS = meas.val ∧ fget t r F.CUFF_BANK_VIO_SEL = fget s r F.CUFF_BANK_VIO_SEL ∧
        (fget s r F.CUFF_BANK_VIO_SEL = meas.val →
          fget t r F.CUFF_BANK_VIO_OK = 1 ∧ RegsOnly s t ∧ RegsKept s t [r]) ∧
        (fget s r F.CUFF_BANK_VIO_SEL ≠ meas.val → fget s r F.CUFF_BANK_VIO_SEL ≠ 0 →
          fget t r F.CUFF_BANK_VIO_OK = 0 ∧ fget t r F.CUFF_BANK_HELD = 1 ∧ fget t Reg.CUFF_STATUS F.CUFF_STATUS_VIO_FAULT = 1)) ∧
      (fbit s r F.CUFF_BANK_VIO_OK = true →
        RunsFabric (.bankConfigTake b) s fun t => fget t r F.CUFF_BANK_HELD = 0 ∧
          t = { s with regs := t.regs, pinOut := t.pinOut } ∧ RegsKept s t [r])) ∧
    (Runs .cuffClrcnt s fun t =>
      rget t Reg.CUFF_DRVX_CNT = 0 ∧
      (∀ i, i < 32 → rget t (Reg.CUFF_FP_DROP_CNT i) = 0 ∧ rget t (Reg.CUFF_FP_UNDER_CNT i) = 0 ∧
        rget t (Reg.CUFF_FP_SUPERSEDED_CNT i) = 0) ∧ RegsOnly s t)

/-! ## Configuration streams (09) -/

/-- From R248, R249, R252 to R257, R271: a stream in its staging area whose header, tag and sequence pass is decrypted
in place and interpreted; one that fails, or that cannot be read, is refused whole, reported and leaves nothing
behind; so is one whose bytes stop coming. R247, R250, R251: what each stream command does to the stream, and that
nothing else changes before the commit. Model readings and choices it rests on: assumptions 11, 25, 77. -/
def Obligations.StreamsAreAcceptedAndInterpreted : Prop :=
  (∀ (s : State) (p : Fin 16) (e : AccessEvent),
     let x := getPart s p.val
     let a := x.stageAt.getD 0
     let r := engineRead s a x.staged e
     let h := stageOf r.1 p.val
     let n := leAt h 8 8
     let plain := streamPlain r.1 p.val h n
     let formatOk := leAt h 0 4 = 0x47464356 ∧ leAt h 4 2 = 2 ∧ leAt h 7 1 = 0 ∧ leAt h 0x1A 2 = 0 ∧ leAt h 0x28 24 = 0 ∧
       leAt h 6 1 = p.val ∧ n ≤ oget s (Od.STAGE_MIB p.val) * 2 ^ 20 ∧ n % 16 = 0 ∧ 96 ≤ n ∧ x.staged = n
     let keyOk := streamTagOk r.1 p.val h n = true ∧ leAt h 0x18 2 = oget s (Od.CFG_KEY_ID p.val)
     let refused := fun (u t : State) (code : Nat) =>
       oget t (Od.STREAM_STATUS p.val) = code ∧ (getPart t p.val).stream = none ∧ (getPart t p.val).staged = 0 ∧
       fget t Reg.CFG_STATUS F.CFG_STATUS_BUSY / 2 ^ p.val % 2 = 0 ∧ t.frames = s.frames ∧ t.mem = u.mem ∧
       (∃ r, t.logQueue = s.logQueue ++ [r] ∧ r.code = code ∧ r.severity = 4) ∧
       OdKept s t [Od.STREAM_STATUS p.val, Od.STREAM_FAIL_AT p.val, Od.FRAMES_WRITTEN p.val, Od.HOLD_US p.val]
     (partState s p.val = 2 → leased s = true → x.stream = none → r.2 = 0 → formatOk →
       (keyOk → oget s (Od.STREAM_SEQ_LAST p.val) < leAt h 0x10 8 →
         (∃ w, (wordsLE ((n - 80) / 4) plain)[0]? = some w ∧ w.toNat / 2 ^ 24 ≤ 7) →
         Runs (.streamArrived p e) s fun t =>
           (getPart t p.val).stream = some { seq := leAt h 0x10 8, body := wordsLE ((n - 80) / 4) plain } ∧
           memBytes t (a + 64) plain.length = plain ∧ MemKept r.1 t (a + 64) (a + 64 + plain.length) ∧
           t = { r.1 with mem := t.mem, parts := t.parts } ∧ PartsKept s t p.val) ∧
       (¬ keyOk → Runs (.streamArrived p e) s fun t => refused r.1 t Code.CFG_AUTH_FAIL) ∧
       (keyOk → leAt h 0x10 8 ≤ oget s (Od.STREAM_SEQ_LAST p.val) →
         Runs (.streamArrived p e) s fun t => refused r.1 t Code.CFG_STREAM_SEQ)) ∧
     (leased s = true → x.stream = none → 64 ≤ x.staged → r.2 = Code.HBM_UNCORRECTABLE →
       Runs (.streamArrived p e) s fun t => refused r.1 t Code.HBM_UNCORRECTABLE) ∧
     (let h := stageOf s p.val
      x.stream = none → x.staged ≠ 0 → (x.staged < 64 ∨ x.staged < leAt h 8 8) →
       Runs (.stageTimeout p) s fun t => refused s t Code.TIMEOUT) ∧
     (∀ y, x.stream = some y →
       Runs (.stageTimeout p) s fun t => (getPart t p.val).stream = some y ∧ t = { s with parts := t.parts })) ∧
  (∀ (s : State) (p : Fin 16) (x : Stream) (w : Word),
     let arg := w.toNat % 2 ^ 24
     let op := w.toNat / 2 ^ 24
     let listed := fun (pos : Nat) => ∃ v : Word, x.body[pos]? = some v ∧ v.toNat / 2 ^ 24 ≤ 7
     let becomes := fun (i : Instr) (y : Stream) =>
       Runs i s fun t => (getPart t p.val).stream = some y ∧ t = { s with parts := t.parts } ∧ PartsKept s t p.val
     let fails := fun (i : Instr) (code at_ : Nat) =>
       Runs i s fun t =>
         oget t (Od.STREAM_STATUS p.val) = code ∧ oget t (Od.STREAM_FAIL_AT p.val) = 2 ^ 62 + at_ % 2 ^ 32 ∧
         (getPart t p.val).stream = none ∧ t.frames = s.frames ∧ t.mem = s.mem
     (getPart s p.val).stream = some x → x.phase = 0 → x.body[x.pos]? = some w →
     (op = 0 → arg = 0 → listed (x.pos + 1) → becomes (.cfgNop p) { x with pos := x.pos + 1 }) ∧
     (op = 0 → arg ≠ 0 → fails (.cfgNop p) Code.CFG_FORMAT x.pos) ∧
     (∀ v : Word, op = 1 → arg = 0 → x.body[x.pos + 1]? = some v → listed (x.pos + 2) →
       becomes (.far p) { x with pos := x.pos + 2, far := some v.toNat }) ∧
     (∀ fa r, x.far = some fa → x.regions = some r → 4 ≤ faTarget fa → faTarget fa ≤ 5 → faFrame fa + (arg + 1) ≤ 0x20000 →
       (∀ i, i ≤ arg → frameDefined (fa + i) = true ∧ (∀ v ∈ x.writes, v.1 ≠ fa + i) ∧
         (faTree (fa + i) ≠ none ∨ maskBit r (faRegion (fa + i)) = true)) →
       (op = 2 → x.pos + 1 + 1024 * (arg + 1) ≤ x.body.length → listed (x.pos + 1 + 1024 * (arg + 1)) →
         becomes (.write p) { x with
           pos := x.pos + 1 + 1024 * (arg + 1), far := some (fa / 2 ^ 17 * 2 ^ 17 + (faFrame fa + (arg + 1)) % 2 ^ 17),
           writes := x.writes ++ (List.range (arg + 1)).map fun i => (fa + i, some (x.pos + 1 + 1024 * i)) }) ∧
       (op = 3 → listed (x.pos + 1) →
         becomes (.zero p) { x with
           pos := x.pos + 1, far := some (fa / 2 ^ 17 * 2 ^ 17 + (faFrame fa + (arg + 1)) % 2 ^ 17),
           writes := x.writes ++ (List.range (arg + 1)).map fun i => (fa + i, none) })) ∧
     (∀ fa, x.far = some fa → faTarget fa < 4 → op = 3 → fails (.zero p) Code.ACCESS_DENIED x.pos) ∧
     (op = 2 → x.body.length < x.pos + 1 + 1024 * (arg + 1) → fails (.write p) Code.LENGTH_EXCEEDS_BUFFER x.pos) ∧
     (op = 4 → x.regions = none → arg < 2 ^ 16 → listed (x.pos + 1) →
       becomes (.regions p) { x with pos := x.pos + 1, regions := some arg }) ∧
     (op = 4 → x.regions ≠ none → fails (.regions p) Code.CFG_FORMAT x.pos) ∧
     (∀ lo hi : Word, let n := lo.toNat + hi.toNat * 2 ^ 32
       op = 5 → arg = 0 → x.pattern = none → x.body[x.pos + 1]? = some lo → x.body[x.pos + 2]? = some hi →
       x.pos + 3 + (n + 3) / 4 ≤ x.body.length → listed (x.pos + 3 + (n + 3) / 4) →
       becomes (.pattern p) { x with pos := x.pos + 3 + (n + 3) / 4, pattern := some (x.pos + 3, n) }) ∧
     (op = 6 → arg = 0 → x.keyRoll = none → x.pos + 11 ≤ x.body.length → listed (x.pos + 11) →
       becomes (.keyRoll p) { x with pos := x.pos + 11, keyRoll := some (x.pos + 1) }))

/-- From R258 to R262, R265, R266, R271: a checked stream waits, commits all its frames at once and releases its
regions; a failure before the commit point leaves the committed frames as they were. R268 to R270: the INIT_N and DONE
lines. Model readings and choices it rests on: assumptions 26, 89, 90, 91, 93. -/
def Obligations.StreamsCommitAndLinesFollowTheirRules : Prop :=
  (∀ (s : State) (p : Fin 16) (x : Stream) (ch : List (List SwitchChange)),
     let mask := x.regions.getD 0
     let m := mergeFrames s.goldenFrames x
     let file := (getPart s p.val).golden.file
     let written := x.writes.map fun w => w.1
     let checks := checkFrames s p.val mask s.goldenFrames m written file
     (getPart s p.val).stream = some x → mask < 2 ^ 16 →
     (∀ w : Word, x.phase = 0 → x.body[x.pos]? = some w → w.toNat = 7 * 2 ^ 24 →
       ((x.body.drop (x.pos + 1)).all (fun v => v == 0) = true → x.pattern = none → x.keyRoll = none →
         checks = none →
         Runs (.commit p ch) s fun t =>
           (getPart t p.val).stream = some { x with phase := 1 } ∧ t = { s with parts := t.parts }) ∧
       (∀ at_, (x.body.drop (x.pos + 1)).all (fun v => v == 0) = true → x.pattern = none → checks = none →
         x.keyRoll = some at_ →
         (rolledKey s p.val x at_ = none →
           Runs (.commit p ch) s fun t =>
             (getPart t p.val).stream = none ∧ oget t (Od.STREAM_STATUS p.val) = Code.CFG_AUTH_FAIL ∧ t.keys = s.keys ∧
             t.frames = s.frames ∧ t.mem = s.mem) ∧
         (∀ key, rolledKey s p.val x at_ = some key → keyRefusal s = none →
           Runs (.commit p ch) s fun t =>
             ∃ k, k < 64 ∧ slotLiveKey s k = false ∧ t.keys = s.keys ∧ (getPart t p.val).stream = some { x with
               phase := 1, newKey := key, keySlot := some (k, fget s Reg.XTS_IDS F.XTS_IDS_ISSUED + 1) })) ∧
       (∀ e, (x.body.drop (x.pos + 1)).all (fun v => v == 0) = true → x.pattern = none →
         checks = some e →
         Runs (.commit p ch) s fun t =>
           (getPart t p.val).stream = none ∧ oget t (Od.STREAM_STATUS p.val) = e.code ∧ t.frames = s.frames ∧ t.mem = s.mem ∧
           (e.drive ≠ 0 → oget t (Od.DRIVER_CONFLICT p.val) = e.drive))) ∧
     (x.phase = 1 → commitWaits s p.val x = false →
       (x.pattern = none → x.keyRoll = none →
         Runs (.streamCommit p ch none) s fun t =>
           t.frames = mergeFrames s.frames x ∧ t.goldenFrames = m ∧ t.mem = s.mem ∧ oget t (Od.STREAM_SEQ_LAST p.val) = x.seq ∧
           oget t (Od.FRAMES_WRITTEN p.val) = x.writes.length ∧
           fget t Reg.CFG_REGION F.CFG_REGION_HOLD = fget s Reg.CFG_REGION F.CFG_REGION_HOLD ||| mask ∧
           fget t Reg.CFG_REGION F.CFG_REGION_FIRST = fget s Reg.CFG_REGION F.CFG_REGION_FIRST ||| mask ∧
           (mask ≠ 0 → fget t Reg.CUFF_STATUS F.CUFF_STATUS_COMMITTED = 1) ∧
           (getPart t p.val).stream = some { x with phase := 2, heldAt := s.ticks }) ∧
       (∀ i fa, x.pattern = none → x.writes.findIdx? (fun w => decide (w.1 = fa)) = some i →
         Runs (.streamCommit p ch (some fa)) s fun t =>
           (∀ b, (∀ w ∈ x.writes, b / 4096 ≠ w.1) → sget memDefault t.frames b = sget memDefault s.frames b) ∧
           t.goldenFrames = s.goldenFrames ∧ (getPart t p.val).stream = none ∧
           oget t (Od.STREAM_STATUS p.val) = Code.CFG_READBACK ∧ oget t (Od.FRAMES_WRITTEN p.val) = i + 1 ∧
           oget t (Od.STREAM_FAIL_AT p.val) = 2 * 2 ^ 62 + fa % 2 ^ 32 ∧
           oget t (Od.STREAM_SEQ_LAST p.val) = oget s (Od.STREAM_SEQ_LAST p.val) ∧
           fget t Reg.CFG_REGION F.CFG_REGION_HOLD = fget s Reg.CFG_REGION F.CFG_REGION_HOLD ||| mask) ∧
       (∀ l im place ws, x.pattern ≠ none → x.keyRoll = none → partRunning s p.val = false →
         checkPattern s p.val (streamFile x) (streamFile x).length m mask = .ok l →
         mapFirst s p.val l ch = some (im, place, ws) →
         Runs (.streamCommit p ch none) s fun t =>
           t.frames = mergeFrames s.frames x ∧ t.goldenFrames = m ∧ oget t (Od.RUN_STATE p.val) = 1 ∧ oget t (Od.PAUSE_REASON p.val) = 6 ∧
           oget t (Od.LOAD_STATUS p.val) = 0 ∧ oget t (Od.LOAD_FOLD p.val) = im.fold ∧
           oget t (Od.RUN_ECYCLE p.val) = 0 ∧ (getPart t p.val).completed = 0) ∧
       (x.pattern ≠ none → partRunning s p.val = true →
         ∀ i ∈ [Instr.streamCommit p ch none, Instr.loadWaitEnd p],
           Runs i s fun t =>
             (getPart t p.val).stream = none ∧ oget t (Od.STREAM_STATUS p.val) = Code.NOT_IDLE ∧
             oget t (Od.LOAD_STATUS p.val) = Code.NOT_IDLE ∧ t.frames = s.frames ∧
             t.mem = s.mem)) ∧
     (x.phase = 1 → commitWaits s p.val x = true →
       ∀ i ∈ [Instr.streamCommit p ch none, Instr.loadWaitEnd p], Runs i s fun t => t = s) ∧
     (x.phase = 2 →
       Runs (.regionRelease p) s fun t =>
         (getPart t p.val).stream = none ∧ (getPart t p.val).staged = 0 ∧
         oget t (Od.STREAM_STATUS p.val) = 0 ∧ oget t (Od.STREAM_FAIL_AT p.val) = 0 ∧
         (∀ r, r < 16 → regionHeld t r = (regionHeld s r && !maskBit mask r)) ∧
         t.frames = s.frames ∧ t.mem = s.mem)) ∧
  (∀ (s : State),
     let st := Reg.CFG_STATUS
     (∀ high, Runs (.initNChange high) s fun t =>
       fbit t st F.CFG_STATUS_INIT_N_IN = (high && !pullsLine s F.CFG_STATUS_INIT_N_PULL) ∧ RegsOnly s t ∧ RegsKept s t [st]) ∧
     (fbit s st F.CFG_STATUS_DONE_PULL = false → fbit s st F.CFG_STATUS_DONE_IN = false →
       Runs .doneRise s fun t =>
         fget t st F.CFG_STATUS_DONE_IN = 1 ∧ oget t Od.DONE_STATE = 2 ∧
         (∀ p, p < 16 → oget s (Od.START_ON_DONE p) ≠ 1 → oget t (Od.RUN_STATE p) = oget s (Od.RUN_STATE p)) ∧
         (∀ p, p < 16 → oget s (Od.START_ON_DONE p) = 1 → oget s (Od.RUN_STATE p) = 1 →
           oget s (Od.STOP_ECYCLE p) = noStop → (getPart s p).breaks = [] → oget t (Od.RUN_STATE p) = 2)) ∧
     (fbit s st F.CFG_STATUS_DONE_PULL = false → fbit s st F.CFG_STATUS_DONE_IN = true →
       Runs .doneFall s fun t =>
         fget t st F.CFG_STATUS_DONE_IN = 0 ∧ oget t Od.DONE_STATE = 1 ∧
         fget t Reg.CFG_DONE_FALL_CNT F.CFG_DONE_FALL_CNT_COUNT =
           min (fget s Reg.CFG_DONE_FALL_CNT F.CFG_DONE_FALL_CNT_COUNT + 1) 0xFFFFFFFF ∧
         (oget s Od.DONE_FALL_ACTION ≠ 1 → t.parts = s.parts) ∧
         (oget s Od.DONE_FALL_ACTION = 1 → ∀ p, p < 16 → oget s (Od.DONE_GROUP p) = 1 → oget s (Od.RUN_STATE p) = 1 →
           (getPart t p).doneFall = some (nextBoundary s p))) ∧
     (∀ b, Runs (.cfgDoneRelease b) s fun t =>
       fget t Reg.CFG_DONE_CTRL F.CFG_DONE_CTRL_RELEASE = (if b then 1 else 0) ∧
       fget t st F.CFG_STATUS_DONE_PULL = (if b then 0 else 1) ∧
       (b = false → fget t st F.CFG_STATUS_DONE_IN = 0 ∧ oget t Od.DONE_STATE = 0) ∧
       RegsOdOnly s t ∧ RegsKept s t [st, Reg.CFG_DONE_CTRL] ∧ OdKept s t [Od.DONE_STATE]) ∧
     (∀ (r : Fin 16) p, regionPart s r.val = some p → regionHeld s r.val = true → oget s (Od.DONE_GROUP p) = 1 →
       Runs (.doneHoldTimeout r) s fun t =>
         fget t Reg.CFG_DONE_CTRL F.CFG_DONE_CTRL_RELEASE = 0 ∧ fget t st F.CFG_STATUS_DONE_PULL = 1 ∧
         oget t Od.DONE_STATE = 0 ∧ RegsOdOnly s t))

/-! ## Hem (12) and acquisition (13) -/

/-- From R320 to R322, R324, R328, R329, R331, R336: Hem's sequencer and the packets that its commands make. Model
readings and choices it rests on: assumptions 12, 43, 92. -/
def Obligations.HemFollowsItsSequencer : Prop :=
  ∀ (s : State),
    let room := fun (n : Nat) => s.hem.lost = 0 ∧ packetWords s.hem.fifo + n ≤ 16384
    let n := hemCount s
    let frame := fun (t : State) => t = { s with regs := t.regs, od := t.od, hem := t.hem }
    (fbit s Reg.HEM_CTRL F.HEM_CTRL_EN = false →
      Runs .hemEnable s fun t =>
        fget t Reg.HEM_CTRL F.HEM_CTRL_EN = 1 ∧ fget t Reg.HEM_STATUS F.HEM_STATUS_WINDOWS = 0 ∧
        oget t Od.HEM_LOST = 0 ∧ hemState t = hemState s ∧ t.hem.fifo = s.hem.fifo ∧ OdKept s t [Od.HEM_LOST] ∧ frame t) ∧
    (Runs .hemDisable s fun t =>
      hemState t = 0 ∧ fget t Reg.HEM_CTRL F.HEM_CTRL_EN = 0 ∧ fget t Reg.HEM_CTRL F.HEM_CTRL_ARM = 0 ∧
      (hemState s = 2 → room 3 → t.hem.fifo = s.hem.fifo ++ [windowPacket s 7 0xFF (n + 2)]) ∧
      (hemState s ≠ 2 → t.hem.fifo = s.hem.fifo) ∧ frame t) ∧
    (fbit s Reg.HEM_CTRL F.HEM_CTRL_EN = true → (hemState s = 0 ∨ hemState s = 3) →
      Runs .hemArm s fun t =>
        hemState t = 1 ∧ fget t Reg.HEM_CTRL F.HEM_CTRL_ARM = 1 ∧ RegsOnly s t ∧
        RegsKept s t [Reg.HEM_STATUS, Reg.HEM_CTRL]) ∧
    (hemState s = 2 → Runs .hemArm s fun t => t = s) ∧
    (∀ (i : Instr) (ev x : Nat),
      (i = .swev ∧ ev = 22 ∧ x = n + 2) ∨
      (∃ e : Fin 24, i = .hemEvent e ∧ ev = e.val ∧ ev ≠ 20 ∧ ev ≠ 21 ∧ x = n + 2) ∨
      (i = .hemEvent 20 ∧ ev = 20 ∧ x = n + 1) ∨
      (i = .hemEvent 21 ∧ ev = 21 ∧
        x = max ((rget s Reg.HEM_ECYC_START_LO).toNat + 2 ^ 32 * (rget s Reg.HEM_ECYC_START_HI).toNat) (n + 1)) →
      (hemState s = 1 → (rget s Reg.HEM_START_SEL).getLsbD ev = true → (rget s Reg.HEM_STOP_SEL).getLsbD ev = false →
        room 3 →
        Runs i s fun t =>
          hemState t = 2 ∧ t.hem.from_ = some x ∧ t.hem.until_ = none ∧
          fget t Reg.HEM_STATUS F.HEM_STATUS_WINDOWS = min (fget s Reg.HEM_STATUS F.HEM_STATUS_WINDOWS + 1) 0xFFFF ∧
          t.hem.fifo = s.hem.fifo ++ [windowPacket t 6 ev x] ∧ frame t) ∧
      (hemState s = 2 → s.hem.until_ = none → (rget s Reg.HEM_STOP_SEL).getLsbD ev = true →
        Runs i s fun t =>
          t.hem.until_ = some (x + (rget s Reg.HEM_STOP_DELAY).toNat, ev) ∧ hemState t = 2 ∧ t.regs = s.regs ∧ frame t)) ∧
    (s.hem.lost ≠ 0 → packetWords s.hem.fifo + 2 ≤ 16384 →
      Runs .hemOverflowSend s fun t =>
        t.hem.lost = 0 ∧
        t.hem.fifo = s.hem.fifo ++ [[0xA0000000#32, BitVec.ofNat 32 (min s.hem.lost 0xFFFFFFFF)]] ∧
        (∀ w, w < 16 → sget (fun _ => none) t.hem.needSync w = some false) ∧ t = { s with hem := t.hem }) ∧
    (fbit s Reg.HEM_CTRL F.HEM_CTRL_EN = true → fbit s Reg.HEM_CTRL F.HEM_CTRL_RATE_EN = true → hemState s = 2 → room 4 →
      Runs .hemRateTick s fun t =>
        t.hem.fifo = s.hem.fifo ++ (List.range 4).map (fun d =>
          [packWord [(0xB, 28), (d, 26), (fget s (Reg.BP_RATE_METER d) F.BP_RATE_METER_RATE, 0)]]) ∧
        t = { s with hem := t.hem })

/-- From R339, R341, R365: the engine takes the next ecycle once all its probe values are there, once, and a replayed
ecycle is not evaluated again. The partition's waiting clusters then look again (R95). R344, R346, R348, R351, R352,
R356, R362: arms, stops and forces are seen at the completed count plus 2; pulses, timers and re-arms. Model readings
and choices it rests on: assumptions 10, 44, 88. -/
def Obligations.AcquisitionUnitsTakeArmAndStop : Prop :=
  (∀ (s : State) (p : Fin 16),
     let q := getPart s p.val
     let x := q.taken
     (q.acqMark ≤ x → x ≤ q.completed → acqActive s p.val = true → (∀ u ∈ unitsOf s p.val, unitHolds s u = false) →
       (∀ r ∈ q.probeMap, r.index < (arrived s r.channel x).length) →
       Runs (.acqTakeEcycle p) s fun t =>
         (getPart t p.val).taken = x + 1 ∧ (getPart t p.val).acqMark = x + 1 ∧
         (∀ r, q.probeMap = [r] →
           sget (fun _ => false) t.probes r.probe = (arrived s r.channel x).getD r.index false ∧
           (∀ n, n ≠ r.probe → sget (fun _ => false) t.probes n = sget (fun _ => false) s.probes n)) ∧
         (unitsOf s p.val = [] →
           (∀ r ∈ q.probeMap, ∀ v ∈ sget (fun _ => []) t.outbound r.channel, x < v.1) ∧
           t = { s with
             parts := t.parts, probes := t.probes, outbound := t.outbound, clusters := t.clusters, regs := t.regs })) ∧
     (x < q.acqMark →
       Runs (.acqTakeEcycle p) s fun t =>
         (getPart t p.val).taken = x + 1 ∧ (getPart t p.val).acqMark = q.acqMark ∧
         t = { s with parts := t.parts, outbound := t.outbound, clusters := t.clusters, regs := t.regs }) ∧
     (q.acqMark ≤ x → q.completed < x → Runs (.acqTakeEcycle p) s fun t => t = reviewPart s p.val)) ∧
  (∀ (s : State) (u : Fin 16) (p : Nat),
     let x := getUnit s u.val
     let at_ := (getPart s p).completed + 2
     let grouped := ucfg s u.val F.ACQ_U_CFG_GROUP_EN = 1
     let frame := fun (t : State) => t = { s with acq := t.acq } ∧ ∀ v, v ≠ u.val → getUnit t v = getUnit s v
     unitPart s u.val = some p →
     (armRefused s u.val = false → ¬ grouped →
       Runs (.acqArm u) s fun t => (getUnit t u.val) = { x with armAt := some at_ } ∧ frame t) ∧
     (armRefused s u.val = true →
       Runs (.acqArm u) s fun t =>
         fget t (Reg.ACQ_U_STATUS u.val) F.ACQ_U_STATUS_WERR = 1 ∧ RegsOnly s t ∧ RegsKept s t [Reg.ACQ_U_STATUS u.val]) ∧
     (armRefused s u.val = false → grouped → ucfg s u.val F.ACQ_U_CFG_MASTER = 1 →
       Runs (.acqArm u) s fun t =>
         t.busQueue = s.busQueue ++ [⟨ucfg s u.val F.ACQ_U_CFG_BUSPAIR, 1, 0, ucfg s u.val F.ACQ_U_CFG_GROUP, u.val⟩] ∧
         t = { s with busQueue := t.busQueue }) ∧
     (¬ grouped → Runs (.acqStop u) s fun t => (getUnit t u.val) = { x with stopAt := some at_ } ∧ frame t) ∧
     (Runs (.force u) s fun t => (getUnit t u.val) = { x with forceAt := some at_ } ∧ frame t) ∧
     (∀ k : Fin 4, (unitTimer x k.val).run = true → (unitTimer x k.val).expired = none →
       fbit s (Reg.ACQ_U_TIMER u.val k.val) F.ACQ_U_TIMER_MODE = true →
       Runs (.acqTimerExpiry u k) s fun t =>
         unitTimer (getUnit t u.val) k.val = { unitTimer x k.val with expired := some at_ } ∧ frame t) ∧
     (unitState s u.val = 3 → fbit s (Reg.ACQ_U_STATUS u.val) F.ACQ_U_STATUS_QHELD = false →
       Runs (.acqRearmDone u) s fun t =>
         unitState t u.val = 1 ∧ (getUnit t u.val).trig = none ∧ (getUnit t u.val).stored = 0 ∧
         (getUnit t u.val).segment = (if x.segment + 1 = segments s u.val then 0 else x.segment + 1) ∧
         t = { s with acq := t.acq, regs := t.regs, mem := t.mem }) ∧
     (∀ (k : Fin 4) (width : Nat),
       let r := Reg.ACQ_TRIG_IN k.val
       let q := fget s r F.ACQ_TRIG_IN_PART
       fbit s r F.ACQ_TRIG_IN_BUS = false →
       (width < fget s r F.ACQ_TRIG_IN_FILT →
         Runs (.trigInPulse k width) s fun t =>
           fget t r F.ACQ_TRIG_IN_GLITCH = min (fget s r F.ACQ_TRIG_IN_GLITCH + 1) 0xFFFF ∧ RegsOnly s t ∧ RegsKept s t [r]) ∧
       (fget s r F.ACQ_TRIG_IN_FILT ≤ width → fbit s r F.ACQ_TRIG_IN_EN = true →
         Runs (.trigInPulse k width) s fun t =>
           (getPart t q).trigAt = (getPart s q).trigAt ++ [(k.val, (getPart s q).completed + 2)] ∧ PartsKept s t q)) ∧
     (∀ k : Fin 4, Runs (.trigOutPulseEnd k) s fun t =>
       sget (fun _ => false) t.trigPulse k.val = false ∧ t = { s with trigPulse := t.trigPulse }))

/-- From R363, R364: frames of the trigger bus are counted, act on the members of their group, and are sent in turn.
Model readings and choices it rests on: assumptions 12, 45. -/
def Obligations.TriggerBusFramesAct : Prop :=
  ∀ (s : State) (pair : Fin 4) (ecyc : BitVec 16) (group : BitVec 4),
    let l := members s pair.val group.toNat
    fbit s (Reg.ACQ_TRIG_IN pair.val) F.ACQ_TRIG_IN_BUS = true →
    (∀ i ∈ [Instr.fire pair ecyc group, Instr.busArm pair group, Instr.disarm pair group],
      Runs i s fun t =>
        l = [] → fget t Reg.ACQ_BUS_CNT F.ACQ_BUS_CNT_FRAMES = min (fget s Reg.ACQ_BUS_CNT F.ACQ_BUS_CNT_FRAMES + 1) 0xFFFF ∧
          RegsOnly s t ∧ RegsKept s t [Reg.ACQ_BUS_CNT]) ∧
    (∀ u p, l = [u] → unitPart s u = some p →
      (∀ e, e = extend16 (getPart s p).completed ecyc.toNat → unitState s u = 1 → (getUnit s u).groupAt = none →
        (getPart s p).acqMark ≤ e →
        Runs (.fire pair ecyc group) s fun t => (getUnit t u).groupAt = some e ∧ unitState t u = 1) ∧
      (unitState s u = 2 →
        Runs (.fire pair ecyc group) s fun t => (getUnit t u).missed = (getUnit s u).missed + 1 ∧ unitState t u = 2) ∧
      (armRefused s u = false →
        Runs (.busArm pair group) s fun t => (getUnit t u).armAt = some ((getPart s p).completed + 2)) ∧
      (Runs (.disarm pair group) s fun t => (getUnit t u).stopAt = some ((getPart s p).completed + 2))) ∧
    (∀ f, s.busQueue.find? (fun f => decide (f.pair = pair.val)) = some f →
      (Runs (.busFrameSend pair false) s fun t =>
        t.busSent = s.busSent ++ [f] ∧ t.busQueue = s.busQueue.erase f ∧
        t = { s with busSent := t.busSent, busQueue := t.busQueue }) ∧
      (Runs (.busFrameSend pair true) s fun t => t = s)) ∧
    (Runs (.triggerBusBadFrame pair) s fun t =>
      fget t Reg.ACQ_BUS_CNT F.ACQ_BUS_CNT_BAD = min (fget s Reg.ACQ_BUS_CNT F.ACQ_BUS_CNT_BAD + 1) 0xFFFF ∧
      RegsOnly s t ∧ RegsKept s t [Reg.ACQ_BUS_CNT])

/-! ## The Lining (14) -/

/-- From R386 order 1, R388, R391, R373: causes start a rollback or stop the partition; a drained partition is
restored to its last checkpoint, or to its load; self-tests decide the repair; a passed fault is reported once. Model
readings and choices it rests on: assumptions 11, 37, 38, 85. -/
def Obligations.RollbacksRestoreOrStop : Prop :=
  ∀ (s : State) (p : Fin 16),
    let x := getPart s p.val
    let stopped := fun (t : State) (code row : Nat) =>
      oget t (Od.RUN_STATE p.val) = 3 ∧ oget t (Od.LAST_STOP p.val) = code ∧ (getPart t p.val).hold = .none ∧
      (getPart t p.val).causes = [] ∧ fget t Reg.LNG_STATUS F.LNG_STATUS_BEYOND = 1 ∧
      ∃ r, t.logQueue = s.logQueue ++ [r] ∧ r.severity = 6 ∧ r.code = code ∧ r.detail = [row]
    (∀ (cause : RollCause) (u : State),
      (cause = .held ∧ u = s) ∨ (∃ c m, cause = .memory c m ∧ partOf s c = some p.val ∧ u = memoryFault s c m) →
      let new := (heldCauses u p.val).filter fun f => !x.causes.contains f
      (new = [] → Runs (.rollback p cause) s fun t => t = u) ∧
      (new ≠ [] → runnable s p.val = true →
        (new.any (recurs u) = true → Runs (.rollback p cause) s fun t => stopped t Code.ENVELOPE_EXCEEDED 12) ∧
        (new.any (recurs u) = false → x.ckpt ≠ none → x.hold = .none → oget s Od.ROLLBACK_LIMIT ≤ x.rolls →
          Runs (.rollback p cause) s fun t => stopped t Code.ENVELOPE_EXCEEDED 4) ∧
        (new.any (recurs u) = false → x.ckpt ≠ none → x.hold = .none → x.rolls < oget s Od.ROLLBACK_LIMIT →
          Runs (.rollback p cause) s fun t =>
            (getPart t p.val).hold = .stopping ∧ (getPart t p.val).rolls = x.rolls + 1 ∧
            (getPart t p.val).causes = x.causes ++ new ∧ (getPart t p.val).completed = x.completed ∧
            oget t (Od.PART_ROLLBACKS p.val) = min (oget s (Od.PART_ROLLBACKS p.val) + 1) 0xFFFFFFFF ∧
            oget t (Od.RUN_STATE p.val) = oget s (Od.RUN_STATE p.val) ∧ t.mem = s.mem))) ∧
    (∀ (ch : List (List SwitchChange)) (faulty : List BridgeTrack) (slot first second : AreaRead),
      let drained := setPart s p.val { x with hold := .drained }
      let u := settleSpares (stopClusters drained p.val)
      let r := goldenRead u p.val first second
      let waits := x.causes.any fun f => needsTest s f && !x.tested.contains f.1
      x.hold ≠ .none → leased s = true → opsDrained s p.val = true →
      (waits = true →
        Runs (.rollbackDrained p ch faulty slot first second) s fun t =>
          t = u ∧ (getPart t p.val).hold = .drained ∧ PartsKept s t p.val ∧ t.mem = s.mem) ∧
      (waits = false → halted r.1 = false →
        (r.2 = false → stagedStill s p.val = false →
          Runs (.rollbackDrained p ch faulty slot first second) s fun t => stopped t Code.ENVELOPE_EXCEEDED 6) ∧
        (r.2 = true → retireClusters (faulty.foldl repairTrack r.1) p.val ch = none →
          Runs (.rollbackDrained p ch faulty slot first second) s fun t =>
            oget t (Od.RUN_STATE p.val) = 3 ∧ oget t (Od.LAST_STOP p.val) = Code.ENVELOPE_EXCEEDED ∧ t.mem = r.1.mem) ∧
        (∀ v g, r.2 = true → retireClusters (faulty.foldl repairTrack r.1) p.val ch = some (v, g) →
          (∀ k, x.ckpt = some k →
            let a := areaRead v x.ckptAt (ckptSlotBytes v p.val) slot
            halted a.1 = false →
            (a.2 = false →
              Runs (.rollbackDrained p ch faulty slot first second) s fun t =>
                oget t (Od.RUN_STATE p.val) = 3 ∧ oget t (Od.LAST_STOP p.val) = Code.CKPT_UNREADABLE) ∧
            (∀ i, a.2 = true → goldenImages g = some i →
              Runs (.rollbackDrained p ch faulty slot first second) s fun t =>
                (getPart t p.val).completed = k.ecycle ∧ oget t (Od.RUN_ECYCLE p.val) = k.ecycle ∧
                (getPart t p.val).hold = .none ∧ (getPart t p.val).causes = [] ∧ (getPart t p.val).undo = [])) ∧
          (∀ i, x.ckpt = none → goldenImages g = some i →
            Runs (.rollbackDrained p ch faulty slot first second) s fun t =>
              (getPart t p.val).completed = 0 ∧ oget t (Od.RUN_ECYCLE p.val) = 0 ∧ (getPart t p.val).hold = .none)))) ∧
    (∀ (c : ClusterId) (b : Fin 32),
      let active := fbit s (Reg.BP_SPARE_MAP c) F.BP_SPARE_MAP_ACTIVE
      partOf s c = some p.val → x.hold ≠ .none → x.tested.contains c.idx = false →
      (x.causes.any fun f => decide (f.1 = c.idx) && needsTest s f) = true →
      (Runs (.selfTestDone c ⟨0, false⟩) s fun t =>
        getPart t p.val = { x with tested := c.idx :: x.tested } ∧ t = { s with parts := t.parts }) ∧
      (∀ bps, Runs (.selfTestDone c ⟨bps, true⟩) s fun t =>
        getPart t p.val = { x with tested := c.idx :: x.tested, retire := c.idx :: x.retire } ∧
        t = { s with parts := t.parts }) ∧
      (active = false → (getCl s c.idx).spareBad = false →
        Runs (.selfTestDone c ⟨1#33 <<< b.val, false⟩) s fun t =>
          getPart t p.val = { x with tested := c.idx :: x.tested } ∧
          fget t (Reg.BP_SPARE_MAP c) F.BP_SPARE_MAP_ACTIVE = 1 ∧
          fget t (Reg.BP_SPARE_MAP c) F.BP_SPARE_MAP_REPLACED = b.val)) ∧
    (∀ f, x.replaying = some f → x.hold = .none →
      (f.2.2 < x.completed →
        Runs (.replayPassesFault p) s fun t =>
          (getPart t p.val).replaying = none ∧
          ∃ r, t.logQueue = s.logQueue ++ [r] ∧ r.severity = 3 ∧ r.code = Code.REPAIRED ∧ r.partition = p.val) ∧
      (x.completed ≤ f.2.2 → Runs (.replayPassesFault p) s fun t => t = s))

/-- From R369, R370: an item that awaits a reload takes its golden value, from the first copy or from the second;
where no copy can be read the partition stops. R284, R379, R381, R383: a checkpoint commits the carried values at the
boundary, and leaves through the spill queue. Model readings and choices it rests on: assumptions 11, 39, 40, 77, 86.
-/
def Obligations.ReloadsAndCheckpointsRestoreAndCommit : Prop :=
  (∀ (s : State) (c : ClusterId) (item : ReloadItem) (first second : AreaRead) (p : Nat),
     let g := (getPart s p).golden
     let r := goldenRead s p first second
     partOf s c = some p →
     (reloadPending s c item = false → Runs (.reloadDone c item first second) s fun t => t = s) ∧
     (reloadPending s c item = true → halted r.1 = false →
       (r.2 = false → stagedStill s p = false →
         Runs (.reloadDone c item first second) s fun t =>
           oget t (Od.RUN_STATE p) = 3 ∧ oget t (Od.LAST_STOP p) = Code.ENVELOPE_EXCEEDED ∧ t.mem = r.1.mem) ∧
       (r.2 = true ∨ stagedStill s p = true →
         Runs (.reloadDone c item first second) s fun t =>
           ∃ v, t = reviewPart v p ∧ reloadPending v c item = false ∧ v.regs = r.1.regs ∧ v.od = s.od ∧
           ClustersKept s v c ∧ DiesKept s v c.die.val ∧
           (∀ phys n, item = .slot phys n →
             memLE v (slotAddr c phys.val n.val) 8 =
               (goldenSlot g c (if phys.val = 32 then fget s (Reg.BP_SPARE_MAP c) F.BP_SPARE_MAP_REPLACED else phys.val)
                 n.val).toNat ∧
             MemKept r.1 v (slotAddr c phys.val n.val) (slotAddr c phys.val n.val + 8)) ∧
           (∀ n, item = .desc n →
             sget (fun _ => 0) (getDie v c.die.val).descs n.val = sget (fun _ => 0) g.descs (c.die.val * 65536 + n.val) ∧
             v.mem = r.1.mem) ∧
           (item = .schedule → v.mem = r.1.mem)))) ∧
  (∀ (s : State) (p : Fin 16),
     let x := getPart s p.val
     (∀ k, runnable s p.val = true → x.hold = .none → captureDue s p.val x.completed = true → atBoundary s p.val = true →
       (∀ d ∈ partDies s p.val, partIdle s p.val d = true) → resultsDone s p.val = true → captureCkpt s p.val = some k →
       Runs (.checkpointCommit p) s fun t =>
         k.ecycle = x.completed ∧ (getPart t p.val).ckpt = some k ∧ (getPart t p.val).ckptDone = some x.completed ∧
         (getPart t p.val).rolls = 0 ∧ (getPart t p.val).undo = [] ∧
         oget t (Od.CKPT_LAST p.val) = x.completed ∧ OdKept s t [Od.CKPT_LAST p.val] ∧
         t = { s with parts := t.parts, od := t.od, clusters := t.clusters, regs := t.regs } ∧ PartsKept s t p.val) ∧
     (captureDue s p.val x.completed = false → Runs (.checkpointCommit p) s fun t => t = s) ∧
     (∀ k key, x.ckpt = some k → liveKey s p.val classSector 0 = some key → oget s (Od.SPILL p.val) ≠ 0 → x.spilled = false →
       dmaServes s (oget s (Od.SPILL_QUEUE p.val)) 4 1 = true →
       Runs (.checkpointSpill p) s fun t =>
         (getPart t p.val).spilled = true ∧ (getPart t p.val).ckpt = some k ∧
         (∃ o, t.spills = s.spills ++ [o] ∧ o.ckpt = k ∧ o.key = key.2 ∧ o.undo = x.undoPrev ∧
           hostQueue t (oget s (Od.SPILL_QUEUE p.val)) = hostQueue s (oget s (Od.SPILL_QUEUE p.val)) ++
             [⟨objectBytes key.1 o.object o.epoch (spillPayload s p.val k x.undoPrev), true⟩]) ∧
         (oget s (Od.SPILL p.val) = 2 → oget t (Od.SPILL p.val) = 0) ∧
         (oget s (Od.SPILL p.val) ≠ 2 → oget t (Od.SPILL p.val) = oget s (Od.SPILL p.val)) ∧
         t.regs = s.regs ∧ t.mem = s.mem ∧ PartsKept s t p.val))

/-- From R369, R376 to R378: the scrubbers read on, count and repair; their voters cure one upset copy and fall back
to the defaults without a majority; Collar rewrites the parameters. Model readings and choices it rests on:
assumptions 11, 41. -/
def Obligations.ScrubbersAndVotersFollowTheirRules : Prop :=
  ∀ (s : State) (k : Fin 6),
    let v := scrubVoted s k.val
    let x := getScrub s k.val
    let dg := Reg.LNG_SCRUB_DIAG k.val
    let cfg := Reg.LNG_SCRUB_CFG k.val
    let errors := fun (t : State) =>
      fget t dg F.LNG_SCRUB_DIAG_ERRORS = min (fget s dg F.LNG_SCRUB_DIAG_ERRORS + 1) 0xFFFF
    (v.range / 2 ^ 16 ≤ x.next → x.next ≤ v.range % 2 ^ 16 →
      Runs (.scrubStep k .clean) s fun t =>
        (getScrub t k.val).next = (if x.next = v.range % 2 ^ 16 then v.range / 2 ^ 16 else x.next + 1) ∧
        t = { s with scrub := t.scrub }) ∧
    (∀ d n, k.val = 5 →
      (Runs (.scrubStep k (.line d n)) s fun t =>
        errors t ∧ fget t (Reg.HBM_UE_CNT d.val) F.HBM_UE_CNT_COUNT =
          min (fget s (Reg.HBM_UE_CNT d.val) F.HBM_UE_CNT_COUNT + 1) 0xFFFFFFFF ∧
        t = { s with scrub := t.scrub, regs := t.regs } ∧ RegsKept s t [dg, Reg.HBM_UE_CNT d.val]) ∧
      (Runs (.scrubStep k (.corrected d)) s fun t =>
        errors t ∧ fget t (Reg.HBM_CE_CNT d.val) F.HBM_CE_CNT_COUNT =
          min (fget s (Reg.HBM_CE_CNT d.val) F.HBM_CE_CNT_COUNT + 1) 0xFFFFFFFF)) ∧
    (∀ (c : ClusterId) (p : Nat), partOf s c = some p → (getPart s p).golden.fold ≠ 0 →
      (k.val = 1 → Runs (.scrubStep k (.item c .schedule)) s fun t =>
        errors t ∧ (getCl t c.idx).reloadWs = true ∧ ClustersKept s t c) ∧
      (∀ m, k.val = (if m = .pocket then 3 else 2) → Runs (.scrubStep k (.memory c m)) s fun t =>
        errors t ∧ (getCl t c.idx).hold = true ∧ ClustersKept s t c)) ∧
    (∀ (fa : BitVec 32) (first second : AreaRead) (p : Nat) (a : Nat × Nat),
      let u := fadd (scrubAdvance s 4 true) dg F.LNG_SCRUB_DIAG_ERRORS 1
      let r := copiesRead u a (0x100000 * cuffMib s p) first second
      k.val = 4 → (frameHeld s fa.toNat = true → Runs (.scrubStep k (.frame fa first second)) s fun t =>
        t.frames = s.frames ∧ t.regs = s.regs) ∧
      (frameHeld s fa.toNat = false → framePart s fa.toNat = some p → (getPart s p).cuffAt = some a →
        memWf s.goldenFrames = true → r.2 = true →
        RunsFabric (.scrubStep k (.frame fa first second)) s fun t =>
          errors t ∧ ∀ b, sget memDefault t.frames b =
            if fa.toNat * 4096 ≤ b ∧ b < fa.toNat * 4096 + 4096 then sget memDefault s.goldenFrames b
            else sget memDefault s.frames b)) ∧
    (∀ u : ScrubUpset, u.k = k → fbit s cfg F.LNG_SCRUB_CFG_DEFAULT = false → scrubLegal k.val v = true →
      x.copy0 = none → x.copy1 = none → x.copy2 = none → (⟨u.period.toNat, u.mode.toNat, u.range.toNat⟩ : ScrubParam) ≠ v →
      Runs (.voterTick [u]) s fun t =>
        scrubVoted t k.val = v ∧ fget t cfg F.LNG_SCRUB_CFG_DEFAULT = 0 ∧
        fget t dg F.LNG_SCRUB_DIAG_DIFFER = 2 ^ u.copy.val ∧
        fget t dg F.LNG_SCRUB_DIAG_REPAIRS = min (fget s dg F.LNG_SCRUB_DIAG_REPAIRS + 1) 0xFF ∧
        (getScrub t k.val).copy0 = none ∧ (getScrub t k.val).copy1 = none ∧ (getScrub t k.val).copy2 = none) ∧
    (∀ u w : ScrubUpset, u.k = k → w.k = k → u.copy = 0 → w.copy = 1 → fbit s cfg F.LNG_SCRUB_CFG_DEFAULT = false →
      x.copy2 = none → u.period ≠ w.period → u.period.toNat ≠ v.period → w.period.toNat ≠ v.period →
      Runs (.voterTick [u, w]) s fun t =>
        scrubVoted t k.val = scrubDefaults k.val ∧ fget t cfg F.LNG_SCRUB_CFG_DEFAULT = 1 ∧
        fget t dg F.LNG_SCRUB_DIAG_NOMAJ = 1 ∧ fget t Reg.LNG_STATUS F.LNG_STATUS_DEFAULTS = 1) ∧
    (leased s = true → scrubLegal k.val (scrubOd s k.val) = true →
      Runs .scrubParamRewrite s fun t =>
        scrubVoted t k.val = scrubOd s k.val ∧ fget t cfg F.LNG_SCRUB_CFG_DEFAULT = 0 ∧
        (getScrub t k.val).written = some (scrubOd s k.val) ∧ t.od = s.od)

/-! ## Collar (15) -/

/-- From R263, R395 to R400: the charge lease is granted, renewed, yielded, lost, and missed; the observer's writes
are refused. Model readings and choices it rests on: assumptions 10, 46. -/
def Obligations.ChargeLeaseIsGrantedRenewedAndLost : Prop :=
  ∀ (s : State) (n : Fin 2),
    let o := 1 - n.val
    let x := getCtl s n.val
    (∀ req rdy, Runs (.colSelfWrite n req rdy) s fun t =>
      getCtl t n.val = { x with request := req, ready := rdy } ∧ t = { s with collar := t.collar }) ∧
    (holder s = some n.val →
      Runs (.renew n) s fun t => t.collar = { s.collar with leaseAt := s.ticks } ∧ t = { s with collar := t.collar }) ∧
    (holder s ≠ some n.val → Runs (.renew n) s fun t => t = s) ∧
    (holder s = none → eligible s n.val = true → (n.val = 1 → eligible s 0 = false) →
      Runs .leaseGrant s fun t =>
        holder t = some n.val ∧ ctlState t n.val = 3 ∧ fget t Reg.COL_LEASE F.COL_LEASE_NONE = 0 ∧
        t.collar.leaseAt = s.ticks ∧ oget t Od.COL_HOLDER = n.val ∧ oget t Od.FW_RUNNING = x.version ∧
        (∀ p y, p < 16 → (getPart s p).stream = some y →
          (getPart t p).stream =
            if (getPart s p).commitRec = some y.seq then some y else some { seq := y.seq, body := y.body })) ∧
    (holder s ≠ none ∨ (eligible s 0 = false ∧ eligible s 1 = false) → Runs .leaseGrant s fun t => t = s) ∧
    (holder s = some n.val → ctlState s n.val = 3 →
      (eligible s o = true →
        (Runs (.yieldLease (if n = 0 then .a else .b)) s fun t =>
          holder t = some o ∧ ctlState t o = 3 ∧ ctlState t n.val = 2 ∧
          oget t Od.COL_FAILOVERS = oget s Od.COL_FAILOVERS) ∧
        (Runs .leaseExpiry s fun t =>
          holder t = some o ∧ ctlState t o = 3 ∧ ctlState t n.val = 2 ∧
          oget t Od.COL_FAILOVERS = min (oget s Od.COL_FAILOVERS + 1) 0xFFFFFFFF)) ∧
      (eligible s o = false →
        (Runs (.yieldLease (if n = 0 then .a else .b)) s fun t =>
          holder t = none ∧ oget t Od.COL_HOLDER = 255 ∧ ctlState t n.val = 2) ∧
        (Runs .leaseExpiry s fun t => holder t = none ∧ oget t Od.COL_HOLDER = 255)) ∧
      (Runs (.yieldLease (if n = 0 then .b else .a)) s fun t =>
        holder t = some n.val ∧
        fget t Reg.COL_REFUSED_CNT F.COL_REFUSED_CNT_COUNT =
          min (fget s Reg.COL_REFUSED_CNT F.COL_REFUSED_CNT_COUNT + 1) 0xFFFFFFFF ∧
        rget t Reg.COL_LEASE = rget s Reg.COL_LEASE)) ∧
    (holder s = none →
      Runs .leaseNoneTimeout s fun t => fget t Reg.COL_LEASE F.COL_LEASE_NONE = 1 ∧ t.alert = true ∧ holder t = none) ∧
    (fwValid s n.val = true →
      Runs (.lockstepFail n) s fun t =>
        ctlState t n.val = 4 ∧ fwValid t n.val = false ∧ holder t ≠ some n.val ∧
        (2 ≤ recentFails s n.val → (getCtl t n.val).stuck = true) ∧
        fget t (Reg.COL_STATE n.val) F.COL_STATE_LOCKSTEP_FAILS = min (recentFails s n.val + 1) 7 ∧
        (fwValid s o = true → ∃ r ∈ t.logQueue, r.severity = 5 ∧ r.place = Reg.COL_STATE n.val)) ∧
    (fwValid s n.val = false → Runs (.lockstepFail n) s fun t => t = s)

/-- From R412, R413, R415: controllers boot sound images, fuses advance one step, the other controller is reset, and
an image is taken through the recovery buffer. Model readings and choices it rests on: assumptions 11, 47, 77. -/
def Obligations.ControllersBootAndRecover : Prop :=
  ∀ (s : State) (n : Fin 2),
    let o := 1 - n.val
    let src : ColBy := if n = 0 then .a else .b
    let slot := bootSlot s n.val
    (s.power.tack = true → fwValid s n.val = false → (getCtl s n.val).stuck = false →
      (slot < 2 → imgOk s slot = true →
        Runs (.controllerBoot n) s fun t =>
          fwValid t n.val = true ∧ ctlState t n.val = 2 ∧ fget t (Reg.COL_STATE n.val) F.COL_STATE_SLOT = slot ∧
          fget t (Reg.COL_STATE n.val) F.COL_STATE_SVN = imgSvn s slot ∧
          (getCtl t n.val).version = imgVersion s slot ∧ (getCtl t n.val).request = false ∧
          fget t Reg.COL_BOOT F.COL_BOOT_ONCE_EN = 0) ∧
      (imgOk s slot = false → imgOk s (1 - slot) = false →
        Runs (.controllerBoot n) s fun t =>
          ctlState t n.val = 1 ∧ fwValid t n.val = false ∧ ∃ r, t.logQueue = s.logQueue ++ [r] ∧ r.severity = 6)) ∧
    (holder s = some n.val →
      (fuseUsed s < fget s (Reg.COL_STATE n.val) F.COL_STATE_SVN → fuseUsed s < 96 →
        Runs (.blow src) s fun t => fget t Reg.COL_FUSE F.COL_FUSE_BLOW = 1 ∧ RegsOnly s t ∧ RegsKept s t [Reg.COL_FUSE]) ∧
      (fget s (Reg.COL_STATE n.val) F.COL_STATE_SVN ≤ fuseUsed s →
        Runs (.blow src) s fun t =>
          fget t Reg.COL_FUSE F.COL_FUSE_WERR = 1 ∧
          fget t Reg.COL_FUSE F.COL_FUSE_BLOW = fget s Reg.COL_FUSE F.COL_FUSE_BLOW ∧ RegsOnly s t) ∧
      (∀ en slot, (getCtl s o).stuck = false →
        Runs (.resetOther src en slot) s fun t =>
          ctlState t o = 1 ∧ fwValid t o = false ∧ holder t = some n.val ∧
          fbit t Reg.COL_BOOT F.COL_BOOT_ONCE_EN = en ∧ fbit t Reg.COL_BOOT F.COL_BOOT_ONCE_SLOT = slot)) ∧
    (fbit s Reg.COL_FUSE F.COL_FUSE_BLOW = true → fuseUsed s < 96 →
      Runs .fuseBlowDone s fun t =>
        fuseUsed t = fuseUsed s + 1 ∧ fget t Reg.COL_FUSE F.COL_FUSE_BLOW = 0 ∧
        oget t Od.FUSE_STEPS_USED = fuseUsed s + 1 ∧ RegsOdOnly s t ∧ RegsKept s t [Reg.COL_FUSE]) ∧
    (∀ len16 index : BitVec 16, recoveryOpen s = true →
      fbit s Reg.COL_RECOVERY_STATUS F.COL_RECOVERY_STATUS_BUSY = false →
      (len16 ≠ 0 → len16.toNat ≤ 32768 → index.toNat * 0x80000 + len16.toNat * 16 ≤ 0x1000000 →
        Runs (.colRecovery len16 index) s fun t =>
          t.collar = { s.collar with chunk := some (index.toNat * 0x80000, len16.toNat * 16) } ∧
          fget t Reg.COL_RECOVERY_STATUS F.COL_RECOVERY_STATUS_BUSY = 1 ∧ RegsKept s t [Reg.COL_RECOVERY_STATUS]) ∧
      (len16 = 0 ∨ 32768 < len16.toNat →
        Runs (.colRecovery len16 index) s fun t =>
          fget t Reg.COL_RECOVERY_STATUS F.COL_RECOVERY_STATUS_ERR = 1 ∧ t.collar = s.collar ∧ RegsOnly s t)) ∧
    (∀ a l sig, s.collar.chunk = some (a, l) → a + l ≤ 0x1000000 →
      Runs (.recoveryChunkDone sig) s fun t =>
        t.collar.chunk = none ∧ fget t Reg.COL_RECOVERY_STATUS F.COL_RECOVERY_STATUS_BUSY = 0 ∧
        fget t Reg.COL_RECOVERY_STATUS F.COL_RECOVERY_STATUS_CHUNKS =
          min (fget s Reg.COL_RECOVERY_STATUS F.COL_RECOVERY_STATUS_CHUNKS + 1) 0xFFFF ∧
        (∀ i, i < l → flashByte t 0 (a + i) = memByte s (recoveryBuffer + i)) ∧
        (fget t Reg.COL_RECOVERY_STATUS F.COL_RECOVERY_STATUS_DONE = 1 →
          fget s Reg.COL_RECOVERY_STATUS F.COL_RECOVERY_STATUS_DONE = 0 → fwValid t 0 = true ∧ ctlState t 0 = 2))

/-- From R414, R418: a firmware update from FW_IMAGE to the committed slot, and the ways it ends. Model readings and
choices it rests on: assumptions 11, 47, 77. -/
def Obligations.FirmwareUpdatesFollowTheirOrder : Prop :=
  ∀ (s : State) (w : Path),
    let slot := 1 - s.collar.committed
    (serving s → holder s ≠ none → controlPath w = false →
      (∀ bs sig, Runs (.fwImage bs sig w) s fun t => t = { s with result := Code.ACCESS_DENIED }) ∧
      (∀ i ∈ [Instr.fwStart w, Instr.fwAbort w], Runs i s fun t => t = { s with result := Code.ACCESS_DENIED })) ∧
    (∀ bs sig, serving s → controlPath w = true → bs.length ≤ 0x1000000 → s.collar.fw = .none →
      (imgRefusal (showSlots (programSlot s slot bs sig)) slot = none →
        Runs (.fwImage bs sig w) s fun t =>
          t.result = 0 ∧ oget t Od.FW_STATUS = 0 ∧ t.collar.fw = .checked ∧ t.collar.committed = s.collar.committed ∧
          (∀ i, i < bs.length → flashByte t slot i = bs.getD i 0) ∧ t.regs = s.regs ∧ t.mem = s.mem) ∧
      (∀ code, imgRefusal (showSlots (programSlot s slot bs sig)) slot = some code →
        Runs (.fwImage bs sig w) s fun t =>
          t.result = code ∧ oget t Od.FW_STATUS = code ∧ t.collar.fw = .none)) ∧
    (∀ h, h < 2 → holder s = some h → serving s → controlPath w = true →
      (s.collar.fw = .checked → ctlState s (1 - h) = 2 → (getCtl s (1 - h)).stuck = false →
        Runs (.fwStart w) s fun t =>
          t.result = 0 ∧ t.collar.fw = .booting (1 - h) ∧ t.collar.trial = some slot ∧ holder t = some h ∧
          ctlState t (1 - h) = 1 ∧ fwValid t (1 - h) = false ∧ fget t Reg.COL_BOOT F.COL_BOOT_ONCE_EN = 1) ∧
      (s.collar.fw = .checked → ctlState s (1 - h) ≠ 2 → oget s Od.FW_FORCE_SINGLE ≠ 1 →
        Runs (.fwStart w) s fun t =>
          t.result = Code.FW_NO_PEER ∧ oget t Od.FW_STATUS = Code.FW_NO_PEER ∧ t.collar.fw = .none ∧ t.regs = s.regs) ∧
      (s.collar.fw = .none → Runs (.fwStart w) s fun t => t = { s with result := Code.WRONG_STATE })) ∧
    (∀ n, n < 2 → s.collar.fw = .booting n → (getCtl s n).ready = false →
      Runs .fwReadyTimeout s fun t =>
        t.collar.fw = .none ∧ t.collar.trial = none ∧ oget t Od.FW_STATUS = Code.FW_REJECTED ∧
        t.collar.committed = s.collar.committed ∧ ((getCtl s n).stuck = false → fwValid t n = false)) ∧
    (∀ n k, n < 2 → s.collar.fw = .trial n → holder s = some n → s.collar.trial = some k → k < 2 →
      Runs .fwConfirmExpiry s fun t =>
        t.collar.fw = .none ∧ t.collar.committed = k ∧ oget t Od.FW_COMMITTED = k ∧ oget t Od.FW_STATUS = 0 ∧
        fuseUsed t = max (fuseUsed s) (min (imgSvn s k) 96) ∧ holder t = some n) ∧
    (serving s → controlPath w = true →
      (s.collar.fw = .none → Runs (.fwAbort w) s fun t => t = { s with result := Code.WRONG_STATE }) ∧
      (s.collar.fw = .checked →
        Runs (.fwAbort w) s fun t =>
          t.result = 0 ∧ t.collar.fw = .none ∧ oget t Od.FW_STATUS = Code.FW_REJECTED ∧ t.regs = s.regs) ∧
      (∀ n, n < 2 → s.collar.fw = .trial n → (getCtl s n).stuck = false →
        Runs (.fwAbort w) s fun t =>
          t.result = 0 ∧ t.collar.fw = .none ∧ oget t Od.FW_STATUS = Code.FW_REJECTED ∧ fwValid t n = false ∧
          t.collar.committed = s.collar.committed))

/-- From R402 to R411: sensors and their calibration, log records programmed in order, and the configuration store.
Model readings and choices it rests on: assumptions 48, 49, 50. -/
def Obligations.SensorsLogAndStoreFollowTheirRules : Prop :=
  ∀ (s : State),
    (∀ (x : Sensor) (v : BitVec 16) (a : Nat), sensorReg x = some a →
      (fbit s a F.SNS_TEMP_CAL = false →
        Runs (.sensorSample x v) s fun t =>
          fget t a F.SNS_TEMP_VALUE = v.toNat ∧ RegsKept s t [a] ∧ t = { s with regs := t.regs, power := t.power } ∧
          (x ≠ .iin → t.power = s.power)) ∧
      (fbit s a F.SNS_TEMP_CAL = true → x ≠ .iin → Runs (.sensorSample x v) s fun t => t = s)) ∧
    (∀ (kind : Fin 2) (d : Fin 5) (n : Fin 32) (a : Nat), calReg kind.val d.val n.val = some a →
      (calRuns s d.val = false →
        Runs (.snsCal (kind.castLE (by decide)) (d.castLE (by decide)) n) s fun t =>
          fget t a F.SNS_TEMP_CAL = 1 ∧ fget t Reg.SNS_CAL F.SNS_CAL_GO = 1 ∧ RegsOnly s t ∧ RegsKept s t [a, Reg.SNS_CAL]) ∧
      (calRuns s d.val = true →
        Runs (.snsCal (kind.castLE (by decide)) (d.castLE (by decide)) n) s fun t =>
          fget t Reg.SNS_CAL F.SNS_CAL_WERR = 1 ∧ RegsOnly s t ∧ RegsKept s t [Reg.SNS_CAL]) ∧
      (fbit s a F.SNS_TEMP_CAL = true →
        Runs (.sensorCalDone kind d n) s fun t =>
          fget t a F.SNS_TEMP_CAL = 0 ∧ fget t a F.SNS_TEMP_VALID = 1 ∧ RegsOnly s t ∧ RegsKept s t [a, Reg.SNS_CAL])) ∧
    (∀ r rest, leased s = true → s.logQueue = r :: rest → 0 < s.logFlash.used → s.logFlash.used < 1024 →
      Runs (.logProgram false) s fun t =>
        t.logQueue = rest ∧ t.logFlash.records = s.logFlash.records ++ [(s.logFlash.head, r)] ∧
        t.logFlash.used = s.logFlash.used + 1 ∧ oget t Od.LOG_NEWEST = r.seq ∧
        t = { s with logQueue := t.logQueue, logFlash := t.logFlash, od := t.od } ∧
        OdKept s t [Od.LOG_NEWEST, Od.LOG_OLDEST, Od.LOG_ERASE_MAX, Od.LOG_AREA]) ∧
    (leased s = false → Runs (.logProgram false) s fun t => t = s) ∧
    (leased s = true →
      Runs .configStoreWrite s fun t =>
        t.collar.storeA = ⟨max s.collar.storeA.gen s.collar.storeB.gen + 1, keptValues s⟩ ∧
        t.collar.storeB = t.collar.storeA ∧ t = { s with collar := t.collar })

/-! ## The object dictionary (16) and run control -/

/-- From R419, R420, R423, R426, R427, R433, R442: reads and descriptions of entries, and what a write is tested for,
in order. Model readings and choices it rests on: assumptions 51, 52, 53. -/
def Obligations.DictionaryAccessesAreTestedInOrder : Prop :=
  ∀ (s : State) (w : Path) (index : BitVec 16) (sub : BitVec 8) (off len : BitVec 32) (bytes : List (BitVec 8)) (x : Crypto),
    let key := index.toNat * 256 + sub.toNat
    let answers := fun (i : Instr) (code : Nat) (l : List Byte) =>
      Runs i s fun t => t = { s with result := code, reply := l }
    (odServing s = false →
      ∀ i ∈ [Instr.odRead w index sub off len, Instr.odWrite w index sub off bytes x, Instr.odDescribe w index sub,
          Instr.logRead w], Runs i s fun t => t = s) ∧
    (odServing s = true → pathServed s w = false →
      ∀ i ∈ [Instr.odRead w index sub off len, Instr.odWrite w index sub off bytes x, Instr.odDescribe w index sub,
          Instr.logRead w], Runs i s fun t => t = { s with result := Code.WRONG_STATE }) ∧
    (odServing s = true → pathServed s w = true →
      ((odEntry key).isNone = true ∨ odInScope w key = false →
        answers (.odRead w index sub off len) Code.NO_SUCH_ENTRY [] ∧
        answers (.odDescribe w index sub) Code.NO_SUCH_ENTRY [] ∧
        (s.power.closing = false → answers (.odWrite w index sub off bytes x) Code.NO_SUCH_ENTRY [])) ∧
      (∀ d, odEntry key = some d → odInScope w key = true →
        (odReadable s w key d = false → answers (.odRead w index sub off len) Code.ACCESS_DENIED []) ∧
        (odReadable s w key d = true → d.type ≠ .domain → keySub key ≠ 0 → key ≠ Od.LOG_READ → key ≠ Od.ATTEST_NONCE →
          key ≠ Od.ATTEST → ¬ (keyLow key = 8 ∧ keySub key = 2) →
          answers (.odRead w index sub off len) 0 (leBytes (odSize d.type) (odValue s w key))) ∧
        (odReadable s w key d = true → d.type = .domain → domainMax key < off.toNat + len.toNat →
          answers (.odRead w index sub off len) Code.LENGTH_EXCEEDS_BUFFER []) ∧
        (d.type ≠ .domain →
          Runs (.odDescribe w index sub) s fun t =>
            t.result = 0 ∧ t.reply.length = 8 ∧ t.reply.head? = some (BitVec.ofNat 8 (odTypeCode d.type)) ∧
            t.reply.drop 4 = leBytes 4 (odSize d.type) ∧ t = { s with result := 0, reply := t.reply }) ∧
        (s.power.closing = false →
          (odWritable s w key d = false → answers (.odWrite w index sub off bytes x) Code.ACCESS_DENIED []) ∧
          (odWritable s w key d = true → d.access = .rwi → odIdle s key = false →
            answers (.odWrite w index sub off bytes x) Code.NOT_IDLE []) ∧
          (odWritable s w key d = true → d.access ≠ .rwi → d.type ≠ .domain →
            (odSize d.type < bytes.length → answers (.odWrite w index sub off bytes x) Code.LENGTH_EXCEEDS_BUFFER []) ∧
            (bytes.length < odSize d.type → answers (.odWrite w index sub off bytes x) Code.ACCESS_DENIED []))) ∧
        (s.power.closing = true → answers (.odWrite w index sub off bytes x) Code.NOT_IDLE [])))

/-- From R426, R429 to R432: a legal value is applied; another is clamped, applied and reported, as two entries show;
CLAMP_CLEAR empties the ring, and LOG_READ returns records from the cursor on. Model readings and choices it rests on:
assumptions 51, 53. -/
def Obligations.ValuesAreAppliedOrClampedAndReported : Prop :=
  ∀ (s : State) (w : Path) (x : Crypto) (v : BitVec 32),
    let ck := Instr.odWrite w 0x4020 1 0 (leBytes 4 v.toNat) x
    let applied := fun (t : State) (key n : Nat) =>
      oget t key = n ∧ t.result = 0 ∧ t = { s with od := t.od, result := 0, reply := [] } ∧ OdKept s t [key]
    let clamped := fun (t : State) (key reason written n : Nat) =>
      oget t key = n ∧ t.result = Code.VALUE_CLAMPED ∧
      oget t Od.CLAMP_TOTAL = min (oget s Od.CLAMP_TOTAL + 1) 0xFFFFFFFF ∧
      (∃ r, t.clamps.getLast? = some r ∧ r.reason = reason ∧ r.written = written ∧ r.applied = n ∧
        r.index = key / 256 ∧ r.sub = key % 256 ∧ r.origin = w.origin.val) ∧
      (∃ r, t.logQueue = s.logQueue ++ [r] ∧ r.severity = 4 ∧ r.code = Code.VALUE_CLAMPED) ∧
      OdKept s t [key, Od.CLAMP_TOTAL] ∧ t.regs = s.regs ∧ t.mem = s.mem
    odServing s = true → w.part = none →
    (s.power.closing = false →
      (∀ b : BitVec 8,
        let i := Instr.odWrite w 0x4020 2 0 [b] x
        (1 ≤ b.toNat → b.toNat ≤ 15 → Runs i s fun t => applied t Od.ROLLBACK_LIMIT b.toNat) ∧
        (b = 0 → Runs i s fun t => clamped t Od.ROLLBACK_LIMIT 1 0 1) ∧
        (15 < b.toNat → Runs i s fun t => clamped t Od.ROLLBACK_LIMIT 2 b.toNat 15)) ∧
      (4096 ≤ v.toNat → v.toNat ≤ 4294963200 →
        (v.toNat % 4096 = 0 → Runs ck s fun t => applied t Od.CKPT_INTERVAL v.toNat) ∧
        (v.toNat % 4096 ≠ 0 → Runs ck s fun t => clamped t Od.CKPT_INTERVAL 4 v.toNat (v.toNat / 4096 * 4096))) ∧
      (v.toNat < 4096 → Runs ck s fun t => clamped t Od.CKPT_INTERVAL 1 v.toNat 4096)) ∧
    (s.power.closing = false →
      Runs (.clampClear w) s fun t => t = { s with clamps := [], result := 0 }) ∧
    (Runs (.logRead w) s fun t =>
      let l := ((s.logFlash.records.map fun r => r.2).filter fun r => decide (oget s Od.LOG_CURSOR ≤ r.seq)).take 16
      t.result = 0 ∧ t.reply = bytesAt (l.flatMap recordBytes) 0 1024 ∧
      (∀ r, l.getLast? = some r → oget t Od.LOG_CURSOR = r.seq + 1) ∧
      t = { s with od := t.od, result := 0, reply := t.reply } ∧ OdKept s t [Od.LOG_CURSOR])

/-- From R442, R482: an access through a channel of the mirror completes with DONE, its code and its interrupt, or
waits; a busy channel ignores a command. Model readings and choices it rests on: assumption 54. -/
def Obligations.MirrorAccessesComplete : Prop :=
  ∀ (s : State) (f : Option (Fin 16)) (c : Fin 16) (v : BitVec 32) (x : Crypto),
    let n := match f with
      | none => 0
      | some p => p.val + 1
    let st := Reg.COL_OD_STATUS c.val + mirrorOf n
    let cmd := Reg.COL_OD_CMD c.val + mirrorOf n
    let len := fget s (Reg.COL_OD_LEN c.val + mirrorOf n) F.COL_OD_LEN_LEN
    let key := fldGet v F.COL_OD_CMD_INDEX * 256 + fldGet v F.COL_OD_CMD_SUB
    let i := Instr.colOdCmdGo f c v x
    (mirrorOpen s n = true → fbit s st F.COL_OD_STATUS_BUSY = true →
      Runs i s fun t => fget t st F.COL_OD_STATUS_WERR = 1 ∧ RegsOnly s t ∧ RegsKept s t [st]) ∧
    (mirrorOpen s n = false → Runs i s fun t => t = s) ∧
    (mirrorOpen s n = true → fbit s st F.COL_OD_STATUS_BUSY = false → fldGet v F.COL_OD_CMD_GO = 1 →
      (65536 < len →
        Runs i s fun t =>
          fget t st F.COL_OD_STATUS_DONE = 1 ∧ rget t (Reg.COL_OD_CODE c.val + mirrorOf n) =
            BitVec.ofNat 32 Code.LENGTH_EXCEEDS_BUFFER ∧
          t.msix = s.msix ++ [(n, 1)] ∧ t = { s with regs := t.regs, msix := t.msix }) ∧
      (len ≤ 65536 → fldGet v F.COL_OD_CMD_OP = 3 →
        Runs i s fun t =>
          fget t st F.COL_OD_STATUS_DONE = 1 ∧
          rget t (Reg.COL_OD_CODE c.val + mirrorOf n) = BitVec.ofNat 32 Code.VALUE_INVALID ∧
          t = { s with regs := t.regs, msix := t.msix }) ∧
      (len ≤ 65536 → fldGet v F.COL_OD_CMD_OP ≠ 3 → odServing s = false →
        Runs i s fun t =>
          fget t st F.COL_OD_STATUS_BUSY = 1 ∧ fget t st F.COL_OD_STATUS_DONE = 0 ∧ fget t cmd F.COL_OD_CMD_GO = 1 ∧
          t.mirrorWait = s.mirrorWait ++ [(n, c.val, x)] ∧ t = { s with regs := t.regs, mirrorWait := t.mirrorWait }) ∧
      (len ≤ 65536 → fldGet v F.COL_OD_CMD_OP ≠ 3 → odServing s = true →
        Runs i s fun t =>
          fget t st F.COL_OD_STATUS_BUSY = 0 ∧ fget t st F.COL_OD_STATUS_DONE = 1 ∧ fget t cmd F.COL_OD_CMD_GO = 0 ∧
          (∃ l, t.msix = l ++ [(n, 1)]) ∧
          ((odEntry key).isNone = true → (s.power.closing = false ∨ fldGet v F.COL_OD_CMD_OP ≠ 1) →
            rget t (Reg.COL_OD_CODE c.val + mirrorOf n) = BitVec.ofNat 32 Code.NO_SUCH_ENTRY ∧
            fget t st F.COL_OD_STATUS_RESULT_LEN = 0 ∧ t.od = s.od)))

/-- From R438, R439, R527: RUN, PAUSE, STEP and STOP_ECYCLE by the partition's state, and SHUTDOWN. Model readings and
choices it rests on: assumptions 55, 56. -/
def Obligations.RunControlFollowsThePartitionState : Prop :=
  ∀ (s : State) (p : Fin 16) (w : Path) (v : BitVec 64),
    let x := getPart s p.val
    let st := oget s (Od.RUN_STATE p.val)
    let stop := Od.STOP_ECYCLE p.val
    let wrong := fun (i : Instr) => Runs i s fun t => t = { s with result := Code.WRONG_STATE }
    let stopped := fun (t : State) =>
      t = { s with od := t.od, parts := t.parts, clusters := t.clusters, regs := t.regs, result := 0 } ∧ PartsKept s t p.val ∧
      ∀ i, (∀ c ∈ partClusters s p.val, c.idx ≠ i) → getCl t i = getCl s i
    serving s →
    (st ≠ 1 → st ≠ 2 → wrong (.run p) ∧ wrong (.pause p) ∧ wrong (.step p) ∧ wrong (.stopEcycleWrite p v w)) ∧
    (st = 1 → x.breaks = [] → x.doneFall = none →
      (oget s stop = noStop →
        Runs (.run p) s fun t =>
          oget t (Od.RUN_STATE p.val) = 2 ∧ oget t (Od.PAUSE_REASON p.val) = 0 ∧ t.result = 0 ∧ t.mem = s.mem ∧
          PartsKept s t p.val) ∧
      (0 < oget s (Od.STEP_COUNT p.val) →
        Runs (.step p) s fun t =>
          oget t (Od.RUN_STATE p.val) = 2 ∧ oget t stop = x.completed + oget s (Od.STEP_COUNT p.val) ∧ t.result = 0 ∧
          PartsKept s t p.val)) ∧
    (st = 1 → Runs (.pause p) s fun t => t = { s with result := 0 }) ∧
    (st = 2 → Runs (.run p) s fun t => t = { s with result := 0 }) ∧
    (st = 2 → wrong (.step p)) ∧
    (st = 2 → x.completed + 2 + x.diameter < oget s stop →
      Runs (.pause p) s fun t =>
        oget t stop = x.completed + 2 + x.diameter ∧ t.result = 0 ∧ OdKept s t [stop] ∧ stopped t) ∧
    (st = 2 → oget s stop ≤ x.completed + 2 + x.diameter →
      Runs (.pause p) s fun t => t = { s with result := 0 }) ∧
    ((st = 1 ∨ st = 2) →
      let low := if st = 2 then x.completed + 2 + x.diameter else x.completed
      (low ≤ v.toNat →
        Runs (.stopEcycleWrite p v w) s fun t =>
          oget t stop = v.toNat ∧ t.result = 0 ∧ OdKept s t [stop] ∧ stopped t) ∧
      (v.toNat < low →
        Runs (.stopEcycleWrite p v w) s fun t =>
          oget t stop = low ∧ t.result = Code.VALUE_CLAMPED ∧
          oget t Od.CLAMP_TOTAL = min (oget s Od.CLAMP_TOTAL + 1) 0xFFFFFFFF)) ∧
    (w.part ≠ none → Runs (.shutdown w) s fun t => t = { s with result := Code.ACCESS_DENIED }) ∧
    (w.part = none → st = 2 → x.completed + 2 + x.diameter < oget s stop →
      Runs (.shutdown w) s fun t =>
        t.power.closing = true ∧ t.result = 0 ∧ oget t stop = x.completed + 2 + x.diameter ∧
        oget t (Od.RUN_STATE p.val) = 2) ∧
    (w.part = none → (∀ q, q < 16 → partState s q = 0 ∧ runState s q = 0 ∧ spillWaits s q = false) →
      s.logQueue.length < 4096 →
      Runs (.shutdown w) s fun t =>
        t.power.resting = true ∧ t.alert = false ∧
        fget t Reg.CFG_STATUS F.CFG_STATUS_INIT_N_PULL = 1 ∧ fget t Reg.CFG_STATUS F.CFG_STATUS_DONE_PULL = 1 ∧
        ∃ r ∈ t.logFlash.records, r.2.code = Code.SHUTDOWN_DONE)

/-! ## The Parameter Access Protocol (17) -/

/-- From R450 to R459, R461: a request of a session is carried out once and answered once; a repeat is answered from
the kept response, and a datagram that does not verify is counted and dropped. R455, R458 to R461: repeats, datagrams
that do not verify, notifications, and violations. Model readings and choices it rests on: assumptions 11, 57, 77. -/
def Obligations.PapRequestsRepeatsAndNotifications : Prop :=
  (∀ (s : State) (m : PapMsg) (k : Nat) (x : Session) (cr : Crypto),
     let u := papVerified s k x m
     let w := sessionPath x
     papNew s m k x →
     (∀ bytes, bytes.length ≤ 64 →
       Runs (.echo (papTagged x m 0x30 bytes) bytes) s fun t => papAnswered s t m k x 0x31 bytes) ∧
     (∀ refs, refs ≠ [] → refs.length ≤ 64 →
       Runs (.papRead (papTagged x m 0x10 (readBody refs)) refs) s fun t => papAnswered s t m k x 0x11 (serveRead u w true (refs.map refKey)).2) ∧
     (∀ e, Runs (.describe (papTagged x m 0x18 (refBytes true e)) e) s fun t =>
       papAnswered s t m k x 0x19 (serveDescribe u w true (refKey e))) ∧
     (∀ b : BitVec 8, x.part = none → s.power.closing = false → 1 ≤ b.toNat → b.toNat ≤ 15 →
       let items : List (EntryRef × List (BitVec 8)) := [(⟨0x4020, 2⟩, [b])]
       Runs (.papWrite (papTagged x m 0x12 (writeBody items)) items cr) s fun t =>
         papAnswered s t m k x 0x13 ([0, 1, 0, 0] ++ num true 4 0) ∧ oget t Od.ROLLBACK_LIMIT = b.toNat) ∧
     (∀ off len : Nat, x.part = none → 0 < len → len ≤ 1408 → off + len ≤ 10240 →
       let e : EntryRef := ⟨Od.CLAMP_RING / 256, Od.CLAMP_RING % 256⟩
       Runs (.segRead (papTagged x m 0x14 (segReadBody e off len)) e off len) s fun t =>
         papAnswered s t m k x 0x15
           (num true 4 0 ++ num true 2 len ++ [0, 0] ++ bytesAt (s.clamps.flatMap clampBytes) off len)) ∧
     (∀ bs : List (BitVec 8), x.part = none → s.power.closing = false → s.collar.fw = .none → s.collar.committed ≤ 1 →
       0 < bs.length → bs.length < 256 →
       let e : EntryRef := ⟨Od.FW_IMAGE / 256, Od.FW_IMAGE % 256⟩
       Runs (.segWrite (papTagged x m 0x16 (segWriteBody e 0 bs)) e 0 bs cr) s fun t =>
         papAnswered s t m k x 0x17 (num true 4 0) ∧
         ∀ i, i < 256 → flashByte t (1 - s.collar.committed) i = if i < bs.length then bs.getD i 0 else 0xFF) ∧
     (∀ (sub mode : BitVec 8) (period : BitVec 16) (refs : List EntryRef),
       let r := readEntries w true (refs.map refKey) u 20
       sub.toNat ≤ 7 → mode.toNat ≤ 1 → 10 ≤ period.toNat → period.toNat ≤ 60000 → refs ≠ [] → refs.length ≤ 16 →
       (∀ c ∈ r.2.2, c ≠ Code.LENGTH_EXCEEDS_BUFFER) →
       Runs (.subscribe (papTagged x m 0x20 (subscribeBody sub.toNat mode.toNat period.toNat refs)) sub mode period refs) s fun t =>
         papAnswered s t m k x 0x21 (num true 4 0 ++ r.2.2.flatMap fun c => num true 4 c) ∧
         ∃ y n, getSession t k = some y ∧
           sget (fun _ => none) y.subs sub.toNat =
             some ⟨decide (mode.toNat = 1), period.toNat, refs.map refKey, n, r.2.1⟩) ∧
     (∀ sub : BitVec 8, sub.toNat ≤ 7 →
       Runs (.unsubscribe (papTagged x m 0x22 (num true 1 sub.toNat ++ [0, 0, 0])) sub) s fun t =>
         papAnswered s t m k x 0x21 (num true 4 0) ∧
         ∃ y, getSession t k = some y ∧ sget (fun _ => none) y.subs sub.toNat = none)) ∧
  (∀ (s : State) (m : PapMsg) (k : Nat) (x : Session),
     let counted := fun (t : State) =>
       oget t Od.PAP_DISCARDED = min (oget s Od.PAP_DISCARDED + 1) 0xFFFFFFFF
     odServing s = true →
     (m.session ≠ 0 → sessionSlot s m.session.toNat = some k → getSession s k = some x →
       (∀ r bytes, m.seq ≠ 0 → x.stored.find? (fun r => decide (r.req = m.seq.toNat)) = some r →
         Runs (.echo (papTagged x m 0x30 bytes) bytes) s fun t =>
           t.papSent = s.papSent ++ [sessionMessage { x with addr := m.src.toNat } r.own r.type m.seq.toNat r.body] ∧
           t = { s with papSent := t.papSent, sessions := t.sessions, od := t.od } ∧ OdKept s t [Od.PAP_SESSIONS]) ∧
       (∀ bytes refs,
         ∀ i ∈ [(Instr.echo m bytes, requestTag x m.seq.toNat 0x30 bytes),
             (Instr.papRead m refs, requestTag x m.seq.toNat 0x10 (readBody refs)),
             (Instr.closeSession m, requestTag x m.seq.toNat 0x05 [])],
           m.tag ≠ i.2 ∨ m.seq = 0 → Runs i.1 s fun t => counted t ∧ t = { s with od := t.od } ∧ OdKept s t [Od.PAP_DISCARDED]) ∧
       (∀ (sub : Fin 8) (v : Subscription), sget (fun _ => none) x.subs sub.val = some v → x.next < 0xFFFFFFFF →
         let r := readEntries (sessionPath x) true v.entries s 20
         (v.onChange = false ∨ r.2.1 ≠ v.last →
           Runs (.notify m.session sub) s fun t =>
             (∃ body, t.papSent = s.papSent ++ [sessionMessage x x.next 0x23 0 body] ∧
               body.take 8 = num true 1 sub.val ++ [0, 0, 0] ++ num true 4 ((v.count + 1) % 2 ^ 32) ∧
               body.drop 20 = r.2.1) ∧
             ∃ y, getSession t k = some y ∧ y.next = x.next + 1 ∧
               sget (fun _ => none) y.subs sub.val = some { v with count := (v.count + 1) % 2 ^ 32, last := r.2.1 }) ∧
         (v.onChange = true → r.2.1 = v.last →
           Runs (.notify m.session sub) s fun t => t.papSent = s.papSent ∧ t.sessions = s.sessions)) ∧
       (∀ bytes, violationAuthentic x m (ofBytes bytes) = false →
         Runs (.papViolation m .version bytes) s fun t => counted t ∧ t = { s with od := t.od } ∧ OdKept s t [Od.PAP_DISCARDED]) ∧
       (∀ bytes, violationAuthentic x m (ofBytes bytes) = true →
         sget (fun _ => none) s.abortAt (srcAddr m.src.toNat) = none →
         Runs (.papViolation m .version bytes) s fun t =>
           counted t ∧ t.papSent = s.papSent ++
             [sessionMessage x x.next 0x3F m.seq.toNat (num true 4 Code.PAP_VERSION ++ num true 4 0)])) ∧
     (sessionSlot s m.session.toNat = none → sessionSlot s 0 = none →
       sget (fun _ => none) s.abortAt (srcAddr m.src.toNat) = none →
       (∀ bytes, Runs (.papViolation m .version bytes) s fun t =>
         counted t ∧ t.papSent = s.papSent ++
           [plainMessage m.src.toNat 0x3F m.seq.toNat (num true 4 Code.PAP_VERSION ++ num true 4 0)] ∧
         sget (fun _ => none) t.abortAt (srcAddr m.src.toNat) = some s.ticks ∧ t.sessions = s.sessions) ∧
       (m.session ≠ 0 → ∀ refs, Runs (.papRead m refs) s fun t =>
         counted t ∧ t.papSent = s.papSent ++
           [plainMessage m.src.toNat 0x3F m.seq.toNat (num true 4 Code.PAP_NO_SESSION ++ num true 4 0)])) ∧
     (∀ bytes, Runs (.papViolation m .tag bytes) s fun t =>
       counted t ∧ t = { s with od := t.od } ∧ OdKept s t [Od.PAP_DISCARDED]) ∧
     (∀ a, sget (fun _ => none) s.abortAt (srcAddr m.src.toNat) = some a → s.ticks < a + msTicks (oget s Od.PAP_ABORT_INTERVAL) →
       sessionSlot s m.session.toNat = none →
       ∀ bytes, Runs (.papViolation m .range bytes) s fun t =>
         counted t ∧ t.papSent = s.papSent ∧
         oget t Od.PAP_ABORTS_SUPPRESSED = min (oget s Od.PAP_ABORTS_SUPPRESSED + 1) 0xFFFFFFFF))

/-- From R452, R454, R455: sessions are asked for, opened against a challenge, closed and timed out. Model readings
and choices it rests on: assumptions 2, 11, 57, 77, 79. -/
def Obligations.PapSessionsOpenAndClose : Prop :=
  ∀ (s : State) (m : PapMsg),
    let abort := fun (src seq code : Nat) =>
      [plainMessage src 0x3F seq (num true 4 code ++ num true 4 0)]
    odServing s = true →
    (∀ (src : BitVec 144) (seq : BitVec 32) (role part : BitVec 8),
      (sessionsHeld s < 16 →
        Runs (.hello src seq role part) s fun t =>
          ∃ c : Challenge, t.challenges = s.challenges ++ [c] ∧ c.addr = src.toNat ∧ c.role = role.toNat ∧
            c.part = part.toNat ∧ c.number ≠ 0 ∧ (∀ k x, (k, some x) ∈ s.sessions → x.number ≠ c.number) ∧
            c.nonce < 2 ^ 128 ∧ t.papSent = s.papSent ++ [plainMessage src.toNat 0x02 seq.toNat (challengeBody true c)] ∧
            t.sessions = s.sessions) ∧
      (16 ≤ sessionsHeld s → sessionSlot s 0 = none → sget (fun _ => none) s.abortAt (srcAddr src.toNat) = none →
        Runs (.hello src seq role part) s fun t =>
          t.papSent = s.papSent ++ abort src.toNat seq.toNat Code.PAP_SESSIONS_FULL ∧ t.challenges = s.challenges)) ∧
    (∀ (c : Challenge) (body : List (BitVec 8)),
      let run := Runs (.openSession m body) s
      s.challenges.find? (fun c => decide (c.number = m.session.toNat)) = some c →
      (openFault body Code.PAP_BAD_MESSAGE = none →
        (∀ k key, openKey s true c body = some key → (List.range 16).find? (fun k => (getSession s k).isNone) = some k →
          let x : Session :=
            { number := c.number, addr := m.src.toNat, key := key, part := if c.role = 2 then some c.part else none }
          run fun t =>
            getSession t k = some { x with next := 2 } ∧ (∀ j, j ≠ k → getSession t j = getSession s j) ∧
            (∀ d ∈ t.challenges, d.number ≠ c.number) ∧
            t.papSent = s.papSent ++ [sessionMessage x 1 0x04 m.seq.toNat (openedBody s true)]) ∧
        (openKey s true c body = none →
          run fun t =>
            (∀ d ∈ t.challenges, d.number ≠ c.number) ∧
            (sessionSlot s 0 = none → t.sessions = s.sessions) ∧
            (sessionSlot s 0 = none → sget (fun _ => none) s.abortAt (srcAddr m.src.toNat) = none →
              t.papSent = s.papSent ++ abort m.src.toNat m.seq.toNat Code.PAP_AUTH_FAIL))) ∧
      (∀ code, openFault body Code.PAP_BAD_MESSAGE = some code → sessionSlot s 0 = none →
        run fun t =>
          t.challenges = s.challenges ∧ t.sessions = s.sessions ∧
          oget t Od.PAP_DISCARDED = min (oget s Od.PAP_DISCARDED + 1) 0xFFFFFFFF ∧
          (sget (fun _ => none) s.abortAt (srcAddr m.src.toNat) = none →
            t.papSent = s.papSent ++ abort m.src.toNat m.seq.toNat code))) ∧
    (∀ n, Runs (.challengeLapse n) s fun t =>
      t.challenges = s.challenges.filter (fun c => decide (c.number ≠ n.toNat)) ∧ t.sessions = s.sessions) ∧
    (∀ k x, m.session ≠ 0 → sessionSlot s m.session.toNat = some k → getSession s k = some x →
      (m.seq ≠ 0 → x.high < m.seq.toNat + 32 →
        Runs (.closeSession (papTagged x m 0x05 [])) s fun t =>
          getSession t k = none ∧
          t.papSent = s.papSent ++ [sessionMessage { x with addr := m.src.toNat } x.next 0x05 m.seq.toNat []] ∧
          ∀ j, j ≠ k → getSession t j = getSession s j) ∧
      (Runs (.papSessionTimeout m.session) s fun t =>
        getSession t k = none ∧ t.papSent = s.papSent ∧ ∀ j, j ≠ k → getSession t j = getSession s j))

/-! ## Ethernet and time (17) -/

/-- From R446 to R448, R466, R471: frames, links and failover; what PTP messages do to the domain they belong to.
Model readings and choices it rests on: assumptions 12, 63, 64, 93. -/
def Obligations.NetworkAndPtpMessagesHaveTheirEffect : Prop :=
  ∀ (s : State),
    (∀ (q : Fin 2) (f : EthFrame), portCarries s q.val = true → f.len.toNat ≤ frameMax f →
      let n := (getEth s q.val).queue.length
      (vlanPasses s q.val f.vlan = false ∨ 256 ≤ n →
        Runs (.ethFrameRx q f) s fun t =>
          oget t (Od.RX_DISCARDED q.val) = min (oget s (Od.RX_DISCARDED q.val) + 1) 0xFFFFFFFF ∧ OdOnly s t ∧
          OdKept s t [Od.RX_DISCARDED q.val]) ∧
      (vlanPasses s q.val f.vlan = true → n < 256 →
        (∀ a, f.body = .arp a → a ≠ 0 →
          Runs (.ethFrameRx q f) s fun t =>
            (a.toNat = ipv4Of s q.val →
              t = { s with ethSent := s.ethSent ++ [⟨q.val, oget s (Od.VLAN_ID (ethCfg s q.val)), .arp a.toNat false⟩] }) ∧
            (a.toNat ≠ ipv4Of s q.val → t = s)) ∧
        (∀ l, f.body = .other l →
          Runs (.ethFrameRx q f) s fun t =>
            (getEth t q.val).queue = (getEth s q.val).queue ++ [f] ∧ t = { s with ethPorts := t.ethPorts }))) ∧
    (∀ (q : Fin 2) (link : Fin 3), fget s Reg.PWR_STATUS F.PWR_STATUS_STAGE ≠ 0 →
      Runs (.ethLinkChange q link) s fun t =>
        oget t (Od.LINK q.val) = link.val ∧ OdOnly s t ∧ OdKept s t [Od.LINK q.val]) ∧
    (∀ q : Fin 2, leased s = true → oget s Od.ETH_MODE = 1 → oget s Od.ETH_ACTIVE = q.val → ethUp s q.val = false →
      ethUp s (1 - q.val) = true → s.logQueue.length < 4096 →
      Runs .ethFailover s fun t =>
        oget t Od.ETH_ACTIVE = 1 - q.val ∧ oget t Od.ETH_FAILOVERS = min (oget s Od.ETH_FAILOVERS + 1) 0xFFFFFFFF ∧
        (ipv4Of s (1 - q.val) ≠ 0 → ∃ f ∈ t.ethSent, f.port = 1 - q.val ∧ f.msg = .arp (ipv4Of s (1 - q.val)) true) ∧
        ∃ r, t.logQueue = s.logQueue ++ [r] ∧ r.code = Code.PORT_FAILOVER) ∧
    (∀ (m : PtpMsg) (x : PtpMaster) (two : Bool), leased s = true → portCarries s m.port.val = true →
      (∀ i ∈ [Instr.announce m x, Instr.ptpSync m two, Instr.followUp m, Instr.delayResp m],
        (m.version ≠ 2 ∨ m.lengthOk = false →
          Runs i s fun t =>
            oget t Od.PTP_DISCARDED = min (oget s Od.PTP_DISCARDED + 1) 0xFFFFFFFF ∧ OdOnly s t ∧
            OdKept s t [Od.PTP_DISCARDED]) ∧
        (m.version = 2 → m.lengthOk = true → time80Ok m.stamp.toNat = false →
          Runs i s fun t =>
            (∃ r, t.logQueue = s.logQueue ++ [r] ∧ r.code = Code.VALUE_INVALID ∧ r.severity = 4) ∧
            t = { s with logQueue := t.logQueue, logSeq := t.logSeq })) ∧
      (∀ c : TimeCtr, m.version = 2 → m.lengthOk = true → time80Ok m.stamp.toNat = true → ptpTarget s m = some c →
        let tr := trackOf s c
        let offKey := match c with
          | .a => Od.A_OFFSET
          | .b => Od.B_OFFSET
        let offset := fun (recv corr : Int) =>
          i64 ((recv - fine80 m.stamp.toNat - corr - tr.delay - asymmetry s m.port.val * 65536) / 65536)
        (x.ptpTimescale = true → x.qualified = true →
          Runs (.announce m x) s fun t =>
            (trackOf t c).masters = tr.masters.filter (fun j => decide (j.source ≠ m.source.toNat)) ++
              [⟨m.source.toNat, masterOrder x m.source.toNat, x.utcOffset.toNat⟩] ∧
            (oget s (timeStateKey c) = 0 → oget t (timeStateKey c) = 1) ∧
            (oget s (timeStateKey c) ≠ 0 → oget t (timeStateKey c) = oget s (timeStateKey c)) ∧
            t = { s with time := t.time, od := t.od }) ∧
        (x.ptpTimescale = false ∨ x.qualified = false → Runs (.announce m x) s fun t => t = s) ∧
        (fromMaster s c m = true →
          (Runs (.ptpSync m true) s fun t =>
            trackOf t c = { tr with sync := some (m.seqId.toNat, fineCtr s c, fineCorr m) } ∧ t = { s with time := t.time }) ∧
          (Runs (.ptpSync m false) s fun t => oget t offKey = offset (fineCtr s c) (fineCorr m)) ∧
          (∀ recv corr, tr.sync = some (m.seqId.toNat, recv, corr) →
            Runs (.followUp m) s fun t =>
              oget t offKey = offset recv (corr + fineCorr m) ∧ (trackOf t c).sync = none)) ∧
        (tr.sync = none → Runs (.followUp m) s fun t =>
          oget t Od.PTP_DISCARDED = min (oget s Od.PTP_DISCARDED + 1) 0xFFFFFFFF ∧ OdOnly s t) ∧
        (∀ sent origin recv corr, tr.req = some ⟨m.seqId.toNat, some sent, none⟩ → tr.last = some (origin, recv, corr) →
          Runs (.delayResp m) s fun t =>
            trackOf t c = { tr with
              req := none,
              delay := (recv - sent + (fine80 m.stamp.toNat - origin) - corr - fineCorr m) / 2 } ∧
            t = { s with time := t.time }) ∧
        (tr.req = none → Runs (.delayResp m) s fun t =>
          oget t Od.PTP_DISCARDED = min (oget s Od.PTP_DISCARDED + 1) 0xFFFFFFFF ∧ OdOnly s t))) ∧
    (∀ (c : TimeCtr) (k : PtpKnown), leased s = true → bestMaster (trackOf s c) = some k →
      (Runs (.masterLost c) s fun t =>
        oget t (timeStateKey c) = 0 ∧
        (trackOf t c).masters = (trackOf s c).masters.filter (fun j => decide (j.source ≠ k.source)) ∧
        (trackOf t c).good = 0 ∧ (trackOf t c).sync = none ∧ t = { s with time := t.time, od := t.od }) ∧
      (∀ seq : BitVec 16, portCarries s (ptpPort s c) = true →
        (s.time.txq.length < 16 →
          Runs (.delayReqSend c seq) s fun t =>
            t.time.txq = s.time.txq ++ [⟨ptpPort s c, ptpDomain s c, seq.toNat, s.timeA, s.timeB⟩] ∧
            (trackOf t c).req = some { seqId := seq.toNat } ∧
            t.ethSent = s.ethSent ++ [⟨ptpPort s c, oget s (Od.VLAN_ID (ethCfg s (ptpPort s c))),
              .delayReq (ptpDomain s c) seq.toNat⟩] ∧ t = { s with time := t.time, ethSent := t.ethSent }) ∧
        (16 ≤ s.time.txq.length →
          Runs (.delayReqSend c seq) s fun t =>
            t.time.txq = s.time.txq ∧ oget t Od.TXQ_LOST = min (oget s Od.TXQ_LOST + 1) 0xFFFFFFFF ∧
            fget t Reg.TIME_TXQ_STATUS F.TIME_TXQ_STATUS_OVF = 1))) ∧
    (∀ e rest, s.time.txq = e :: rest →
      Runs .txqPop s fun t =>
        t.time.txq = rest ∧ t.reply = leBytes 4 (time80 e.b / 2 ^ 64 % 2 ^ 16) ∧ t = { s with time := t.time, reply := t.reply })

/-- From R463, R464, R468, R469, R472 to R474: the counters, their registers and switching, the split of the domains,
and alarms. Model readings and choices it rests on: assumptions 65, 66, 67. -/
def Obligations.CountersAndAlarmsFollowTheirRules : Prop :=
  ∀ (s : State) (w : Path),
    (Runs .setA s fun t => t = { s with timeA := ctrOfTime80 (regTime80 s Reg.TIME_SET_NS) }) ∧
    (Runs .setB s fun t => t = { s with timeB := ctrOfTime80 (regTime80 s Reg.TIME_SET_NS) }) ∧
    (∀ (c : TimeCtr) (v : BitVec 32),
      (1716268931 ≤ v.toNat → v.toNat ≤ 1719704905 →
        Runs (.timeIncWrite c v) s fun t => rget t (incReg c) = v ∧ RegsOnly s t ∧ RegsKept s t [incReg c]) ∧
      (v.toNat < 1716268931 ∨ 1719704905 < v.toNat →
        Runs (.timeIncWrite c v) s fun t =>
          fget t Reg.TIME_CTRL F.TIME_CTRL_WERR = 1 ∧ RegsOnly s t ∧ RegsKept s t [Reg.TIME_CTRL])) ∧
    (s.timeA < ctrModulus → s.timeB < ctrModulus →
      Runs .timeCapture s fun t =>
        regTime80 t Reg.TIME_A_NS = time80 s.timeA ∧ regTime80 t Reg.TIME_B_NS = time80 s.timeB ∧
        t = { s with regs := t.regs, reply := t.reply }) ∧
    (∀ c : TimeCtr,
      Runs (.slewDone c) s fun t =>
        ctrOf t c = ((ctrOf s c : Int) + slewOf s c).toNat % ctrModulus ∧ slewOf t c = 0 ∧
        (c = .a → oget s Od.A_STATE = 3 → oget t Od.A_STATE = 2)) ∧
    (leased s = true →
      Runs .splitSample s fun t =>
        oget t Od.SPLIT_NOW = i64 (splitNs s) ∧
        (oget s Od.A_STATE = 2 → oget s Od.B_STATE = 2 → oget s Od.DOMAIN_SPLIT_LIMIT < (splitNs s).natAbs →
          s.time.surplus = 7 → oget s Od.SPLIT_STATE = 0 →
          oget t Od.SPLIT_STATE = 1 ∧ oget t Od.SPLIT_EVENTS = min (oget s Od.SPLIT_EVENTS + 1) 0xFFFFFFFF ∧
          ∃ r, t.logQueue = s.logQueue ++ [r] ∧ r.severity = 5 ∧ r.code = Code.TIME_SPLIT) ∧
        (oget s Od.A_STATE ≠ 2 ∨ oget s Od.B_STATE ≠ 2 → OdOnly s t ∧ OdKept s t [Od.SPLIT_NOW])) ∧
    (serving s → w.part ≠ none →
      ∀ i ∈ [Instr.timeSwitch w, Instr.timeManual 0 w, Instr.alarmArm 0 true w],
        Runs i s fun t => t = { s with result := Code.ACCESS_DENIED }) ∧
    (serving s → w.part = none →
      (oget s Od.B_STATE = 2 → oget s Od.A_STATE ≠ 3 → -2 ^ 31 ≤ -splitNs s → -splitNs s < 2 ^ 31 →
        Runs (.timeSwitch w) s fun t =>
          oget t Od.A_PTP_DOMAIN = oget s Od.B_PTP_DOMAIN ∧ oget t Od.B_PTP_DOMAIN = oget s Od.A_PTP_DOMAIN ∧
          oget t Od.A_STATE = (if splitNs s = 0 then 2 else 3) ∧ t.time.slewA = -splitNs s * 2 ^ 28 ∧
          t.timeA = s.timeA ∧ t.timeB = s.timeB ∧ t.result = 0 ∧ t.regs = s.regs) ∧
      (oget s Od.B_STATE ≠ 2 ∨ oget s Od.A_STATE = 3 →
        Runs (.timeSwitch w) s fun t => t = { s with result := Code.WRONG_STATE }) ∧
      (∀ v : BitVec 80, oget s Od.A_STATE = 0 → s.time.lockedOnce = false → time80Ok v.toNat = true →
        Runs (.timeManual v w) s fun t =>
          t.timeA = ctrOfTime80 v.toNat ∧ t.timeB = ctrOfTime80 v.toNat ∧ t.result = 0 ∧
          t = { s with timeA := t.timeA, timeB := t.timeB, regs := t.regs, result := 0 }) ∧
      (∀ v : BitVec 80, oget s Od.A_STATE ≠ 0 ∨ s.time.lockedOnce = true →
        Runs (.timeManual v w) s fun t => t = { s with result := Code.WRONG_STATE })) ∧
    (∀ k : Fin 8,
      let r := Reg.TIME_ALARM_CTRL k.val
      (serving s → w.part = none →
        (alarmArmed s k.val = false → (oget s (Od.ALARM_ACTION k.val) = 1 → runState s (oget s (Od.ALARM_TARGET k.val)) = 1) →
          oget s (Od.ALARM_TIME k.val) < 2 ^ 80 →
          Runs (.alarmArm k true w) s fun t =>
            alarmArmed t k.val = true ∧ fget t r F.TIME_ALARM_CTRL_FIRED = 0 ∧
            regTime80 t (Reg.TIME_ALARM_NS k.val) = oget s (Od.ALARM_TIME k.val) ∧
            oget t (Od.ALARM_STATE k.val) = 1 ∧ t.result = 0 ∧ t = { s with regs := t.regs, od := t.od, result := 0 }) ∧
        (alarmArmed s k.val = false → oget s (Od.ALARM_ACTION k.val) = 1 →
          runState s (oget s (Od.ALARM_TARGET k.val)) ≠ 1 →
          Runs (.alarmArm k true w) s fun t => t = { s with result := Code.WRONG_STATE }) ∧
        (Runs (.alarmArm k false w) s fun t =>
          alarmArmed t k.val = false ∧ oget t (Od.ALARM_STATE k.val) = 0 ∧ t.result = 0 ∧ RegsKept s t [r] ∧
          OdKept s t [Od.ALARM_STATE k.val])) ∧
      (alarmArmed s k.val = true → alarmTarget s k.val * 2 ^ 28 ≤ ctrOf s (alarmCtr s k.val) →
        Runs (.alarmFire k) s fun t =>
          fget t r F.TIME_ALARM_CTRL_FIRED = 1 ∧
          oget t (Od.ALARM_FIRES k.val) = min (oget s (Od.ALARM_FIRES k.val) + 1) 0xFFFFFFFF ∧
          (alarmPeriod s k.val = 0 → alarmArmed t k.val = false) ∧
          (alarmPeriod s k.val ≠ 0 → alarmArmed t k.val = true) ∧
          (fget s r F.TIME_ALARM_CTRL_ACTION = 3 → ∀ p, unitPart s (fget s r F.TIME_ALARM_CTRL_TARGET) = some p →
            (getUnit t (fget s r F.TIME_ALARM_CTRL_TARGET)).forceAt = some ((getPart s p).completed + 2) ∧
            oget t (Od.ALARM_RESULT k.val) = 0) ∧
          (fget s r F.TIME_ALARM_CTRL_ACTION = 1 → runState s (fget s r F.TIME_ALARM_CTRL_TARGET) ≠ 1 →
            oget t (Od.ALARM_RESULT k.val) = Code.WRONG_STATE)) ∧
      (alarmArmed s k.val = false ∨ ctrOf s (alarmCtr s k.val) < alarmTarget s k.val * 2 ^ 28 →
        Runs (.alarmFire k) s fun t => t = s))

/-! ## Host interface (18) -/

/-- From R480, R484 to R489, R491, R540: DMA queues start, take descriptors, complete them, abort, and are reset.
Model readings and choices it rests on: assumptions 12, 40, 60, 77, 86. -/
def Obligations.DmaQueuesFollowTheirRules : Prop :=
  ∀ (s : State) (q : Fin 1024),
    let x := getDma s q.val
    let head := fget s (qHead q.val) F.DMAQ_HEAD_HEAD
    let size := 2 ^ fget s (qCfg q.val) F.DMAQ_CFG_RING_LOG2
    let completed := fun (t : State) (d : DmaDone) (code : Nat) =>
      let a := hostBase + qBase s q.val + 32 * d.index + 0x18
      memBytes t a 8 = leBytes 8 (code + (2 ^ 31 + (if d.eom then 2 ^ 30 else 0) + d.actual) * 2 ^ 32) ∧
      MemKept s t a (a + 8) ∧ fget t (qHead q.val) F.DMAQ_HEAD_HEAD = (head + 1) % 2 ^ 17 ∧
      (getDma t q.val).current = none ∧
      t.msix = s.msix ++ (if d.irq then [(x.fn, fget s (qCfg q.val) F.DMAQ_CFG_VEC)] else [])
    let stopped := fun (t : State) (k : Nat) => qState t k = 0 ∧ fget t (qCfg k) F.DMAQ_CFG_EN = 0
    let emptied := fun (t : State) (c : Nat) =>
      (∀ d, mbxFull t c d = false ∧ mbxHeld t c d = false ∧ ∀ i, i < 16 → rget t (mbxData c d i) = 0) ∧
      ∀ z, rget t (dbReg c z) = 0 ∧ rget t (dbMask c z) = 0
    (∀ (fn : Fin 17) (w : Word),
      let v := fldSet w F.DMAQ_CFG_EN 1
      let refused := fun (t : State) =>
        fget t (qStatus q.val) F.DMAQ_STATUS_WERR = 1 ∧ RegsOnly s t ∧ RegsKept s t [qStatus q.val] ∧
        qState t q.val = qState s q.val
      (qState s q.val = 0 → qCfgOk q.val fn.val v = true →
        Runs (.dmaqEnable q fn w) s fun t =>
          rget t (qCfg q.val) = qCfgBits v ∧ fget t (qHead q.val) F.DMAQ_HEAD_HEAD = 0 ∧
          fget t (qTail q.val) F.DMAQ_TAIL_TAIL = 0 ∧ qState t q.val = 1 ∧ (getDma t q.val).fn = fn.val ∧
          (getDma t q.val).current = none ∧ t = { s with regs := t.regs, dmaQ := t.dmaQ } ∧
          RegsKept s t [qCfg q.val, qHead q.val, qTail q.val, qStatus q.val]) ∧
      (qState s q.val = 0 → qCfgOk q.val fn.val v = false → Runs (.dmaqEnable q fn w) s refused) ∧
      (qState s q.val ≠ 0 → Runs (.dmaqEnable q fn w) s refused)) ∧
    (qState s q.val ≠ 0 →
      (∀ d, x.current = some d →
        Runs (.dmaqAbort q) s fun t => completed t d Code.QUEUE_ABORTED ∧ stopped t q.val ∧ (getDma t q.val).message = []) ∧
      (x.current = none →
        Runs (.dmaqAbort q) s fun t =>
          stopped t q.val ∧ t = { s with regs := t.regs, dmaQ := t.dmaQ } ∧
          RegsKept s t [qCfg q.val, qStatus q.val] ∧ (getDma t q.val).message = [])) ∧
    (∀ tail : BitVec 17, qState s q.val ≠ 3 →
      ((tail.toNat + 2 ^ 17 - head) % 2 ^ 17 ≤ size →
        Runs (.dmaqTailWrite q tail) s fun t =>
          fget t (qTail q.val) F.DMAQ_TAIL_TAIL = tail.toNat ∧ RegsOnly s t ∧ RegsKept s t [qTail q.val]) ∧
      (size < (tail.toNat + 2 ^ 17 - head) % 2 ^ 17 →
        Runs (.dmaqTailWrite q tail) s fun t =>
          fget t (qStatus q.val) F.DMAQ_STATUS_WERR = 1 ∧ RegsOnly s t ∧ RegsKept s t [qStatus q.val])) ∧
    (∀ (d : DmaDesc) (bytes : List (BitVec 8)) (e : AccessEvent) (req : RestoreRequest),
      qState s q.val = 1 → x.current = none → 0 < dmaPending s q.val →
      (descBadFields (qClient s q.val) d = true →
        Runs (.dmaDescriptor q d bytes e req) s fun t =>
          (getDma t q.val).current = some ⟨head % size, Code.VALUE_INVALID, false, 0, descIrq d, true⟩ ∧
          t = { s with dmaQ := t.dmaQ }) ∧
      (descBadFields (qClient s q.val) d = false → inPeerWindow s d.addr.toNat (descLen d) = false → (∀ c, e ≠ .hostError c) →
        qClient s q.val = 3 ∨ qClient s q.val = 4 → ∀ m rest, hostQueue s q.val = m :: rest →
        Runs (.dmaDescriptor q d bytes e req) s fun t =>
          let n := min m.bytes.length (descLen d)
          let all := decide (m.bytes.length ≤ descLen d)
          memBytes t (hostBase + d.addr.toNat) n = m.bytes.take n ∧
          MemKept s t (hostBase + d.addr.toNat) (hostBase + d.addr.toNat + n) ∧
          (getDma t q.val).current = some ⟨head % size, 0, all && m.eom, n, descIrq d, false⟩ ∧
          hostQueue t q.val = (if all then rest else { m with bytes := m.bytes.drop n } :: rest) ∧ t.regs = s.regs) ∧
      (descBadFields 5 d = false → inPeerWindow s d.addr.toNat (descLen d) = false → (∀ c, e ≠ .hostError c) →
        qClient s q.val = 5 → partRunning s (q.val / 64) = false → descEom d = true →
        let u := (engineRead s (getPart s (q.val / 64)).ckptAt 64 e).1
        let all := (getDma u q.val).message ++ descBytes d bytes
        (engineRead s (getPart s (q.val / 64)).ckptAt 64 e).2 = 0 →
        (∀ k, keyById u req.key.toNat = some k → k.2.1 = classSector → k.2.2 = q.val / 64 →
          openObject k.1 req.object.toNat req.epoch.toNat all = none) →
        Runs (.dmaDescriptor q d bytes e req) s fun t =>
          (getDma t q.val).current = some ⟨head % size, Code.SECTOR_AUTH_FAIL, false, descLen d, descIrq d, false⟩ ∧
          (∃ r, t.logQueue = u.logQueue ++ [r] ∧ r.code = Code.SECTOR_AUTH_FAIL ∧ r.severity = 4) ∧
          t = { u with dmaQ := t.dmaQ, logQueue := t.logQueue, logSeq := t.logSeq })) ∧
    (∀ d, x.current = some d →
      Runs (.descriptorWriteback q) s fun t =>
        completed t d d.code ∧
        (d.error = true → qState t q.val = 2 ∧ (rget t (qCode q.val)).toNat = d.code % 2 ^ 32) ∧
        (d.error = false → qState t q.val = qState s q.val)) ∧
    (∀ p : Fin 16,
      Runs (.functionLevelReset p.succ) s fun t =>
        (∀ j, j < 64 → stopped t (64 * p.val + j)) ∧ (∀ k, k < 3 → emptied t (8 + 3 * p.val + k)) ∧
        (∀ k, k < 1024 → k / 64 ≠ p.val → qState t k = qState s k) ∧
        t = { s with regs := t.regs, mem := t.mem, dmaQ := t.dmaQ, msix := t.msix, mbx := t.mbx }) ∧
    (∀ link : Word, ∀ i ∈ [Instr.functionLevelReset 0, Instr.pciePerst link],
      Runs i s fun t =>
        (∀ k, k < 1024 → stopped t k) ∧ (∀ c, c < 64 → emptied t c ∧ (getMbx t c).session = none) ∧
        t = { s with regs := t.regs, mem := t.mem, dmaQ := t.dmaQ, msix := t.msix, mbx := t.mbx } ∧
        (i = .pciePerst link → rget t Reg.PCI_LINK = link &&& 0xC0F0FFFF#32))

/-- From R34, R478, R479, R481, R483: inbound requests that the endpoint turns away, those that it serves, peer
windows, and link errors. Model readings and choices it rests on: assumption 61. -/
def Obligations.InboundRequestsAndPeersFollowTheirRules : Prop :=
  ∀ (s : State) (x : RegSide) (err : Option (BitVec 32)),
    (∀ r : MemRequest,
      let off := r.off.toNat
      let a := bar0 + off
      (r.fn ≠ 0 → partState s (r.fn.val - 1) ≠ 2 →
        Runs (.pcieMemRequest r x err) s fun t => t = { s with pcieUr := true, reply := [] }) ∧
      (∀ id, r.src = .rid id → isPeer s r.src = false → r.data ≠ none ∨ r.bar ≠ .bar4 ∨ inIdPage off = false →
        Runs (.pcieMemRequest r x err) s fun t => t = { s with pcieUr := true, reply := [] }) ∧
      (r.fn = 0 ∨ partState s (r.fn.val - 1) = 2 → r.bar = .bar4 → off = 0x3FF000 → r.len = 8 → r.data = none →
        Runs (.pcieMemRequest r x err) s fun t =>
          t = { s with result := 0, pcieUr := false, reply := [0x56, 0x41, 0x42, 0x39, 0x32, 0x35, 0x36, 0x30] }) ∧
      (r.src = .root → r.fn = 0 → r.bar = .bar0 → off % 4 = 0 → blockAsleep s a = false → err = none →
        (r.data = none → r.len = 4 →
          Runs (.pcieMemRequest r x err) s fun t =>
            t = { (regRead s (.host 0) a).1 with
              result := 0, pcieUr := false, reply := leBytes 4 (regRead s (.host 0) a).2.toNat }) ∧
        (∀ b0 b1 b2 b3, r.data = some [b0, b1, b2, b3] →
          Runs (.pcieMemRequest r x err) s fun t =>
            t = { (regWrite s (.host 0) a (b3 ++ b2 ++ b1 ++ b0) x) with result := 0, pcieUr := false, reply := [] })) ∧
      (∀ code, r.src = .root → r.fn = 0 → r.bar = .bar0 → off % 4 = 0 → err = some code → code ≠ 0 → r.data = none →
        r.len = 4 →
        Runs (.pcieMemRequest r x err) s fun t =>
          t.reply = [0xFF, 0xFF, 0xFF, 0xFF] ∧ t.pcieUr = false ∧ t.result = code.toNat ∧
          t = { s with regs := t.regs, result := t.result, reply := t.reply, pcieUr := t.pcieUr } ∧
          RegsKept s t [Reg.PCI_HOSTERR, Reg.PCI_HOSTERR_CODE] ∧
          (fbit s Reg.PCI_HOSTERR F.PCI_HOSTERR_VALID = true → t.regs = s.regs) ∧
          (fbit s Reg.PCI_HOSTERR F.PCI_HOSTERR_VALID = false →
            fget t Reg.PCI_HOSTERR F.PCI_HOSTERR_VALID = 1 ∧ fget t Reg.PCI_HOSTERR F.PCI_HOSTERR_WRITE = 0 ∧
            fget t Reg.PCI_HOSTERR F.PCI_HOSTERR_BAR = 0 ∧ fget t Reg.PCI_HOSTERR F.PCI_HOSTERR_OFFSET = off ∧
            rget t Reg.PCI_HOSTERR_CODE = code))) ∧
    (∀ (k : Fin 8) (base : BitVec 22) (id : BitVec 64),
      let a := Reg.PCI_PEER_LO k.val
      Runs (.peerWindowEnable k base id) s fun t =>
        fget t a F.PCI_PEER_LO_BASE = base.toNat ∧ RegsOnly s t ∧ RegsKept s t [a] ∧
        (id = 0x3036353239424156#64 →
          fget t a F.PCI_PEER_LO_EN = 1 ∧ fget t a F.PCI_PEER_LO_WERR = fget s a F.PCI_PEER_LO_WERR) ∧
        (id ≠ 0x3036353239424156#64 → fget t a F.PCI_PEER_LO_EN = 0 ∧ fget t a F.PCI_PEER_LO_WERR = 1)) ∧
    (∀ u, Runs (.pcieLinkError u) s fun t =>
      ∃ r, t.logQueue = s.logQueue ++ [r] ∧ r.severity = (if u then 6 else 4) ∧ r.partition = modulePart ∧
        (u = false → t = { s with logQueue := t.logQueue, logSeq := t.logSeq }) ∧ (u = true → t.alert = true))

/-- From R492 to R502: claims, posts, acknowledgements, peer posts and doorbells of the mailbox channels, and requests
over them. Model readings and choices it rests on: assumptions 57, 58, 59, 77. -/
def Obligations.MailboxChannelsFollowTheirRules : Prop :=
  ∀ (s : State) (c : Fin 64),
    let ignored := fun (t : State) (k : Nat) =>
      fget t (Reg.MBX_IGNORED_CNT k) F.MBX_IGNORED_CNT_COUNT =
        min (fget s (Reg.MBX_IGNORED_CNT k) F.MBX_IGNORED_CNT_COUNT + 1) 0xFFFFFFFF ∧
      fget t (Reg.MBX_STATUS k) F.MBX_STATUS_IGNORED = 1 ∧ RegsOnly s t ∧
      RegsKept s t [Reg.MBX_IGNORED_CNT k, Reg.MBX_STATUS k]
    let told := fun (t : State) (dst : MbxSide) (yes : Bool) =>
      match dst with
      | .host => t.msix = s.msix ++ (if yes then [(chanFn c.val, fget s (Reg.MBX_VEC c.val) F.MBX_VEC_VEC)] else []) ∧
          t.colIrq = s.colIrq
      | .module => t.colIrq = s.colIrq ++ (if yes then [c.val] else []) ∧ t.msix = s.msix
    (∀ (d : MbxDir) (token : BitVec 16) (side : MbxSide),
      let lock := mbxLock c.val d
      let held := mbxHeld s c.val d
      (side ≠ mbxSender d →
        Runs (.mbxLockClaim c d token side) s (fun t => ignored t c.val) ∧
        Runs (.mbxLockRelease c d token side) s (fun t => ignored t c.val)) ∧
      (side = mbxSender d →
        (token ≠ 0 → held = false →
          Runs (.mbxLockClaim c d token side) s fun t =>
            mbxHeld t c.val d = true ∧ fget t lock F.MBX_H2M_LOCK_TOKEN = token.toNat ∧ RegsOnly s t ∧ RegsKept s t [lock]) ∧
        (token = 0 ∨ held = true → Runs (.mbxLockClaim c d token side) s fun t => t = s) ∧
        (held = true → fget s lock F.MBX_H2M_LOCK_TOKEN = token.toNat →
          Runs (.mbxLockRelease c d token side) s fun t =>
            mbxHeld t c.val d = false ∧ fget t lock F.MBX_H2M_LOCK_TOKEN = 0 ∧ RegsOnly s t ∧ RegsKept s t [lock]) ∧
        (held = false ∨ fget s lock F.MBX_H2M_LOCK_TOKEN ≠ token.toNat →
          Runs (.mbxLockRelease c d token side) s fun t => t = s))) ∧
    (∀ (d : MbxDir) (n : BitVec 4) (side : MbxSide),
      let ctrl := mbxCtrl c.val d
      (side ≠ mbxSender d ∨ mbxFull s c.val d = true ∨ mbxHeld s c.val d = false →
        Runs (.post c d n side) s fun t => ignored t c.val) ∧
      (side = mbxSender d → mbxFull s c.val d = false → mbxHeld s c.val d = true →
        Runs (.post c d n side) s fun t =>
          mbxFull t c.val d = true ∧ fget t ctrl F.MBX_H2M_CTRL_COUNT_M1 = n.toNat ∧
          rget t (dbReg c.val (mbxReceiver d)) = rget s (dbReg c.val (mbxReceiver d)) ||| 1 ∧
          RegsKept s t [ctrl, dbReg c.val (mbxReceiver d)] ∧
          t = { s with regs := t.regs, mbx := t.mbx, msix := t.msix, colIrq := t.colIrq }) ∧
      (side ≠ mbxReceiver d → Runs (.ack c d side) s fun t => ignored t c.val) ∧
      (side = mbxReceiver d → mbxFull s c.val d = false → Runs (.ack c d side) s fun t => t = s) ∧
      (side = mbxReceiver d → mbxFull s c.val d = true →
        Runs (.ack c d side) s fun t =>
          mbxFull t c.val d = false ∧ mbxHeld t c.val d = false ∧
          fget t (Reg.MBX_STATUS c.val) F.MBX_STATUS_CROSSED = 0 ∧
          rget t (dbReg c.val (mbxSender d)) = rget s (dbReg c.val (mbxSender d)) ||| 2 ∧
          RegsKept s t [ctrl, mbxLock c.val d, Reg.MBX_STATUS c.val, dbReg c.val (mbxSender d)] ∧
          t = { s with regs := t.regs, mbx := t.mbx, msix := t.msix, colIrq := t.colIrq })) ∧
    (∀ (k : Fin 8) (ws : List Word) (n : BitVec 4),
      let ch := 56 + k.val
      (mbxHeld s ch .h2m = true ∨ mbxFull s ch .h2m = true → Runs (.peerPost k ws n) s fun t => ignored t ch) ∧
      (mbxHeld s ch .h2m = false → mbxFull s ch .h2m = false →
        Runs (.peerPost k ws n) s fun t =>
          mbxHeld t ch .h2m = true ∧ fget t (mbxLock ch .h2m) F.MBX_H2M_LOCK_TOKEN = 0xFFFF ∧ mbxFull t ch .h2m = true ∧
          fget t (mbxCtrl ch .h2m) F.MBX_H2M_CTRL_COUNT_M1 = n.toNat ∧
          (∀ i, i < 16 → rget t (mbxData ch .h2m i) = ws.getD i 0) ∧ fbit t (dbReg ch .module) ⟨0, 0⟩ = true)) ∧
    (∀ (dst : MbxSide) (w : Word),
      let reg := dbReg c.val dst
      let mask := dbMask c.val dst
      let up := w &&& 0xFFFFFFF8#32
      (Runs (.doorbellSet c dst w) s fun t =>
        rget t reg = rget s reg ||| up ∧ RegsKept s t [reg] ∧ told t dst (decide (up &&& ~~~ rget s reg &&& rget s mask ≠ 0)) ∧
        t = { s with regs := t.regs, msix := t.msix, colIrq := t.colIrq }) ∧
      (Runs (.doorbellClear c dst w) s fun t => rget t reg = rget s reg &&& ~~~ w ∧ RegsOnly s t ∧ RegsKept s t [reg]) ∧
      (Runs (.doorbellMaskWrite c dst w) s fun t =>
        rget t mask = w ∧ RegsKept s t [mask] ∧ told t dst (decide (w &&& ~~~ rget s mask &&& rget s reg ≠ 0)) ∧
        t = { s with regs := t.regs, msix := t.msix, colIrq := t.colIrq })) ∧
    (mbxFull s c.val .h2m = true → mbxFull s c.val .m2h = true → fbit s (Reg.MBX_STATUS c.val) F.MBX_STATUS_CROSSED = false →
      Runs (.mbxCrossed c) s fun t =>
        fget t (Reg.MBX_STATUS c.val) F.MBX_STATUS_CROSSED = 1 ∧
        (∀ z, rget t (dbReg c.val z) = rget s (dbReg c.val z) ||| 4) ∧
        ∃ r, t.logQueue = s.logQueue ++ [r] ∧ r.severity = 4) ∧
    (∀ k : Fin 8,
      Runs (.mbxSessionTimeout k) s fun t =>
        (getMbx t k.val).session = none ∧ fget t (Reg.MBX_STATUS k.val) F.MBX_STATUS_SESSION = 0 ∧
        t = { s with regs := t.regs, mbx := t.mbx } ∧ RegsKept s t [Reg.MBX_STATUS k.val]) ∧
    (∀ cr, odServing s = false ∨ mbxFull s c.val .h2m = false → Runs (.mbxRequest c cr) s fun t => t = s) ∧
    (∀ cr (tag total : Nat),
      let m := getMbx s c.val
      let n := fget s (Reg.MBX_H2M_CTRL c.val) F.MBX_H2M_CTRL_COUNT_M1
      let bytes := ((List.range n).flatMap fun i => leBytes 4 (rget s (Reg.MBX_H2M_DATA c.val (i + 1))).toNat).take total
      let type := leAt bytes 0 1
      let seq := leAt bytes 4 4
      let kept := fun (t : State) (reply : List Byte) =>
        mbxFull t c.val .h2m = false ∧ mbxHeld t c.val .h2m = false ∧
        (getMbx t c.val).replies.head?.map (fun r => (r.1, r.2.2)) = some (tag, bytes, reply)
      let echo := message 0x31 0 (bytes.drop 8)
      odServing s = true → mbxFull s c.val .h2m = true → tag < 256 → 8 ≤ total → (total + 3) / 4 = n →
      rget s (Reg.MBX_H2M_DATA c.val 0) = BitVec.ofNat 32 (0xC0000000 + tag * 65536 + total) →
      m.parts = none → m.discard = false → m.waiting = [] → (∀ r ∈ m.replies, r.1 ≠ tag) →
      (8 ≤ c.val → (∀ p, chanPart c.val = some p → partState s p = 2) → type = 0x30 →
        mbxHeld s c.val .m2h = false → mbxFull s c.val .m2h = false →
        Runs (.mbxRequest c cr) s fun t =>
          kept t echo ∧ mbxFull t c.val .m2h = true ∧
          rget t (mbxData c.val .m2h 0) = BitVec.ofNat 32 (0xC0000000 + tag * 65536 + total) ∧
          ∀ i, i < n → rget t (mbxData c.val .m2h (i + 1)) = BitVec.ofNat 32 (leAt echo (4 * i) 4)) ∧
      (c.val < 8 → m.session = none → type = 0x01 → total = 12 →
        Runs (.mbxRequest c cr) s fun t =>
          ∃ h, (getMbx t c.val).challenge = some h ∧ h.role = leAt bytes 8 1 ∧ h.part = leAt bytes 9 1 ∧
            (getMbx t c.val).session = none ∧ kept t (message 0x02 0 (challengeBody false h))) ∧
      (c.val < 8 → ∀ y, m.session = some y →
        (openSealed y bytes = none ∨ seq = 0 →
          Runs (.mbxRequest c cr) s fun t =>
            fget t (Reg.MBX_DROPPED_CNT c.val) F.MBX_DROPPED_CNT_COUNT =
              min (fget s (Reg.MBX_DROPPED_CNT c.val) F.MBX_DROPPED_CNT_COUNT + 1) 0xFFFFFFFF ∧
            (getMbx t c.val).replies = m.replies ∧ (getMbx t c.val).session = some y) ∧
        (∀ body, openSealed y bytes = some body → type = 0x30 → seq ≠ 0 → seq < 0xFFFFFFFF → y.high < seq + 32 →
          y.next < 0xFFFFFFFF → (∀ r ∈ y.stored, r.req ≠ seq) →
          Runs (.mbxRequest c cr) s fun t =>
            kept t (sealedMessage y y.next 0x31 body) ∧
            ∃ z, (getMbx t c.val).session = some z ∧ z.next = y.next + 1 ∧ z.high = max y.high seq)))

/-! ## Power (19) -/

/-- From R504, R506, R520, R525, R528, R530: power comes and goes. A loss of every rail but the always-on one leaves
the machine as after reset, but for flash, fuses, repairs and the always-on latch. Model readings and choices it rests
on: assumptions 3, 7, 69, 93. -/
def Obligations.PowerComesAndGoes : Prop :=
  ∀ (s : State),
    let lost := fun (t : State) (more : List Nat) =>
      t = { State.reset with
        collar := { State.reset.collar with
          flash := s.collar.flash, sigA := s.collar.sigA, sigB := s.collar.sigB, committed := s.collar.committed,
          trial := s.collar.trial, storeA := s.collar.storeA, storeB := s.collar.storeB },
        logFlash := s.logFlash, logSeq := t.logSeq, pprUsed := s.pprUsed, mapOut := s.mapOut, pinIn := s.pinIn,
        power := t.power, regs := t.regs, od := t.od, ticks := s.ticks, free := t.free, pending := s.pending } ∧
      RegsKept State.reset t (Reg.COL_FUSE :: Reg.PWR_STATUS :: more) ∧
      OdKept State.reset t (Od.PPR_ROWS_USED :: flashEntries) ∧ (∀ k ∈ flashEntries, oget t k = oget s k) ∧
      fget t Reg.PWR_STATUS F.PWR_STATUS_STAGE = 0 ∧ t.power.tack = false ∧ t.power.weaveOn = false
    let valid := fbit s Reg.PWR_STATUS F.PWR_STATUS_VIN_OK
    let begun := fun (t : State) (strap : Fin 16) =>
      t.power.started = true ∧ t.power.origin = s.ticks ∧ oget t Od.SLOT_STRAP = strap.val
    let braked := fun (t : State) (d : Nat) =>
      fbit t (Reg.PWR_CREDIT d) F.PWR_CREDIT_BRAKE = (fbit t (Reg.PWR_CREDIT d) F.PWR_CREDIT_THERMAL ||
        fbit t (Reg.PWR_CREDIT d) F.PWR_CREDIT_RAIL || fbit t (Reg.PWR_CREDIT d) F.PWR_CREDIT_INPUT ||
        fbit t (Reg.PWR_CREDIT d) F.PWR_CREDIT_VINWARN)
    (∀ strap,
      (valid = false →
        Runs (.vinValid strap) s fun t =>
          fget t Reg.PWR_STATUS F.PWR_STATUS_VIN_OK = 1 ∧ fget t Reg.CFG_STATUS F.CFG_STATUS_INIT_N_PULL = 1 ∧
          fget t Reg.CFG_STATUS F.CFG_STATUS_DONE_PULL = 1 ∧ (s.power.porstLow = false → begun t strap) ∧
          (s.power.porstLow = true → RegsOnly s t)) ∧
      (valid = true → Runs (.vinValid strap) s fun t => t = s) ∧
      (s.power.porstLow = true →
        Runs (.porstNRelease strap) s fun t =>
          t.power.porstLow = false ∧ (valid = true → begun t strap) ∧
          (valid = false → t = { s with power := { s.power with porstLow := false } })) ∧
      (s.power.porstLow = false → Runs (.porstNRelease strap) s fun t => t = s)) ∧
    (∀ deep, Runs (.vinLockout deep) s fun t =>
      lost t [Reg.CFG_STATUS] ∧ fget t Reg.PWR_STATUS F.PWR_STATUS_VIN_OK = 0 ∧
      fget t Reg.CFG_STATUS F.CFG_STATUS_INIT_N_PULL = 0 ∧ fget t Reg.CFG_STATUS F.CFG_STATUS_DONE_PULL = 0 ∧
      t.power.latch = if deep then 0 else s.power.latch) ∧
    (Runs .overcurrent s fun t =>
      lost t [] ∧ t.power.latch = (if s.power.latch = 0 then 3 else s.power.latch) ∧ t.power.resting = true) ∧
    (∀ ns,
      (ns < 1000 → Runs (.porst ns) s fun t => t = s) ∧
      (10000 ≤ ns → Runs (.porst ns) s fun t =>
        lost t [] ∧ t.power.porstLow = true ∧ t.power.latch = if s.power.latch = 0 then 1 else s.power.latch) ∧
      (1000 ≤ ns → ns < 10000 → Runs (.porst ns) s fun t =>
        t = { s with free := t.free } ∨ (lost t [] ∧ t.power.porstLow = true))) ∧
    (valid = true → fbit s Reg.PWR_STATUS F.PWR_STATUS_WARN = false →
      (leased s = false →
        Runs .vinWarn s fun t =>
          fget t Reg.PWR_STATUS F.PWR_STATUS_WARN = 1 ∧
          (∀ d, d < 4 → fget t (Reg.PWR_CREDIT d) F.PWR_CREDIT_VINWARN = 1 ∧ fget t (Reg.PWR_CREDIT d) F.PWR_CREDIT_BRAKE = 1) ∧
          t = { s with regs := t.regs, power := { s.power with warnAt := s.ticks } }) ∧
      (leased s = true → s.logQueue = [] → 0 < s.logFlash.used → s.logFlash.used < 1024 →
        Runs .vinWarn s fun t =>
          fget t Reg.PWR_STATUS F.PWR_STATUS_WARN = 1 ∧ t.alert = true ∧ t.logQueue = [] ∧
          (∀ d, d < 4 → fget t (Reg.PWR_CREDIT d) F.PWR_CREDIT_VINWARN = 1 ∧ fget t (Reg.PWR_CREDIT d) F.PWR_CREDIT_BRAKE = 1) ∧
          ∃ r, t.logFlash.records = s.logFlash.records ++ [(s.logFlash.head, r)] ∧ r.code = Code.BROWNOUT ∧
            r.severity = 6)) ∧
    (fbit s Reg.PWR_STATUS F.PWR_STATUS_WARN = true →
      Runs .vinRecover s fun t =>
        fget t Reg.PWR_STATUS F.PWR_STATUS_WARN = 0 ∧
        (∀ d, d < 4 → fget t (Reg.PWR_CREDIT d) F.PWR_CREDIT_VINWARN = 0 ∧ braked t d ∧
          fget t (Reg.PWR_CREDIT d) F.PWR_CREDIT_REFILL = fget s (Reg.PWR_CREDIT d) F.PWR_CREDIT_REFILL) ∧
        t = { s with regs := t.regs, logQueue := t.logQueue, logSeq := t.logSeq } ∧
        (leased s = true → ∃ r, t.logQueue = s.logQueue ++ [r] ∧ r.severity = 4))

/-- From R463, R519 to R524, R530: the stages of a start, and REFCLK. Model readings and choices it rests on:
assumption 68. -/
def Obligations.StagesOfAStartAreReached : Prop :=
  ∀ (s : State),
    let stage := fget s Reg.PWR_STATUS F.PWR_STATUS_STAGE
    let clock := fbit s Reg.PWR_STATUS F.PWR_STATUS_REFCLK_OK
    (s.power.refclkSeen = false →
      Runs .refclkArrival s fun t =>
        t = { s with power := { s.power with refclkSeen := true }, timeA := 0, timeB := 0, regs := t.regs } ∧
        fget t Reg.PWR_STATUS F.PWR_STATUS_REFCLK_OK = 1 ∧ RegsKept s t [Reg.PWR_STATUS]) ∧
    (s.power.refclkSeen = true → Runs .refclkArrival s fun t => t = s) ∧
    (clock = true →
      Runs .refclkLoss s fun t =>
        fget t Reg.PWR_STATUS F.PWR_STATUS_REFCLK_OK = 0 ∧ t = { s with regs := t.regs, ports := t.ports } ∧
        (∀ i, i < 16 → fbit s (Reg.SEAM_CTRL i) F.SEAM_CTRL_EN = true → portUp t i = false)) ∧
    (clock = false → Runs .refclkLoss s fun t => t = s) ∧
    (s.power.refclkSeen = true → s.power.refclkGone = false →
      (Runs .refclkReturn s fun t =>
        fget t Reg.PWR_STATUS F.PWR_STATUS_REFCLK_OK = 1 ∧ RegsOnly s t ∧ RegsKept s t [Reg.PWR_STATUS]) ∧
      (clock = false →
        Runs .refclkLost s fun t =>
          t.power.refclkGone = true ∧
          ∀ p, p < 16 → runState s p = 2 →
            runState t p = 3 ∧ oget t (Od.LAST_STOP p) = Code.REFCLK_LOST ∧
            ∃ r ∈ t.logQueue, r.code = Code.REFCLK_LOST ∧ r.partition = p ∧ r.severity = 6)) ∧
    (s.power.refclkGone = true → Runs .refclkReturn s fun t => t = s) ∧
    (s.power.started = true → s.power.tack = false →
      Runs .tack s fun t => t.power.tack = true ∧ fget t Reg.PWR_STATUS F.PWR_STATUS_STAGE = 0 ∧ oget t Od.START_STAGE = 0) ∧
    (s.power.started = false ∨ s.power.tack = true → Runs .tack s fun t => t = s) ∧
    (∀ okA okB f,
      (leased s = true → s.power.tack = true → stage = 0 → oget s Od.START_STAGE = 0 → clock = true →
        (Runs (.baste okA okB f) s fun t =>
          fget t Reg.PWR_STATUS F.PWR_STATUS_STAGE = 1 ∧ oget t Od.START_STAGE = 1 ∧ t.power.weaveOn = true ∧
          ∀ d, d < 4 →
            (f.dies.getLsbD d = false → fget t (Reg.PWR_VCORE d) F.PWR_VCORE_NOW = 750) ∧
            (f.dies.getLsbD d = true → dieOut t d = true) ∧ (f.hbms.getLsbD d = true → stackMappedOut t d = true)) ∧
        (okA = false → okB = false → oget s Od.START_FAULTS = 0 → s.power.latch ≠ 0 →
          Runs (.baste okA okB f) s fun t =>
            oget t Od.RESET_CAUSE = s.power.latch ∧ t.power.latch = 0 ∧ oget t Od.START_FAULTS / 0x100 = 1 ∧
            ∀ d, d < 4 →
              (f.dies.getLsbD d = true → fget t (Reg.PWR_VCORE d) F.PWR_VCORE_NOW = 0) ∧
              (f.hbms.getLsbD d = true → fget t (Reg.HBM_STATUS d) F.HBM_STATUS_UP = 0) ∧
              (f.hbms.getLsbD d = false → s.mapOut / 2 ^ d % 2 = 0 → fget t (Reg.HBM_STATUS d) F.HBM_STATUS_UP = 1))) ∧
      (leased s = false ∨ s.power.tack = false ∨ stage ≠ 0 ∨ clock = false → Runs (.baste okA okB f) s fun t => t = s)) ∧
    (∀ f m0 m1 m2 m3,
      let cool := ∀ part, part < 9 → hottest s part < oget s Od.THERM_SLOW * 16
      (leased s = true → stage = 1 → cool →
        Runs (.fit f m0 m1 m2 m3) s fun t =>
          fget t Reg.PWR_STATUS F.PWR_STATUS_STAGE = 2 ∧ oget t Od.START_STAGE = 2 ∧
          fget t Reg.CFG_STATUS F.CFG_STATUS_INIT_N_PULL = 0 ∧ fget t Reg.SNS_VIN F.SNS_TEMP_VALID = 1 ∧
          (∀ x ∈ [(0, m0), (1, m1), (2, m2), (3, m3)], dieOut s x.1 = false → f.dies.getLsbD x.1 = false →
            500 ≤ x.2.toNat → x.2.toNat ≤ 900 →
            fget t (Reg.PWR_VCORE x.1) F.PWR_VCORE_TARGET = x.2.toNat / 5 * 5) ∧
          (∀ d, d < 4 → f.dies.getLsbD d = true → dieOut t d = true) ∧
          (∀ c ∈ f.clusters, (getCl t c.idx).retired = true)) ∧
      (leased s = false ∨ stage ≠ 1 ∨ ¬ cool → Runs (.fit f m0 m1 m2 m3) s fun t => t = s))

/-- From R390, R506, R508, R510 to R512: rails, phases, refill rates and brakes. Model readings and choices it rests
on: assumptions 69, 70. -/
def Obligations.RailsCreditsAndBrakesFollowTheirRules : Prop :=
  ∀ (s : State),
    let cause := fun (t : State) (d : Nat) (f : Fld) => fget t (Reg.PWR_CREDIT d) f
    let braked := fun (t : State) (d : Nat) =>
      fbit t (Reg.PWR_CREDIT d) F.PWR_CREDIT_BRAKE = (fbit t (Reg.PWR_CREDIT d) F.PWR_CREDIT_THERMAL ||
        fbit t (Reg.PWR_CREDIT d) F.PWR_CREDIT_RAIL || fbit t (Reg.PWR_CREDIT d) F.PWR_CREDIT_INPUT ||
        fbit t (Reg.PWR_CREDIT d) F.PWR_CREDIT_VINWARN) ∧
      (fget t Reg.PWR_STATUS F.PWR_STATUS_BRAKE).testBit d = fbit t (Reg.PWR_CREDIT d) F.PWR_CREDIT_BRAKE
    let werr := fun (t : State) => fget t Reg.PWR_STATUS F.PWR_STATUS_WERR
    (∀ (d : Fin 4) (n : BitVec 16),
      let a := Reg.PWR_CREDIT d.val
      let top := min 8 (phasesLeft s d.val) * 1000
      Runs (.pwrCreditWrite d n) s fun t =>
        fget t a F.PWR_CREDIT_REFILL = max 64 (min n.toNat top) ∧
        (64 ≤ n.toNat → n.toNat ≤ top → RegsOnly s t ∧ RegsKept s t [a]) ∧
        (n.toNat < 64 ∨ (top < n.toNat ∧ n.toNat ≠ 64) → werr t = 1 ∧ RegsKept s t [a, Reg.PWR_STATUS])) ∧
    (∀ (d : Fin 5) (mv : BitVec 10),
      let a := Reg.PWR_VCORE d.val
      (500 ≤ mv.toNat → mv.toNat ≤ 900 →
        Runs (.pwrVcoreWrite d mv) s fun t =>
          fget t a F.PWR_VCORE_TARGET = mv.toNat / 5 * 5 ∧ RegsOnly s t ∧ RegsKept s t [a]) ∧
      (mv.toNat < 500 ∨ 900 < mv.toNat →
        Runs (.pwrVcoreWrite d mv) s fun t =>
          rget t a = rget s a ∧ werr t = 1 ∧ RegsKept s t [Reg.PWR_STATUS] ∧
          ∃ r, t.logQueue = s.logQueue ++ [r] ∧ r.code = Code.LIMIT_REFUSED)) ∧
    (∀ d : Fin 5,
      (0 < phasesLeft s d.val →
        Runs (.phaseDrop d) s fun t =>
          phasesLeft t d.val + 1 = phasesLeft s d.val ∧ 1 ≤ oget t Od.HEALTH ∧
          railLimit t d.val = min (if d = 4 then 4 else 8) (phasesLeft t d.val) * 25 ∧
          (d ≠ 4 → fget t (Reg.PWR_CREDIT d.val) F.PWR_CREDIT_REFILL ≤ max 64 (min 8 (phasesLeft t d.val) * 1000)) ∧
          (∀ e, e < 5 → e ≠ d.val → phasesLeft t e = phasesLeft s e)) ∧
      (phasesLeft s d.val = 0 → Runs (.phaseDrop d) s fun t => t = s)) ∧
    (∀ d : Fin 4,
      (Runs (.railOvercurrent d) s fun t =>
        cause t d.val F.PWR_CREDIT_RAIL = 1 ∧ cause t d.val F.PWR_CREDIT_BRAKE = 1 ∧ braked t d.val ∧ RegsOnly s t ∧
        RegsKept s t [Reg.PWR_CREDIT d.val, Reg.PWR_STATUS] ∧
        cause t d.val F.PWR_CREDIT_REFILL = cause s d.val F.PWR_CREDIT_REFILL) ∧
      (Runs (.brakeRelease (.rail d)) s fun t =>
        cause t d.val F.PWR_CREDIT_RAIL = 0 ∧ braked t d.val ∧ RegsOnly s t ∧
        RegsKept s t [Reg.PWR_CREDIT d.val, Reg.PWR_STATUS] ∧
        (∀ f ∈ [F.PWR_CREDIT_THERMAL, F.PWR_CREDIT_INPUT, F.PWR_CREDIT_VINWARN, F.PWR_CREDIT_REFILL],
          cause t d.val f = cause s d.val f))) ∧
    (∀ x ∈ [(Instr.inputOvercurrent, 1), (Instr.brakeRelease .input, 0)],
      Runs x.1 s fun t =>
        RegsOnly s t ∧ RegsKept s t (Reg.PWR_STATUS :: (List.range 4).map Reg.PWR_CREDIT) ∧
        ∀ d, d < 4 → cause t d F.PWR_CREDIT_INPUT = x.2 ∧ braked t d ∧
          ∀ f ∈ [F.PWR_CREDIT_THERMAL, F.PWR_CREDIT_RAIL, F.PWR_CREDIT_VINWARN, F.PWR_CREDIT_REFILL], cause t d f = cause s d f)

/-- From R513, R515 to R518: the power cap, thermal trips and shutdown, and idle domains. Model readings and choices
it rests on: assumptions 70, 71, 84. -/
def Obligations.CapTripsAndShutdownFollowTheirRules : Prop :=
  ∀ (s : State),
    let stage := fget s Reg.PWR_STATUS F.PWR_STATUS_STAGE
    let due := s.power.trips ≠ [] ∨ ∃ x, x < 9 ∧ 2000 ≤ hottest s x
    (leased s = true → stage ≠ 0 →
      let p := inputPower s
      let cap := oget s Od.POWER_CAP
      let last := (p :: s.power.powers).take 100
      Runs .powerCapLoop s fun t =>
        fget t Reg.PWR_HEADROOM F.PWR_HEADROOM_VALID = 1 ∧
        fget t Reg.PWR_HEADROOM F.PWR_HEADROOM_W = (cap + 0x10000 - p) % 0x10000 ∧
        oget t Od.POWER_NOW = min (last.sum / last.length) 0xFFFF ∧
        oget t Od.POWER_CAPPED = (if last.any fun q => decide (cap < q) then 1 else 0) ∧
        (cap < p → (∀ x, x < 9 → slowed s x = false ∧ hottest s x < slowAt s x) →
          ∀ d, d < 4 → refill t d = max 64 (min (max 64 (refill s d * cap / p)) (min 8 (phasesLeft s d) * 1000))) ∧
        (yokeLimited s = true → slowed s 4 = false → hottest s 4 < slowAt s 4 →
          495 ≤ fget s (Reg.PWR_VCORE 4) F.PWR_VCORE_TARGET → fget s (Reg.PWR_VCORE 4) F.PWR_VCORE_TARGET ≤ 895 →
          fget t (Reg.PWR_VCORE 4) F.PWR_VCORE_TARGET = (fget s (Reg.PWR_VCORE 4) F.PWR_VCORE_TARGET + 5) / 5 * 5)) ∧
    (leased s = false ∨ stage = 0 → Runs .powerCapLoop s fun t => t = s) ∧
    (∀ part : Fin 9,
      (1840 ≤ hottest s part.val → part.val ∉ s.power.trips →
        Runs (.thermalTrip part) s fun t =>
          t.power.trips = s.power.trips ++ [part.val] ∧ fget t Reg.PWR_STATUS F.PWR_STATUS_TRIP = 1 ∧
          oget t Od.THERMAL_TRIPS = min (oget s Od.THERMAL_TRIPS + 1) 0xFFFFFFFF ∧ t.alert = true ∧
          (∀ d, d < 4 → d = part.val ∨ 4 ≤ part.val →
            fget t (Reg.PWR_CREDIT d) F.PWR_CREDIT_THERMAL = 1 ∧ fget t (Reg.PWR_CREDIT d) F.PWR_CREDIT_BRAKE = 1) ∧
          ∃ r, t.logQueue = s.logQueue ++ [r] ∧ r.code = Code.THERMAL_TRIP ∧ r.severity = 6) ∧
      (hottest s part.val < 1840 ∨ part.val ∈ s.power.trips → Runs (.thermalTrip part) s fun t => t = s) ∧
      (hottest s part.val ≤ 1760 →
        Runs (.thermalTripClear part) s fun t =>
          t.power.trips = s.power.trips.filter (fun x => decide (x ≠ part.val)) ∧
          (t.power.trips = [] → fget t Reg.PWR_STATUS F.PWR_STATUS_TRIP = 0 ∧
            ∀ d, d < 4 → fget t (Reg.PWR_CREDIT d) F.PWR_CREDIT_THERMAL = 0) ∧
          t = { s with regs := t.regs, power := { s.power with trips := t.power.trips } }) ∧
      (1760 < hottest s part.val → Runs (.thermalTripClear part) s fun t => t = s)) ∧
    ((s.power.thermalDown = false → due →
        Runs .thermalShutdown s fun t =>
          t.power.thermalDown = true ∧ t.power.latch = 4 ∧ t.pinsHeld = true ∧ t.alert = true ∧
          (∃ r ∈ t.logQueue, r.code = Code.THERMAL_SHUTDOWN ∧ r.severity = 6) ∧
          ∀ p, p < 16 → partState s p ≠ 0 →
            partState t p = 4 ∧ runState t p = 4 ∧ oget t (Od.LAST_STOP p) = Code.THERMAL_SHUTDOWN) ∧
      (s.power.thermalDown = true ∨ ¬ due → Runs .thermalShutdown s fun t => t = s)) ∧
    (s.power.thermalDown = true → s.power.weaveOn = true →
      Runs .shutdownRailsOff s fun t =>
        t.power.weaveOn = false ∧ t.clusters = [] ∧ t.stages = [] ∧ t.wsched = [] ∧
        (∀ a, a < 0x004000000000 → memByte t a = 0) ∧
        (∀ a, 0x014000000000 ≤ a → memByte t a = memByte s a) ∧
        ∀ d, d < 4 → fget t (Reg.PWR_VCORE d) F.PWR_VCORE_NOW = 0) ∧
    (s.power.thermalDown = false ∨ s.power.weaveOn = false → Runs .shutdownRailsOff s fun t => t = s) ∧
    (∀ k : Fin 64,
      let wanted := leased s = true ∧ oget s Od.GATE_IDLE = 1 ∧ ∀ c ∈ blockClusters k.val, participating s c = false
      (wanted → domState s k.val = 0 ∨ domState s k.val = 4 → (∀ c ∈ blockClusters k.val, clRun s c = false) →
        Runs (.blockIdleGate k) s fun t =>
          fget t (Reg.NOC_DOM k.val) F.NOC_DOM_SLEEP = 1 ∧ domState t k.val = 1 ∧ RegsOnly s t ∧
          RegsKept s t [Reg.NOC_DOM k.val]) ∧
      (¬ wanted → Runs (.blockIdleGate k) s fun t => t = s))

/-- From R98 to R101, R513, R514, R517, R518: rate meters, delay monitors, and the loop that sets a Weave rail. Model
readings and choices it rests on: assumptions 72, 84, 87. -/
def Obligations.RateControlFollowsItsOrder : Prop :=
  ∀ (s : State) (d : Fin 4),
    let x := getDie s d.val
    let a := Reg.PWR_VCORE d.val
    (Runs (.rateMeterWindow d) s fun t =>
      fget t (Reg.PWR_CREDIT_MW d.val) F.PWR_CREDIT_MW_MW = min (x.spent / 100000) 0xFFFFFFFF ∧
      getDie t d.val = { x with meter := if dieRuns s d.val then lowestCount s d.val else none, spent := 0 } ∧ DiesKept s t d.val ∧
      t = { s with regs := t.regs, dies := t.dies } ∧
      RegsKept s t [Reg.PWR_CREDIT_MW d.val, Reg.BP_RATE_METER d.val] ∧
      ∀ old new, x.meter = some old → dieRuns s d.val = true → lowestCount s d.val = some new →
        fget t (Reg.BP_RATE_METER d.val) F.BP_RATE_METER_VALID = 1 ∧
        fget t (Reg.BP_RATE_METER d.val) F.BP_RATE_METER_RATE = min ((new - old) / 1000) 0xFFFF) ∧
    (∀ (e : Fin 5) (m : Fin 32) (ps : BitVec 16),
      (∀ r, monitorReg e.val m.val = some r →
        (fbit s r F.SNS_DLYMON_CAL = false →
          Runs (.delayMonitorSample e m ps) s fun t =>
            fget t r F.SNS_DLYMON_TSTITCH = ps.toNat ∧ RegsOnly s t ∧ RegsKept s t [r]) ∧
        (fbit s r F.SNS_DLYMON_CAL = true → Runs (.delayMonitorSample e m ps) s fun t => t = s)) ∧
      (monitorReg e.val m.val = none → Runs (.delayMonitorSample e m ps) s fun t => t = s)) ∧
    (leased s = false ∨ dieOut s d.val = true ∨ fget s Reg.PWR_STATUS F.PWR_STATUS_STAGE < 2 →
      Runs (.rateControlLoop d) s fun t => t = s) ∧
    (leased s = true → dieOut s d.val = false → 2 ≤ fget s Reg.PWR_STATUS F.PWR_STATUS_STAGE →
      let rated := fun (t : State) => oget t Od.RATE_INTRINSIC =
        ((((List.range 4).filter fun e => !dieOut s e).map (predictedRate s)).min?).getD 0
      (dieRuns s d.val = false → s.power.ran.contains d.val = false →
        Runs (.rateControlLoop d) s fun t => t.regs = s.regs ∧ rated t) ∧
      (s.power.ran.contains d.val = true → dieCarved s d.val = false →
        Runs (.rateControlLoop d) s fun t => fget t a F.PWR_VCORE_TARGET = 600 ∧ RegsKept s t [a] ∧ rated t) ∧
      ∀ k, dieRuns s d.val = true ∨ s.power.ran.contains d.val = true → dieCarved s d.val = true →
        fget s a F.PWR_VCORE_TARGET = 5 * k → 100 ≤ k → k ≤ 180 →
        let p := predictedRate s d.val
        let goal := oget s Od.RATE_TARGET
        let up := oget s Od.RATE_POLICY = 1 ∨ p < goal
        let moves := fun (n : Nat) =>
          Runs (.rateControlLoop d) s fun t => fget t a F.PWR_VCORE_TARGET = 5 * n ∧ RegsKept s t [a, Reg.PCI_EVENT] ∧ rated t
        (slowed s d.val = true ∨ headroomBelow s = true ∨ creditStalled s d.val = true → moves (max 100 (k - 1))) ∧
        (slowed s d.val = false → headroomBelow s = false → creditStalled s d.val = false →
          (up → headroomNone s = false → k < 180 → moves (k + 1)) ∧
          (up → headroomNone s = true ∨ k = 180 → moves k) ∧
          (¬ up → oget s Od.RATE_POLICY = 0 → goal * 103 < p * 100 → moves (max 100 (k - 1))) ∧
          (¬ up → oget s Od.RATE_POLICY ≠ 0 ∨ p * 100 ≤ goal * 103 → moves k)))

/-! ## Registers (01, and the register tables) -/

/-- From R5 to R8, R33, R399, R482, R496: register reads that clear or capture, writes by the Access codes, writes
that are refused, and accesses to a block that does not answer. Model readings and choices it rests on: assumptions
62, 74, 88. -/
def Obligations.RegistersAreReadAndWritten : Prop :=
  ∀ (s : State) (a : BitVec 49) (v : Word) (src : RegBy) (x : RegSide),
    let n := a.toNat
    let admitted := ∀ k, src = .col k → holder s = some k.val
    (blockAsleep s n = true →
      ∀ i ∈ [Instr.rcRead a src, Instr.loCaptureRead a src],
        Runs i s fun t => t = { s with result := Code.DOMAIN_ASLEEP, reply := [0xFF, 0xFF, 0xFF, 0xFF] }) ∧
    (blockAsleep s n = true → admitted →
      Runs (.registerWrite a v src x) s fun t => t = { s with result := Code.DOMAIN_ASLEEP }) ∧
    (∀ c, c < 64 → n = Reg.MBX_IGNORED_CNT c ∨ n = Reg.MBX_DROPPED_CNT c →
      Runs (.rcRead a src) s fun t =>
        rget t n = 0 ∧ RegsKept s t [n] ∧ t = { s with regs := t.regs, result := 0, reply := leBytes 4 (rget s n).toNat }) ∧
    (∀ d p, d < 4 → p < 16 → n = Reg.BP_ECYCLE_LO d p → blockAsleep s n = false →
      Runs (.loCaptureRead a src) s fun t =>
        t = { s with hiCap := t.hiCap, result := 0, reply := leBytes 4 (getPart s p).completed } ∧
        readHi t (n + 4) = BitVec.ofNat 32 ((getPart s p).completed / 2 ^ 32) ∧
        ∀ h : BitVec 49, h.toNat = n + 4 → blockAsleep t (n + 4) = false →
          Runs (.rcRead h src) t fun u => u = { t with reply := leBytes 4 ((getPart s p).completed / 2 ^ 32) }) ∧
    (∀ k, src = .col k → holder s ≠ some k.val → n ≠ Reg.COL_SELF →
      Runs (.registerWrite a v src x) s fun t =>
        t.result = Code.ACCESS_DENIED ∧ RegsKept s t [Reg.COL_REFUSED_CNT] ∧
        fget t Reg.COL_REFUSED_CNT F.COL_REFUSED_CNT_COUNT =
          min (fget s Reg.COL_REFUSED_CNT F.COL_REFUSED_CNT_COUNT + 1) 0xFFFFFFFF ∧
        t.od = s.od ∧ t.mem = s.mem ∧ t.parts = s.parts) ∧
    (admitted → n = Reg.PCI_EVENT →
      Runs (.registerWrite a v src x) s fun t =>
        rget t n = rget s n &&& ~~~ (v &&& 0xF0000000#32) ∧ RegsKept s t [n] ∧
        t = { s with regs := t.regs, result := 0 }) ∧
    (∀ c, c < 64 → admitted → n = Reg.MBX_VEC c →
      (chanFn c = 0 ∨ fldGet v F.MBX_VEC_VEC ≤ 15 →
        Runs (.registerWrite a v src x) s fun t =>
          fget t n F.MBX_VEC_VEC = fldGet v F.MBX_VEC_VEC ∧ RegsKept s t [n] ∧ t = { s with regs := t.regs, result := 0 }) ∧
      (chanFn c ≠ 0 → 15 < fldGet v F.MBX_VEC_VEC →
        Runs (.registerWrite a v src x) s fun t => t = { s with result := 0 })) ∧
    (∀ c i, c < 64 → i < 16 → n = Reg.MBX_H2M_DATA c i → (∀ k, src ≠ .col k) →
      mbxFull s c .h2m = false → mbxHeld s c .h2m = true →
      Runs (.registerWrite a v src x) s fun t =>
        rget t n = v ∧ RegsKept s t [n] ∧ t = { s with regs := t.regs, result := 0 }) ∧
    (∀ k, src = .col k → n = Reg.COL_SELF → fldGet v F.COL_SELF_RENEW = 0 →
      Runs (.registerWrite a v src x) s fun t =>
        getCtl t k.val = { getCtl s k.val with
          request := decide (fldGet v F.COL_SELF_REQUEST = 1), ready := decide (fldGet v F.COL_SELF_READY = 1) } ∧
        t.regs = s.regs)

/-! ## The whole machine -/

/-- From The model's own choice (assumption 1, DESIGN CHOICE): with no command waiting, a step is one REFCLK period;
the time counters advance by INC (R463) while REFCLK is present. Model readings and choices it rests on: assumptions
1, 90, 92. -/
def Obligations.IdlePeriodsFollowTheClock : Prop :=
  ∀ (s : State), s.pending = [] →
    let clock := fbit s Reg.PWR_STATUS F.PWR_STATUS_REFCLK_OK
    (∃ t, step s = .next t ∧ (s.power.closing = false → t.ticks = s.ticks + 1)) ∧
    (s.power.closing = false → clock = true → s.mirrorWait = [] → s.time.slewA = 0 → s.time.slewB = 0 →
      ∃ t, step s = .next t ∧ t.pending = [] ∧
        t.timeA = (s.timeA + (rget s (incReg .a)).toNat) % ctrModulus ∧
        t.timeB = (s.timeB + (rget s (incReg .b)).toNat) % ctrModulus) ∧
    (s.power.closing = false → clock = false → s.mirrorWait = [] → s.hem.fifo = [] → (getEth s 0).queue = [] →
      (getEth s 1).queue = [] → (∀ c, c < 64 → (getMbx s c).waiting = []) →
      ∃ t, step s = .next t ∧
        t = { s with ticks := s.ticks + 1, hem := { s.hem with port := t.hem.port }, regs := t.regs } ∧
        RegsKept s t [Reg.HEM_STATUS] ∧
        (hemPortOn s = false → t.hem.port.d = 0 ∧ t.hem.port.clk = false ∧ t.hem.port.lit = 0))

/-- From R38, R45, R46, R57, R59, R65, R68, R72: every BP instruction, with every operand at every value, is what its
encoding decodes to; and a slot word that is not illegal is the encoding of what it decodes to. -/
def Obligations.InstructionWordsRoundTrip : Prop :=
  (∀ i : BpInstr, decodeBp (encodeBp i) = i) ∧ (∀ w : Slot, slotIllegal w = false → encodeBp (decodeBp w) = w)

/-- The addressed memory stays in its canonical form: from every state in that form, and every command at the front of
the queue or none, a step that answers a next state leaves it in that form. Model readings and choices it rests on:
assumption 3. -/
def Obligations.MemoryKeepsItsForm : Prop :=
  ∀ (s t : State), memoryWf s → step s = .next t → memoryWf t

/-- The addressed memory is in its canonical form at reset, and lists nothing. Model readings and choices it rests on:
assumption 3. -/
def Obligations.MemoryIsInFormAtReset : Prop := memoryWf State.reset ∧ State.reset.mem = []

/-- Reset values that the register tables and the dictionary give, and what holds after reset: no partition exists, no
lease is held, no command waits. Model readings and choices it rests on: assumptions 1, 7. -/
def Obligations.ResetLeavesWhatTheSpecGives : Prop :=
  let s := State.reset
  s.pending = [] ∧ leased s = false ∧ fget s Reg.PWR_STATUS F.PWR_STATUS_STAGE = 0 ∧
  fget s Reg.PWR_STATUS F.PWR_STATUS_REFCLK_OK = 0 ∧ fget s Reg.NOC_TIMEOUT F.NOC_TIMEOUT_US = 1000 ∧
  (∀ d, d < 5 → fget s (Reg.PWR_VCORE d) F.PWR_VCORE_TARGET = 750) ∧
  (∀ d, d < 4 → fget s (Reg.PWR_CREDIT d) F.PWR_CREDIT_REFILL = 1000) ∧
  (∀ p, p < 16 → partState s p = 0) ∧ oget s Od.POWER_CAP = 700 ∧ oget s Od.CREDIT_REFILL = 1000 ∧
  oget s Od.THERM_SLOW = 100 ∧ oget s Od.COL_HOLDER = 255 ∧
  (∀ c, c < 64 → ∀ d, mbxFull s c d = false ∧ mbxHeld s c d = false) ∧ (∀ q, q < 1024 → qState s q = 0)

end
end

