-- ==== Sys2Proof/Laws/Sparse.lean ====
section
/-! SUPPORT. The laws of sparse maps: reading what was written, what a write leaves alone, and the canonical form. -/

namespace Sys2Proof.Machine

variable {α : Type}

@[simp] theorem sget_nil (d : Nat → α) (k : Nat) : sget d [] k = d k := rfl

theorem sget_cons (d : Nat → α) (j : Nat) (v : α) (m : SMap α) (k : Nat) :
    sget d ((j, v) :: m) k = if j = k then v else sget d m k := rfl

/-- A filter that keeps every entry of key `k` leaves `k`'s value alone. -/
theorem sget_filter_keep (d : Nat → α) (m : SMap α) (k : Nat) (p : Nat × α → Bool)
    (h : ∀ v, p (k, v) = true) : sget d (m.filter p) k = sget d m k := by
  induction m with
  | nil => rfl
  | cons e m ih =>
    obtain ⟨j, v⟩ := e
    by_cases hj : j = k
    · subst hj; simp [h, sget_cons]
    · cases hp : p (j, v) <;> simp [hp, sget_cons, hj, ih]

/-- A filter that drops every entry of key `k` makes it read its default. -/
theorem sget_filter_drop (d : Nat → α) (m : SMap α) (k : Nat) (p : Nat × α → Bool)
    (h : ∀ v, p (k, v) = false) : sget d (m.filter p) k = d k := by
  induction m with
  | nil => rfl
  | cons e m ih =>
    obtain ⟨j, v⟩ := e
    by_cases hj : j = k
    · subst hj; simp [h, ih]
    · cases hp : p (j, v) <;> simp [hp, sget_cons, hj, ih]

/-- An inserted entry is read where no other entry has its key. -/
theorem sget_sinsert_same (d : Nat → α) (m : SMap α) (k : Nat) (v : α) (h : ∀ e ∈ m, e.1 ≠ k) :
    sget d (sinsert m k v) k = v := by
  induction m with
  | nil => simp [sinsert, sget_cons]
  | cons e m ih =>
    obtain ⟨j, w⟩ := e
    have hj : j ≠ k := h (j, w) (by simp)
    unfold sinsert
    split
    · simp [sget_cons]
    · simp [sget_cons, hj, ih fun e he => h e (by simp [he])]

/-- Inserting an entry leaves every other key alone. -/
theorem sget_sinsert_ne (d : Nat → α) (m : SMap α) (k j : Nat) (v : α) (h : k ≠ j) :
    sget d (sinsert m k v) j = sget d m j := by
  induction m with
  | nil => simp [sinsert, sget_cons, h]
  | cons e m ih =>
    obtain ⟨i, w⟩ := e
    unfold sinsert
    split
    · simp [sget_cons, h]
    · simp [sget_cons, ih]

variable [DecidableEq α]

/-- Reading a key that was just written gives the value written, whatever the map. -/
@[simp] theorem sget_sset_same (d : Nat → α) (m : SMap α) (k : Nat) (v : α) :
    sget d (sset d m k v) k = v := by
  simp only [sset]
  split
  · rename_i h
    rw [sget_filter_drop]
    · exact h.symm
    · simp
  · exact sget_sinsert_same d _ k v (by simp)

/-- A write leaves every other key alone. -/
theorem sget_sset_ne (d : Nat → α) (m : SMap α) (k j : Nat) (v : α) (h : k ≠ j) :
    sget d (sset d m k v) j = sget d m j := by
  have hf : sget d (m.filter fun e => decide (e.1 ≠ k)) j = sget d m j :=
    sget_filter_keep d m j _ (by simp [Ne.symm h])
  simp only [sset]
  split
  · exact hf
  · rw [sget_sinsert_ne d _ k j v h, hf]

/-- Reading a key after a write. -/
theorem sget_sset (d : Nat → α) (m : SMap α) (k j : Nat) (v : α) :
    sget d (sset d m k v) j = if k = j then v else sget d m j := by
  by_cases h : k = j
  · subst h; simp
  · simp [h, sget_sset_ne d m k j v h]

omit [DecidableEq α] in
/-- Clearing a range makes every key in it read its default and leaves the rest alone. -/
theorem sget_sclear (d : Nat → α) (m : SMap α) (lo hi k : Nat) :
    sget d (sclear m lo hi) k = if lo ≤ k ∧ k < hi then d k else sget d m k := by
  unfold sclear
  split
  · exact sget_filter_drop d m k _ (by simp; omega)
  · exact sget_filter_keep d m k _ (by simp; omega)

/-! ## The canonical form -/

/-- A lower bound may be lowered. -/
theorem swfFrom_mono (d : Nat → α) {lo lo' : Nat} (m : SMap α) (hl : lo' ≤ lo) (h : swfFrom d lo m = true) :
    swfFrom d lo' m = true := by
  cases m with
  | nil => rfl
  | cons e m =>
    obtain ⟨j, v⟩ := e
    simp only [swfFrom, Bool.and_eq_true, decide_eq_true_eq] at h ⊢
    exact ⟨⟨by omega, h.1.2⟩, h.2⟩

/-- Dropping entries keeps the canonical form. -/
theorem swfFrom_filter (d : Nat → α) (lo : Nat) (m : SMap α) (p : Nat × α → Bool) (h : swfFrom d lo m = true) :
    swfFrom d lo (m.filter p) = true := by
  induction m generalizing lo with
  | nil => rfl
  | cons e m ih =>
    obtain ⟨j, v⟩ := e
    simp only [swfFrom, Bool.and_eq_true, decide_eq_true_eq] at h
    cases hp : p (j, v)
    · simp only [List.filter_cons, hp]
      exact swfFrom_mono d _ (by omega) (ih (j + 1) h.2)
    · simp only [List.filter_cons, hp]
      simp [swfFrom, h.1.1, h.1.2, ih (j + 1) h.2]

/-- Inserting a value other than the default, at a key no entry has, keeps the canonical form. -/
theorem swfFrom_sinsert (d : Nat → α) (lo : Nat) (m : SMap α) (k : Nat) (v : α) (h : swfFrom d lo m = true)
    (hk : lo ≤ k) (hv : v ≠ d k) (hn : ∀ e ∈ m, e.1 ≠ k) : swfFrom d lo (sinsert m k v) = true := by
  induction m generalizing lo with
  | nil => simp [sinsert, swfFrom, hk, hv]
  | cons e m ih =>
    obtain ⟨j, w⟩ := e
    have hj : j ≠ k := hn (j, w) (by simp)
    simp only [swfFrom, Bool.and_eq_true, decide_eq_true_eq] at h
    unfold sinsert
    split
    · rename_i hkj
      simp only [swfFrom, Bool.and_eq_true, decide_eq_true_eq]
      exact ⟨⟨hk, hv⟩, ⟨by omega, h.1.2⟩, h.2⟩
    · simp only [swfFrom, Bool.and_eq_true, decide_eq_true_eq]
      exact ⟨h.1, ih (j + 1) h.2 (by omega) fun e he => hn e (by simp [he])⟩

/-- A write keeps the canonical form. -/
theorem swf_sset (d : Nat → α) (m : SMap α) (k : Nat) (v : α) (h : swf d m = true) : swf d (sset d m k v) = true := by
  have hf := swfFrom_filter d 0 m (fun e => decide (e.1 ≠ k)) h
  simp only [sset]
  split
  · exact hf
  · rename_i hv
    exact swfFrom_sinsert d 0 _ k v hf (Nat.zero_le k) hv (by simp)

/-- Clearing a range keeps the canonical form. -/
theorem swf_sclear (d : Nat → α) (m : SMap α) (lo hi : Nat) (h : swf d m = true) : swf d (sclear m lo hi) = true :=
  swfFrom_filter d 0 m _ h

/-! ## Bytes in a sparse map -/

/-- Storing a number keeps the canonical form. -/
theorem swf_swriteLE (d : Nat → Byte) (m : SMap Byte) (a n v : Nat) (h : swf d m = true) :
    swf d (swriteLE d m a n v) = true := by
  induction n generalizing m a v with
  | zero => exact h
  | succ n ih => exact ih _ _ _ (swf_sset d m a _ h)

/-- Storing bytes keeps the canonical form. -/
theorem swf_swriteBytes (d : Nat → Byte) (m : SMap Byte) (a : Nat) (bs : List Byte) (h : swf d m = true) :
    swf d (swriteBytes d m a bs) = true := by
  induction bs generalizing m a with
  | nil => exact h
  | cons b bs ih => exact ih _ _ (swf_sset d m a _ h)

/-- A store of `n` bytes leaves every byte outside them alone. -/
theorem sget_swriteLE_out (d : Nat → Byte) (m : SMap Byte) (a n v k : Nat) (h : k < a ∨ a + n ≤ k) :
    sget d (swriteLE d m a n v) k = sget d m k := by
  induction n generalizing m a v with
  | zero => rfl
  | succ n ih =>
    rw [swriteLE, ih _ _ _ (by omega), sget_sset_ne d m a k _ (by omega)]

/-- A store of bytes leaves every byte outside them alone. -/
theorem sget_swriteBytes_out (d : Nat → Byte) (m : SMap Byte) (a : Nat) (bs : List Byte) (k : Nat)
    (h : k < a ∨ a + bs.length ≤ k) : sget d (swriteBytes d m a bs) k = sget d m k := by
  induction bs generalizing m a with
  | nil => rfl
  | cons b bs ih =>
    simp only [List.length_cons] at h
    rw [swriteBytes, ih _ _ (by omega), sget_sset_ne d m a k _ (by omega)]

/-- A number's bytes depend on the bytes of its own addresses only. -/
theorem sreadLE_congr (d : Nat → Byte) (m m' : SMap Byte) (a n : Nat)
    (h : ∀ k, a ≤ k → k < a + n → sget d m k = sget d m' k) : sreadLE d m a n = sreadLE d m' a n := by
  induction n generalizing a with
  | zero => rfl
  | succ n ih =>
    simp only [sreadLE]
    rw [h a (by omega) (by omega), ih (a + 1) fun k h1 h2 => h k (by omega) (by omega)]

/-- Reading back what was stored gives its value modulo the width stored. -/
theorem sreadLE_swriteLE_same (d : Nat → Byte) (m : SMap Byte) (a n v : Nat) :
    sreadLE d (swriteLE d m a n v) a n = v % 256 ^ n := by
  induction n generalizing m a v with
  | zero => simp [sreadLE, Nat.mod_one]
  | succ n ih =>
    simp only [sreadLE, swriteLE]
    rw [ih, sget_swriteLE_out d _ (a + 1) n (v / 256) a (by omega), sget_sset_same]
    rw [BitVec.toNat_ofNat, show 256 ^ (n + 1) = 256 * 256 ^ n from pow_succ' 256 n, Nat.mod_mul]

/-- Reading a number apart from the bytes stored gives what it gave before. -/
theorem sreadLE_swriteLE_out (d : Nat → Byte) (m : SMap Byte) (a n v b k : Nat) (h : b + k ≤ a ∨ a + n ≤ b) :
    sreadLE d (swriteLE d m a n v) b k = sreadLE d m b k :=
  sreadLE_congr d _ _ b k fun j h1 h2 => sget_swriteLE_out d m a n v j (by omega)

/-- Reading a number apart from the bytes stored gives what it gave before. -/
theorem sreadLE_swriteBytes_out (d : Nat → Byte) (m : SMap Byte) (a : Nat) (bs : List Byte) (b k : Nat)
    (h : b + k ≤ a ∨ a + bs.length ≤ b) : sreadLE d (swriteBytes d m a bs) b k = sreadLE d m b k :=
  sreadLE_congr d _ _ b k fun j h1 h2 => sget_swriteBytes_out d m a bs j (by omega)

/-- Reading back bytes that were stored gives them. -/
theorem sreadBytes_swriteBytes_same (d : Nat → Byte) (m : SMap Byte) (a : Nat) (bs : List Byte) :
    sreadBytes d (swriteBytes d m a bs) a bs.length = bs := by
  induction bs generalizing m a with
  | nil => rfl
  | cons b bs ih =>
    simp only [List.length_cons, sreadBytes, swriteBytes]
    rw [ih, sget_swriteBytes_out d _ (a + 1) bs a (by omega), sget_sset_same]

end Sys2Proof.Machine
end

