-- ==== Sys2Proof/Laws/Fields.lean ====
section
/-! SUPPORT. The laws of register fields: a field reads what was set in it, and setting it leaves every other field alone. -/

namespace Sys2Proof.Machine

/-- The bits of a word with a field set. -/
theorem fldSet_getLsbD (w : Word) (f : Fld) (v i : Nat) (hi : i < 32) :
    (fldSet w f v).getLsbD i = if f.lo ≤ i ∧ i ≤ f.hi then v.testBit (i - f.lo) else w.getLsbD i := by
  have hm : (fldMask f).getLsbD i = decide (f.lo ≤ i ∧ i ≤ f.hi) := by
    simp only [fldMask, BitVec.getLsbD_ofNat, hi, decide_true, Bool.true_and, Nat.testBit_shiftLeft, Nat.testBit_two_pow_sub_one]
    by_cases h : f.lo ≤ i <;> simp [h] <;> omega
  simp only [fldSet, BitVec.getLsbD_or, BitVec.getLsbD_and, BitVec.getLsbD_not, hm, hi, decide_true, Bool.true_and,
    BitVec.getLsbD_ofNat, Nat.testBit_shiftLeft]
  by_cases h : f.lo ≤ i ∧ i ≤ f.hi <;> simp [h]

/-- The bits of a field's value. -/
theorem fldGet_testBit (w : Word) (f : Fld) (i : Nat) :
    (fldGet w f).testBit i = (decide (i < f.hi + 1 - f.lo) && w.getLsbD (f.lo + i)) := by
  simp [fldGet, Nat.testBit_mod_two_pow, Nat.testBit_shiftRight, BitVec.testBit_toNat]

/-- A field reads what was set in it, as many bits as it has. -/
theorem fldGet_fldSet_same (w : Word) (f : Fld) (v : Nat) (h : f.hi < 32) :
    fldGet (fldSet w f v) f = v % 2 ^ (f.hi + 1 - f.lo) := by
  apply Nat.eq_of_testBit_eq
  intro i
  rw [fldGet_testBit, Nat.testBit_mod_two_pow]
  by_cases hi : i < f.hi + 1 - f.lo
  · rw [fldSet_getLsbD w f v _ (by omega)]
    simp [hi, show f.lo + i ≤ f.hi by omega]
  · simp [hi]

/-- Setting a field leaves a field that shares no bit with it alone. -/
theorem fldGet_fldSet_ne (w : Word) (f g : Fld) (v : Nat) (h : f.hi < g.lo ∨ g.hi < f.lo) :
    fldGet (fldSet w f v) g = fldGet w g := by
  apply Nat.eq_of_testBit_eq
  intro i
  rw [fldGet_testBit, fldGet_testBit]
  by_cases hi : i < g.hi + 1 - g.lo
  · by_cases h32 : g.lo + i < 32
    · rw [fldSet_getLsbD w f v _ h32, if_neg (by omega)]
    · simp [BitVec.getLsbD_of_ge _ _ (Nat.not_lt.mp h32)]
  · simp [hi]

/-- A field fits the bits it has. -/
theorem fldGet_lt (w : Word) (f : Fld) : fldGet w f < 2 ^ (f.hi + 1 - f.lo) := Nat.mod_lt _ (by positivity)

/-! ## Registers -/

@[simp] theorem rget_rset_same (s : State) (a : Nat) (v : Word) : rget (rset s a v) a = v := sget_sset_same _ _ _ _

theorem rget_rset_ne (s : State) (a b : Nat) (v : Word) (h : a ≠ b) : rget (rset s a v) b = rget s b :=
  sget_sset_ne _ _ _ _ _ h

/-- Reading a register after a write. -/
theorem rget_rset (s : State) (a b : Nat) (v : Word) : rget (rset s a v) b = if a = b then v else rget s b :=
  sget_sset _ _ _ _ _

theorem fget_rset_same (s : State) (a : Nat) (v : Word) (f : Fld) : fget (rset s a v) a f = fldGet v f := by
  simp [fget]

theorem fget_rset_ne (s : State) (a b : Nat) (v : Word) (f : Fld) (h : a ≠ b) : fget (rset s a v) b f = fget s b f := by
  simp [fget, rget_rset_ne s a b v h]

/-- A field reads what was set in it. -/
theorem fget_fset_same (s : State) (a : Nat) (f : Fld) (v : Nat) (h : f.hi < 32) :
    fget (fset s a f v) a f = v % 2 ^ (f.hi + 1 - f.lo) := by
  simp [fget, fset, fldGet_fldSet_same _ f v h]

/-- Setting a field leaves the register's other fields alone. -/
theorem fget_fset_fld (s : State) (a : Nat) (f g : Fld) (v : Nat) (h : f.hi < g.lo ∨ g.hi < f.lo) :
    fget (fset s a f v) a g = fget s a g := by
  simp [fget, fset, fldGet_fldSet_ne _ f g v h]

/-- Setting a field leaves every other register alone. -/
theorem rget_fset_ne (s : State) (a b : Nat) (f : Fld) (v : Nat) (h : a ≠ b) : rget (fset s a f v) b = rget s b :=
  rget_rset_ne _ _ _ _ h

theorem fget_fset_ne (s : State) (a b : Nat) (f g : Fld) (v : Nat) (h : a ≠ b) :
    fget (fset s a f v) b g = fget s b g := by
  simp [fget, rget_fset_ne s a b f v h]

theorem rget_fsets_ne (s : State) (a b : Nat) (l : List (Fld × Nat)) (h : a ≠ b) : rget (fsets s a l) b = rget s b :=
  rget_rset_ne _ _ _ _ h

@[simp] theorem rget_fset_same (s : State) (a : Nat) (f : Fld) (v : Nat) :
    rget (fset s a f v) a = fldSet (rget s a) f v := rget_rset_same _ _ _

@[simp] theorem rget_fsets_same (s : State) (a : Nat) (l : List (Fld × Nat)) :
    rget (fsets s a l) a = l.foldl (fun w p => fldSet w p.1 p.2) (rget s a) := rget_rset_same _ _ _

theorem rget_fadd_ne (s : State) (a b : Nat) (f : Fld) (n : Nat) (h : a ≠ b) : rget (fadd s a f n) b = rget s b :=
  rget_fset_ne _ _ _ _ _ h

/-- A counting field rises by what is added and saturates at its largest value. -/
theorem fget_fadd_same (s : State) (a : Nat) (f : Fld) (n : Nat) (h : f.hi < 32) :
    fget (fadd s a f n) a f = min (fget s a f + n) (2 ^ (f.hi + 1 - f.lo) - 1) := by
  rw [fadd, fget_fset_same s a f _ h]
  apply Nat.mod_eq_of_lt
  have : 0 < 2 ^ (f.hi + 1 - f.lo) := by positivity
  omega

/-! ## Object-dictionary entries, clusters, dies and partitions -/

@[simp] theorem oget_oset_same (s : State) (k v : Nat) : oget (oset s k v) k = v := sget_sset_same _ _ _ _

theorem oget_oset_ne (s : State) (k j v : Nat) (h : k ≠ j) : oget (oset s k v) j = oget s j := sget_sset_ne _ _ _ _ _ h

@[simp] theorem getCl_setCl_same (s : State) (i : Nat) (k : Cluster) : getCl (setCl s i k) i = k := sget_sset_same _ _ _ _

theorem getCl_setCl_ne (s : State) (i j : Nat) (k : Cluster) (h : i ≠ j) : getCl (setCl s i k) j = getCl s j :=
  sget_sset_ne _ _ _ _ _ h

@[simp] theorem getDie_setDie_same (s : State) (i : Nat) (x : Die) : getDie (setDie s i x) i = x := sget_sset_same _ _ _ _

theorem getDie_setDie_ne (s : State) (i j : Nat) (x : Die) (h : i ≠ j) : getDie (setDie s i x) j = getDie s j :=
  sget_sset_ne _ _ _ _ _ h

@[simp] theorem getPart_setPart_same (s : State) (i : Nat) (x : Part) : getPart (setPart s i x) i = x :=
  sget_sset_same _ _ _ _

theorem getPart_setPart_ne (s : State) (i j : Nat) (x : Part) (h : i ≠ j) : getPart (setPart s i x) j = getPart s j :=
  sget_sset_ne _ _ _ _ _ h

end Sys2Proof.Machine
end

