-- ==== Sys2Proof/Laws/State.lean ====
section
/-! SUPPORT. What each named operation over the state leaves alone: one lemma per field and operation, and one per reader and
operation. Their proofs stand as `(rfl)`, so that simp rewrites with them: were they used as definitional equalities, the
kernel would compare register addresses by unfolding them. -/

namespace Sys2Proof.Machine

variable (s : State)

/-! ## Operations that write one field -/

/-! ### setMemLE -/

@[simp] theorem setMemLE_wsched (a n v : Nat) : (setMemLE s a n v).wsched = s.wsched := (rfl)
@[simp] theorem setMemLE_regs (a n v : Nat) : (setMemLE s a n v).regs = s.regs := (rfl)
@[simp] theorem setMemLE_od (a n v : Nat) : (setMemLE s a n v).od = s.od := (rfl)
@[simp] theorem setMemLE_clusters (a n v : Nat) : (setMemLE s a n v).clusters = s.clusters := (rfl)
@[simp] theorem setMemLE_dies (a n v : Nat) : (setMemLE s a n v).dies = s.dies := (rfl)
@[simp] theorem setMemLE_parts (a n v : Nat) : (setMemLE s a n v).parts = s.parts := (rfl)
@[simp] theorem setMemLE_stages (a n v : Nat) : (setMemLE s a n v).stages = s.stages := (rfl)
@[simp] theorem setMemLE_outbound (a n v : Nat) : (setMemLE s a n v).outbound = s.outbound := (rfl)
@[simp] theorem setMemLE_ports (a n v : Nat) : (setMemLE s a n v).ports = s.ports := (rfl)
@[simp] theorem setMemLE_rings (a n v : Nat) : (setMemLE s a n v).rings = s.rings := (rfl)
@[simp] theorem setMemLE_inNext (a n v : Nat) : (setMemLE s a n v).inNext = s.inNext := (rfl)
@[simp] theorem setMemLE_outNext (a n v : Nat) : (setMemLE s a n v).outNext = s.outNext := (rfl)
@[simp] theorem setMemLE_fences (a n v : Nat) : (setMemLE s a n v).fences = s.fences := (rfl)
@[simp] theorem setMemLE_frames (a n v : Nat) : (setMemLE s a n v).frames = s.frames := (rfl)
@[simp] theorem setMemLE_goldenFrames (a n v : Nat) : (setMemLE s a n v).goldenFrames = s.goldenFrames := (rfl)
@[simp] theorem setMemLE_slots (a n v : Nat) : (setMemLE s a n v).slots = s.slots := (rfl)
@[simp] theorem setMemLE_cellQ (a n v : Nat) : (setMemLE s a n v).cellQ = s.cellQ := (rfl)
@[simp] theorem setMemLE_pinIn (a n v : Nat) : (setMemLE s a n v).pinIn = s.pinIn := (rfl)
@[simp] theorem setMemLE_pinReg (a n v : Nat) : (setMemLE s a n v).pinReg = s.pinReg := (rfl)
@[simp] theorem setMemLE_latches (a n v : Nat) : (setMemLE s a n v).latches = s.latches := (rfl)
@[simp] theorem setMemLE_treeRaw (a n v : Nat) : (setMemLE s a n v).treeRaw = s.treeRaw := (rfl)
@[simp] theorem setMemLE_treeHigh (a n v : Nat) : (setMemLE s a n v).treeHigh = s.treeHigh := (rfl)
@[simp] theorem setMemLE_treesHeld (a n v : Nat) : (setMemLE s a n v).treesHeld = s.treesHeld := (rfl)
@[simp] theorem setMemLE_resetRegions (a n v : Nat) : (setMemLE s a n v).resetRegions = s.resetRegions := (rfl)
@[simp] theorem setMemLE_pinOut (a n v : Nat) : (setMemLE s a n v).pinOut = s.pinOut := (rfl)
@[simp] theorem setMemLE_pinsHeld (a n v : Nat) : (setMemLE s a n v).pinsHeld = s.pinsHeld := (rfl)
@[simp] theorem setMemLE_fromHost (a n v : Nat) : (setMemLE s a n v).fromHost = s.fromHost := (rfl)
@[simp] theorem setMemLE_clamps (a n v : Nat) : (setMemLE s a n v).clamps = s.clamps := (rfl)
@[simp] theorem setMemLE_clampCount (a n v : Nat) : (setMemLE s a n v).clampCount = s.clampCount := (rfl)
@[simp] theorem setMemLE_mirrorWait (a n v : Nat) : (setMemLE s a n v).mirrorWait = s.mirrorWait := (rfl)
@[simp] theorem setMemLE_hiCap (a n v : Nat) : (setMemLE s a n v).hiCap = s.hiCap := (rfl)
@[simp] theorem setMemLE_result (a n v : Nat) : (setMemLE s a n v).result = s.result := (rfl)
@[simp] theorem setMemLE_reply (a n v : Nat) : (setMemLE s a n v).reply = s.reply := (rfl)
@[simp] theorem setMemLE_pcieUr (a n v : Nat) : (setMemLE s a n v).pcieUr = s.pcieUr := (rfl)
@[simp] theorem setMemLE_logQueue (a n v : Nat) : (setMemLE s a n v).logQueue = s.logQueue := (rfl)
@[simp] theorem setMemLE_logSeq (a n v : Nat) : (setMemLE s a n v).logSeq = s.logSeq := (rfl)
@[simp] theorem setMemLE_timeA (a n v : Nat) : (setMemLE s a n v).timeA = s.timeA := (rfl)
@[simp] theorem setMemLE_timeB (a n v : Nat) : (setMemLE s a n v).timeB = s.timeB := (rfl)
@[simp] theorem setMemLE_hem (a n v : Nat) : (setMemLE s a n v).hem = s.hem := (rfl)
@[simp] theorem setMemLE_acq (a n v : Nat) : (setMemLE s a n v).acq = s.acq := (rfl)
@[simp] theorem setMemLE_probes (a n v : Nat) : (setMemLE s a n v).probes = s.probes := (rfl)
@[simp] theorem setMemLE_trigPulse (a n v : Nat) : (setMemLE s a n v).trigPulse = s.trigPulse := (rfl)
@[simp] theorem setMemLE_busQueue (a n v : Nat) : (setMemLE s a n v).busQueue = s.busQueue := (rfl)
@[simp] theorem setMemLE_busSent (a n v : Nat) : (setMemLE s a n v).busSent = s.busSent := (rfl)
@[simp] theorem setMemLE_toHost (a n v : Nat) : (setMemLE s a n v).toHost = s.toHost := (rfl)
@[simp] theorem setMemLE_dmaQ (a n v : Nat) : (setMemLE s a n v).dmaQ = s.dmaQ := (rfl)
@[simp] theorem setMemLE_mbx (a n v : Nat) : (setMemLE s a n v).mbx = s.mbx := (rfl)
@[simp] theorem setMemLE_sessions (a n v : Nat) : (setMemLE s a n v).sessions = s.sessions := (rfl)
@[simp] theorem setMemLE_challenges (a n v : Nat) : (setMemLE s a n v).challenges = s.challenges := (rfl)
@[simp] theorem setMemLE_papSent (a n v : Nat) : (setMemLE s a n v).papSent = s.papSent := (rfl)
@[simp] theorem setMemLE_abortAt (a n v : Nat) : (setMemLE s a n v).abortAt = s.abortAt := (rfl)
@[simp] theorem setMemLE_ethPorts (a n v : Nat) : (setMemLE s a n v).ethPorts = s.ethPorts := (rfl)
@[simp] theorem setMemLE_ethSent (a n v : Nat) : (setMemLE s a n v).ethSent = s.ethSent := (rfl)
@[simp] theorem setMemLE_time (a n v : Nat) : (setMemLE s a n v).time = s.time := (rfl)
@[simp] theorem setMemLE_keys (a n v : Nat) : (setMemLE s a n v).keys = s.keys := (rfl)
@[simp] theorem setMemLE_copied (a n v : Nat) : (setMemLE s a n v).copied = s.copied := (rfl)
@[simp] theorem setMemLE_pprUsed (a n v : Nat) : (setMemLE s a n v).pprUsed = s.pprUsed := (rfl)
@[simp] theorem setMemLE_mapOut (a n v : Nat) : (setMemLE s a n v).mapOut = s.mapOut := (rfl)
@[simp] theorem setMemLE_scrub (a n v : Nat) : (setMemLE s a n v).scrub = s.scrub := (rfl)
@[simp] theorem setMemLE_sparesPend (a n v : Nat) : (setMemLE s a n v).sparesPend = s.sparesPend := (rfl)
@[simp] theorem setMemLE_deadTracks (a n v : Nat) : (setMemLE s a n v).deadTracks = s.deadTracks := (rfl)
@[simp] theorem setMemLE_spills (a n v : Nat) : (setMemLE s a n v).spills = s.spills := (rfl)
@[simp] theorem setMemLE_msix (a n v : Nat) : (setMemLE s a n v).msix = s.msix := (rfl)
@[simp] theorem setMemLE_colIrq (a n v : Nat) : (setMemLE s a n v).colIrq = s.colIrq := (rfl)
@[simp] theorem setMemLE_noc (a n v : Nat) : (setMemLE s a n v).noc = s.noc := (rfl)
@[simp] theorem setMemLE_nocTags (a n v : Nat) : (setMemLE s a n v).nocTags = s.nocTags := (rfl)
@[simp] theorem setMemLE_nocGens (a n v : Nat) : (setMemLE s a n v).nocGens = s.nocGens := (rfl)
@[simp] theorem setMemLE_nocAnswers (a n v : Nat) : (setMemLE s a n v).nocAnswers = s.nocAnswers := (rfl)
@[simp] theorem setMemLE_collar (a n v : Nat) : (setMemLE s a n v).collar = s.collar := (rfl)
@[simp] theorem setMemLE_logFlash (a n v : Nat) : (setMemLE s a n v).logFlash = s.logFlash := (rfl)
@[simp] theorem setMemLE_power (a n v : Nat) : (setMemLE s a n v).power = s.power := (rfl)
@[simp] theorem setMemLE_ticks (a n v : Nat) : (setMemLE s a n v).ticks = s.ticks := (rfl)
@[simp] theorem setMemLE_alert (a n v : Nat) : (setMemLE s a n v).alert = s.alert := (rfl)
@[simp] theorem setMemLE_free (a n v : Nat) : (setMemLE s a n v).free = s.free := (rfl)
@[simp] theorem setMemLE_pending (a n v : Nat) : (setMemLE s a n v).pending = s.pending := (rfl)
@[simp] theorem rget_setMemLE (a n v : Nat) (x : Nat) : rget (setMemLE s a n v) x = rget s x := (rfl)
@[simp] theorem fget_setMemLE (a n v : Nat) (x : Nat) (g : Fld) : fget (setMemLE s a n v) x g = fget s x g := (rfl)
@[simp] theorem fbit_setMemLE (a n v : Nat) (x : Nat) (g : Fld) : fbit (setMemLE s a n v) x g = fbit s x g := (rfl)
@[simp] theorem oget_setMemLE (a n v : Nat) (x : Nat) : oget (setMemLE s a n v) x = oget s x := (rfl)
@[simp] theorem getCl_setMemLE (a n v : Nat) (x : Nat) : getCl (setMemLE s a n v) x = getCl s x := (rfl)
@[simp] theorem getDie_setMemLE (a n v : Nat) (x : Nat) : getDie (setMemLE s a n v) x = getDie s x := (rfl)
@[simp] theorem getPart_setMemLE (a n v : Nat) (x : Nat) : getPart (setMemLE s a n v) x = getPart s x := (rfl)

/-! ### setMemBytes -/

@[simp] theorem setMemBytes_wsched (a : Nat) (bs : List Byte) : (setMemBytes s a bs).wsched = s.wsched := (rfl)
@[simp] theorem setMemBytes_regs (a : Nat) (bs : List Byte) : (setMemBytes s a bs).regs = s.regs := (rfl)
@[simp] theorem setMemBytes_od (a : Nat) (bs : List Byte) : (setMemBytes s a bs).od = s.od := (rfl)
@[simp] theorem setMemBytes_clusters (a : Nat) (bs : List Byte) : (setMemBytes s a bs).clusters = s.clusters := (rfl)
@[simp] theorem setMemBytes_dies (a : Nat) (bs : List Byte) : (setMemBytes s a bs).dies = s.dies := (rfl)
@[simp] theorem setMemBytes_parts (a : Nat) (bs : List Byte) : (setMemBytes s a bs).parts = s.parts := (rfl)
@[simp] theorem setMemBytes_stages (a : Nat) (bs : List Byte) : (setMemBytes s a bs).stages = s.stages := (rfl)
@[simp] theorem setMemBytes_outbound (a : Nat) (bs : List Byte) : (setMemBytes s a bs).outbound = s.outbound := (rfl)
@[simp] theorem setMemBytes_ports (a : Nat) (bs : List Byte) : (setMemBytes s a bs).ports = s.ports := (rfl)
@[simp] theorem setMemBytes_rings (a : Nat) (bs : List Byte) : (setMemBytes s a bs).rings = s.rings := (rfl)
@[simp] theorem setMemBytes_inNext (a : Nat) (bs : List Byte) : (setMemBytes s a bs).inNext = s.inNext := (rfl)
@[simp] theorem setMemBytes_outNext (a : Nat) (bs : List Byte) : (setMemBytes s a bs).outNext = s.outNext := (rfl)
@[simp] theorem setMemBytes_fences (a : Nat) (bs : List Byte) : (setMemBytes s a bs).fences = s.fences := (rfl)
@[simp] theorem setMemBytes_frames (a : Nat) (bs : List Byte) : (setMemBytes s a bs).frames = s.frames := (rfl)
@[simp] theorem setMemBytes_goldenFrames (a : Nat) (bs : List Byte) : (setMemBytes s a bs).goldenFrames = s.goldenFrames := (rfl)
@[simp] theorem setMemBytes_slots (a : Nat) (bs : List Byte) : (setMemBytes s a bs).slots = s.slots := (rfl)
@[simp] theorem setMemBytes_cellQ (a : Nat) (bs : List Byte) : (setMemBytes s a bs).cellQ = s.cellQ := (rfl)
@[simp] theorem setMemBytes_pinIn (a : Nat) (bs : List Byte) : (setMemBytes s a bs).pinIn = s.pinIn := (rfl)
@[simp] theorem setMemBytes_pinReg (a : Nat) (bs : List Byte) : (setMemBytes s a bs).pinReg = s.pinReg := (rfl)
@[simp] theorem setMemBytes_latches (a : Nat) (bs : List Byte) : (setMemBytes s a bs).latches = s.latches := (rfl)
@[simp] theorem setMemBytes_treeRaw (a : Nat) (bs : List Byte) : (setMemBytes s a bs).treeRaw = s.treeRaw := (rfl)
@[simp] theorem setMemBytes_treeHigh (a : Nat) (bs : List Byte) : (setMemBytes s a bs).treeHigh = s.treeHigh := (rfl)
@[simp] theorem setMemBytes_treesHeld (a : Nat) (bs : List Byte) : (setMemBytes s a bs).treesHeld = s.treesHeld := (rfl)
@[simp] theorem setMemBytes_resetRegions (a : Nat) (bs : List Byte) : (setMemBytes s a bs).resetRegions = s.resetRegions := (rfl)
@[simp] theorem setMemBytes_pinOut (a : Nat) (bs : List Byte) : (setMemBytes s a bs).pinOut = s.pinOut := (rfl)
@[simp] theorem setMemBytes_pinsHeld (a : Nat) (bs : List Byte) : (setMemBytes s a bs).pinsHeld = s.pinsHeld := (rfl)
@[simp] theorem setMemBytes_fromHost (a : Nat) (bs : List Byte) : (setMemBytes s a bs).fromHost = s.fromHost := (rfl)
@[simp] theorem setMemBytes_clamps (a : Nat) (bs : List Byte) : (setMemBytes s a bs).clamps = s.clamps := (rfl)
@[simp] theorem setMemBytes_clampCount (a : Nat) (bs : List Byte) : (setMemBytes s a bs).clampCount = s.clampCount := (rfl)
@[simp] theorem setMemBytes_mirrorWait (a : Nat) (bs : List Byte) : (setMemBytes s a bs).mirrorWait = s.mirrorWait := (rfl)
@[simp] theorem setMemBytes_hiCap (a : Nat) (bs : List Byte) : (setMemBytes s a bs).hiCap = s.hiCap := (rfl)
@[simp] theorem setMemBytes_result (a : Nat) (bs : List Byte) : (setMemBytes s a bs).result = s.result := (rfl)
@[simp] theorem setMemBytes_reply (a : Nat) (bs : List Byte) : (setMemBytes s a bs).reply = s.reply := (rfl)
@[simp] theorem setMemBytes_pcieUr (a : Nat) (bs : List Byte) : (setMemBytes s a bs).pcieUr = s.pcieUr := (rfl)
@[simp] theorem setMemBytes_logQueue (a : Nat) (bs : List Byte) : (setMemBytes s a bs).logQueue = s.logQueue := (rfl)
@[simp] theorem setMemBytes_logSeq (a : Nat) (bs : List Byte) : (setMemBytes s a bs).logSeq = s.logSeq := (rfl)
@[simp] theorem setMemBytes_timeA (a : Nat) (bs : List Byte) : (setMemBytes s a bs).timeA = s.timeA := (rfl)
@[simp] theorem setMemBytes_timeB (a : Nat) (bs : List Byte) : (setMemBytes s a bs).timeB = s.timeB := (rfl)
@[simp] theorem setMemBytes_hem (a : Nat) (bs : List Byte) : (setMemBytes s a bs).hem = s.hem := (rfl)
@[simp] theorem setMemBytes_acq (a : Nat) (bs : List Byte) : (setMemBytes s a bs).acq = s.acq := (rfl)
@[simp] theorem setMemBytes_probes (a : Nat) (bs : List Byte) : (setMemBytes s a bs).probes = s.probes := (rfl)
@[simp] theorem setMemBytes_trigPulse (a : Nat) (bs : List Byte) : (setMemBytes s a bs).trigPulse = s.trigPulse := (rfl)
@[simp] theorem setMemBytes_busQueue (a : Nat) (bs : List Byte) : (setMemBytes s a bs).busQueue = s.busQueue := (rfl)
@[simp] theorem setMemBytes_busSent (a : Nat) (bs : List Byte) : (setMemBytes s a bs).busSent = s.busSent := (rfl)
@[simp] theorem setMemBytes_toHost (a : Nat) (bs : List Byte) : (setMemBytes s a bs).toHost = s.toHost := (rfl)
@[simp] theorem setMemBytes_dmaQ (a : Nat) (bs : List Byte) : (setMemBytes s a bs).dmaQ = s.dmaQ := (rfl)
@[simp] theorem setMemBytes_mbx (a : Nat) (bs : List Byte) : (setMemBytes s a bs).mbx = s.mbx := (rfl)
@[simp] theorem setMemBytes_sessions (a : Nat) (bs : List Byte) : (setMemBytes s a bs).sessions = s.sessions := (rfl)
@[simp] theorem setMemBytes_challenges (a : Nat) (bs : List Byte) : (setMemBytes s a bs).challenges = s.challenges := (rfl)
@[simp] theorem setMemBytes_papSent (a : Nat) (bs : List Byte) : (setMemBytes s a bs).papSent = s.papSent := (rfl)
@[simp] theorem setMemBytes_abortAt (a : Nat) (bs : List Byte) : (setMemBytes s a bs).abortAt = s.abortAt := (rfl)
@[simp] theorem setMemBytes_ethPorts (a : Nat) (bs : List Byte) : (setMemBytes s a bs).ethPorts = s.ethPorts := (rfl)
@[simp] theorem setMemBytes_ethSent (a : Nat) (bs : List Byte) : (setMemBytes s a bs).ethSent = s.ethSent := (rfl)
@[simp] theorem setMemBytes_time (a : Nat) (bs : List Byte) : (setMemBytes s a bs).time = s.time := (rfl)
@[simp] theorem setMemBytes_keys (a : Nat) (bs : List Byte) : (setMemBytes s a bs).keys = s.keys := (rfl)
@[simp] theorem setMemBytes_copied (a : Nat) (bs : List Byte) : (setMemBytes s a bs).copied = s.copied := (rfl)
@[simp] theorem setMemBytes_pprUsed (a : Nat) (bs : List Byte) : (setMemBytes s a bs).pprUsed = s.pprUsed := (rfl)
@[simp] theorem setMemBytes_mapOut (a : Nat) (bs : List Byte) : (setMemBytes s a bs).mapOut = s.mapOut := (rfl)
@[simp] theorem setMemBytes_scrub (a : Nat) (bs : List Byte) : (setMemBytes s a bs).scrub = s.scrub := (rfl)
@[simp] theorem setMemBytes_sparesPend (a : Nat) (bs : List Byte) : (setMemBytes s a bs).sparesPend = s.sparesPend := (rfl)
@[simp] theorem setMemBytes_deadTracks (a : Nat) (bs : List Byte) : (setMemBytes s a bs).deadTracks = s.deadTracks := (rfl)
@[simp] theorem setMemBytes_spills (a : Nat) (bs : List Byte) : (setMemBytes s a bs).spills = s.spills := (rfl)
@[simp] theorem setMemBytes_msix (a : Nat) (bs : List Byte) : (setMemBytes s a bs).msix = s.msix := (rfl)
@[simp] theorem setMemBytes_colIrq (a : Nat) (bs : List Byte) : (setMemBytes s a bs).colIrq = s.colIrq := (rfl)
@[simp] theorem setMemBytes_noc (a : Nat) (bs : List Byte) : (setMemBytes s a bs).noc = s.noc := (rfl)
@[simp] theorem setMemBytes_nocTags (a : Nat) (bs : List Byte) : (setMemBytes s a bs).nocTags = s.nocTags := (rfl)
@[simp] theorem setMemBytes_nocGens (a : Nat) (bs : List Byte) : (setMemBytes s a bs).nocGens = s.nocGens := (rfl)
@[simp] theorem setMemBytes_nocAnswers (a : Nat) (bs : List Byte) : (setMemBytes s a bs).nocAnswers = s.nocAnswers := (rfl)
@[simp] theorem setMemBytes_collar (a : Nat) (bs : List Byte) : (setMemBytes s a bs).collar = s.collar := (rfl)
@[simp] theorem setMemBytes_logFlash (a : Nat) (bs : List Byte) : (setMemBytes s a bs).logFlash = s.logFlash := (rfl)
@[simp] theorem setMemBytes_power (a : Nat) (bs : List Byte) : (setMemBytes s a bs).power = s.power := (rfl)
@[simp] theorem setMemBytes_ticks (a : Nat) (bs : List Byte) : (setMemBytes s a bs).ticks = s.ticks := (rfl)
@[simp] theorem setMemBytes_alert (a : Nat) (bs : List Byte) : (setMemBytes s a bs).alert = s.alert := (rfl)
@[simp] theorem setMemBytes_free (a : Nat) (bs : List Byte) : (setMemBytes s a bs).free = s.free := (rfl)
@[simp] theorem setMemBytes_pending (a : Nat) (bs : List Byte) : (setMemBytes s a bs).pending = s.pending := (rfl)
@[simp] theorem rget_setMemBytes (a : Nat) (bs : List Byte) (x : Nat) : rget (setMemBytes s a bs) x = rget s x := (rfl)
@[simp] theorem fget_setMemBytes (a : Nat) (bs : List Byte) (x : Nat) (g : Fld) : fget (setMemBytes s a bs) x g = fget s x g := (rfl)
@[simp] theorem fbit_setMemBytes (a : Nat) (bs : List Byte) (x : Nat) (g : Fld) : fbit (setMemBytes s a bs) x g = fbit s x g := (rfl)
@[simp] theorem oget_setMemBytes (a : Nat) (bs : List Byte) (x : Nat) : oget (setMemBytes s a bs) x = oget s x := (rfl)
@[simp] theorem getCl_setMemBytes (a : Nat) (bs : List Byte) (x : Nat) : getCl (setMemBytes s a bs) x = getCl s x := (rfl)
@[simp] theorem getDie_setMemBytes (a : Nat) (bs : List Byte) (x : Nat) : getDie (setMemBytes s a bs) x = getDie s x := (rfl)
@[simp] theorem getPart_setMemBytes (a : Nat) (bs : List Byte) (x : Nat) : getPart (setMemBytes s a bs) x = getPart s x := (rfl)

/-! ### zeroMem -/

@[simp] theorem zeroMem_wsched (lo hi : Nat) : (zeroMem s lo hi).wsched = s.wsched := (rfl)
@[simp] theorem zeroMem_regs (lo hi : Nat) : (zeroMem s lo hi).regs = s.regs := (rfl)
@[simp] theorem zeroMem_od (lo hi : Nat) : (zeroMem s lo hi).od = s.od := (rfl)
@[simp] theorem zeroMem_clusters (lo hi : Nat) : (zeroMem s lo hi).clusters = s.clusters := (rfl)
@[simp] theorem zeroMem_dies (lo hi : Nat) : (zeroMem s lo hi).dies = s.dies := (rfl)
@[simp] theorem zeroMem_parts (lo hi : Nat) : (zeroMem s lo hi).parts = s.parts := (rfl)
@[simp] theorem zeroMem_stages (lo hi : Nat) : (zeroMem s lo hi).stages = s.stages := (rfl)
@[simp] theorem zeroMem_outbound (lo hi : Nat) : (zeroMem s lo hi).outbound = s.outbound := (rfl)
@[simp] theorem zeroMem_ports (lo hi : Nat) : (zeroMem s lo hi).ports = s.ports := (rfl)
@[simp] theorem zeroMem_rings (lo hi : Nat) : (zeroMem s lo hi).rings = s.rings := (rfl)
@[simp] theorem zeroMem_inNext (lo hi : Nat) : (zeroMem s lo hi).inNext = s.inNext := (rfl)
@[simp] theorem zeroMem_outNext (lo hi : Nat) : (zeroMem s lo hi).outNext = s.outNext := (rfl)
@[simp] theorem zeroMem_fences (lo hi : Nat) : (zeroMem s lo hi).fences = s.fences := (rfl)
@[simp] theorem zeroMem_frames (lo hi : Nat) : (zeroMem s lo hi).frames = s.frames := (rfl)
@[simp] theorem zeroMem_goldenFrames (lo hi : Nat) : (zeroMem s lo hi).goldenFrames = s.goldenFrames := (rfl)
@[simp] theorem zeroMem_slots (lo hi : Nat) : (zeroMem s lo hi).slots = s.slots := (rfl)
@[simp] theorem zeroMem_cellQ (lo hi : Nat) : (zeroMem s lo hi).cellQ = s.cellQ := (rfl)
@[simp] theorem zeroMem_pinIn (lo hi : Nat) : (zeroMem s lo hi).pinIn = s.pinIn := (rfl)
@[simp] theorem zeroMem_pinReg (lo hi : Nat) : (zeroMem s lo hi).pinReg = s.pinReg := (rfl)
@[simp] theorem zeroMem_latches (lo hi : Nat) : (zeroMem s lo hi).latches = s.latches := (rfl)
@[simp] theorem zeroMem_treeRaw (lo hi : Nat) : (zeroMem s lo hi).treeRaw = s.treeRaw := (rfl)
@[simp] theorem zeroMem_treeHigh (lo hi : Nat) : (zeroMem s lo hi).treeHigh = s.treeHigh := (rfl)
@[simp] theorem zeroMem_treesHeld (lo hi : Nat) : (zeroMem s lo hi).treesHeld = s.treesHeld := (rfl)
@[simp] theorem zeroMem_resetRegions (lo hi : Nat) : (zeroMem s lo hi).resetRegions = s.resetRegions := (rfl)
@[simp] theorem zeroMem_pinOut (lo hi : Nat) : (zeroMem s lo hi).pinOut = s.pinOut := (rfl)
@[simp] theorem zeroMem_pinsHeld (lo hi : Nat) : (zeroMem s lo hi).pinsHeld = s.pinsHeld := (rfl)
@[simp] theorem zeroMem_fromHost (lo hi : Nat) : (zeroMem s lo hi).fromHost = s.fromHost := (rfl)
@[simp] theorem zeroMem_clamps (lo hi : Nat) : (zeroMem s lo hi).clamps = s.clamps := (rfl)
@[simp] theorem zeroMem_clampCount (lo hi : Nat) : (zeroMem s lo hi).clampCount = s.clampCount := (rfl)
@[simp] theorem zeroMem_mirrorWait (lo hi : Nat) : (zeroMem s lo hi).mirrorWait = s.mirrorWait := (rfl)
@[simp] theorem zeroMem_hiCap (lo hi : Nat) : (zeroMem s lo hi).hiCap = s.hiCap := (rfl)
@[simp] theorem zeroMem_result (lo hi : Nat) : (zeroMem s lo hi).result = s.result := (rfl)
@[simp] theorem zeroMem_reply (lo hi : Nat) : (zeroMem s lo hi).reply = s.reply := (rfl)
@[simp] theorem zeroMem_pcieUr (lo hi : Nat) : (zeroMem s lo hi).pcieUr = s.pcieUr := (rfl)
@[simp] theorem zeroMem_logQueue (lo hi : Nat) : (zeroMem s lo hi).logQueue = s.logQueue := (rfl)
@[simp] theorem zeroMem_logSeq (lo hi : Nat) : (zeroMem s lo hi).logSeq = s.logSeq := (rfl)
@[simp] theorem zeroMem_timeA (lo hi : Nat) : (zeroMem s lo hi).timeA = s.timeA := (rfl)
@[simp] theorem zeroMem_timeB (lo hi : Nat) : (zeroMem s lo hi).timeB = s.timeB := (rfl)
@[simp] theorem zeroMem_hem (lo hi : Nat) : (zeroMem s lo hi).hem = s.hem := (rfl)
@[simp] theorem zeroMem_acq (lo hi : Nat) : (zeroMem s lo hi).acq = s.acq := (rfl)
@[simp] theorem zeroMem_probes (lo hi : Nat) : (zeroMem s lo hi).probes = s.probes := (rfl)
@[simp] theorem zeroMem_trigPulse (lo hi : Nat) : (zeroMem s lo hi).trigPulse = s.trigPulse := (rfl)
@[simp] theorem zeroMem_busQueue (lo hi : Nat) : (zeroMem s lo hi).busQueue = s.busQueue := (rfl)
@[simp] theorem zeroMem_busSent (lo hi : Nat) : (zeroMem s lo hi).busSent = s.busSent := (rfl)
@[simp] theorem zeroMem_toHost (lo hi : Nat) : (zeroMem s lo hi).toHost = s.toHost := (rfl)
@[simp] theorem zeroMem_dmaQ (lo hi : Nat) : (zeroMem s lo hi).dmaQ = s.dmaQ := (rfl)
@[simp] theorem zeroMem_mbx (lo hi : Nat) : (zeroMem s lo hi).mbx = s.mbx := (rfl)
@[simp] theorem zeroMem_sessions (lo hi : Nat) : (zeroMem s lo hi).sessions = s.sessions := (rfl)
@[simp] theorem zeroMem_challenges (lo hi : Nat) : (zeroMem s lo hi).challenges = s.challenges := (rfl)
@[simp] theorem zeroMem_papSent (lo hi : Nat) : (zeroMem s lo hi).papSent = s.papSent := (rfl)
@[simp] theorem zeroMem_abortAt (lo hi : Nat) : (zeroMem s lo hi).abortAt = s.abortAt := (rfl)
@[simp] theorem zeroMem_ethPorts (lo hi : Nat) : (zeroMem s lo hi).ethPorts = s.ethPorts := (rfl)
@[simp] theorem zeroMem_ethSent (lo hi : Nat) : (zeroMem s lo hi).ethSent = s.ethSent := (rfl)
@[simp] theorem zeroMem_time (lo hi : Nat) : (zeroMem s lo hi).time = s.time := (rfl)
@[simp] theorem zeroMem_keys (lo hi : Nat) : (zeroMem s lo hi).keys = s.keys := (rfl)
@[simp] theorem zeroMem_copied (lo hi : Nat) : (zeroMem s lo hi).copied = s.copied := (rfl)
@[simp] theorem zeroMem_pprUsed (lo hi : Nat) : (zeroMem s lo hi).pprUsed = s.pprUsed := (rfl)
@[simp] theorem zeroMem_mapOut (lo hi : Nat) : (zeroMem s lo hi).mapOut = s.mapOut := (rfl)
@[simp] theorem zeroMem_scrub (lo hi : Nat) : (zeroMem s lo hi).scrub = s.scrub := (rfl)
@[simp] theorem zeroMem_sparesPend (lo hi : Nat) : (zeroMem s lo hi).sparesPend = s.sparesPend := (rfl)
@[simp] theorem zeroMem_deadTracks (lo hi : Nat) : (zeroMem s lo hi).deadTracks = s.deadTracks := (rfl)
@[simp] theorem zeroMem_spills (lo hi : Nat) : (zeroMem s lo hi).spills = s.spills := (rfl)
@[simp] theorem zeroMem_msix (lo hi : Nat) : (zeroMem s lo hi).msix = s.msix := (rfl)
@[simp] theorem zeroMem_colIrq (lo hi : Nat) : (zeroMem s lo hi).colIrq = s.colIrq := (rfl)
@[simp] theorem zeroMem_noc (lo hi : Nat) : (zeroMem s lo hi).noc = s.noc := (rfl)
@[simp] theorem zeroMem_nocTags (lo hi : Nat) : (zeroMem s lo hi).nocTags = s.nocTags := (rfl)
@[simp] theorem zeroMem_nocGens (lo hi : Nat) : (zeroMem s lo hi).nocGens = s.nocGens := (rfl)
@[simp] theorem zeroMem_nocAnswers (lo hi : Nat) : (zeroMem s lo hi).nocAnswers = s.nocAnswers := (rfl)
@[simp] theorem zeroMem_collar (lo hi : Nat) : (zeroMem s lo hi).collar = s.collar := (rfl)
@[simp] theorem zeroMem_logFlash (lo hi : Nat) : (zeroMem s lo hi).logFlash = s.logFlash := (rfl)
@[simp] theorem zeroMem_power (lo hi : Nat) : (zeroMem s lo hi).power = s.power := (rfl)
@[simp] theorem zeroMem_ticks (lo hi : Nat) : (zeroMem s lo hi).ticks = s.ticks := (rfl)
@[simp] theorem zeroMem_alert (lo hi : Nat) : (zeroMem s lo hi).alert = s.alert := (rfl)
@[simp] theorem zeroMem_free (lo hi : Nat) : (zeroMem s lo hi).free = s.free := (rfl)
@[simp] theorem zeroMem_pending (lo hi : Nat) : (zeroMem s lo hi).pending = s.pending := (rfl)
@[simp] theorem rget_zeroMem (lo hi : Nat) (x : Nat) : rget (zeroMem s lo hi) x = rget s x := (rfl)
@[simp] theorem fget_zeroMem (lo hi : Nat) (x : Nat) (g : Fld) : fget (zeroMem s lo hi) x g = fget s x g := (rfl)
@[simp] theorem fbit_zeroMem (lo hi : Nat) (x : Nat) (g : Fld) : fbit (zeroMem s lo hi) x g = fbit s x g := (rfl)
@[simp] theorem oget_zeroMem (lo hi : Nat) (x : Nat) : oget (zeroMem s lo hi) x = oget s x := (rfl)
@[simp] theorem getCl_zeroMem (lo hi : Nat) (x : Nat) : getCl (zeroMem s lo hi) x = getCl s x := (rfl)
@[simp] theorem getDie_zeroMem (lo hi : Nat) (x : Nat) : getDie (zeroMem s lo hi) x = getDie s x := (rfl)
@[simp] theorem getPart_zeroMem (lo hi : Nat) (x : Nat) : getPart (zeroMem s lo hi) x = getPart s x := (rfl)

/-! ### setMemBit -/

@[simp] theorem setMemBit_wsched (base b : Nat) (v : Bool) : (setMemBit s base b v).wsched = s.wsched := (rfl)
@[simp] theorem setMemBit_regs (base b : Nat) (v : Bool) : (setMemBit s base b v).regs = s.regs := (rfl)
@[simp] theorem setMemBit_od (base b : Nat) (v : Bool) : (setMemBit s base b v).od = s.od := (rfl)
@[simp] theorem setMemBit_clusters (base b : Nat) (v : Bool) : (setMemBit s base b v).clusters = s.clusters := (rfl)
@[simp] theorem setMemBit_dies (base b : Nat) (v : Bool) : (setMemBit s base b v).dies = s.dies := (rfl)
@[simp] theorem setMemBit_parts (base b : Nat) (v : Bool) : (setMemBit s base b v).parts = s.parts := (rfl)
@[simp] theorem setMemBit_stages (base b : Nat) (v : Bool) : (setMemBit s base b v).stages = s.stages := (rfl)
@[simp] theorem setMemBit_outbound (base b : Nat) (v : Bool) : (setMemBit s base b v).outbound = s.outbound := (rfl)
@[simp] theorem setMemBit_ports (base b : Nat) (v : Bool) : (setMemBit s base b v).ports = s.ports := (rfl)
@[simp] theorem setMemBit_rings (base b : Nat) (v : Bool) : (setMemBit s base b v).rings = s.rings := (rfl)
@[simp] theorem setMemBit_inNext (base b : Nat) (v : Bool) : (setMemBit s base b v).inNext = s.inNext := (rfl)
@[simp] theorem setMemBit_outNext (base b : Nat) (v : Bool) : (setMemBit s base b v).outNext = s.outNext := (rfl)
@[simp] theorem setMemBit_fences (base b : Nat) (v : Bool) : (setMemBit s base b v).fences = s.fences := (rfl)
@[simp] theorem setMemBit_frames (base b : Nat) (v : Bool) : (setMemBit s base b v).frames = s.frames := (rfl)
@[simp] theorem setMemBit_goldenFrames (base b : Nat) (v : Bool) : (setMemBit s base b v).goldenFrames = s.goldenFrames := (rfl)
@[simp] theorem setMemBit_slots (base b : Nat) (v : Bool) : (setMemBit s base b v).slots = s.slots := (rfl)
@[simp] theorem setMemBit_cellQ (base b : Nat) (v : Bool) : (setMemBit s base b v).cellQ = s.cellQ := (rfl)
@[simp] theorem setMemBit_pinIn (base b : Nat) (v : Bool) : (setMemBit s base b v).pinIn = s.pinIn := (rfl)
@[simp] theorem setMemBit_pinReg (base b : Nat) (v : Bool) : (setMemBit s base b v).pinReg = s.pinReg := (rfl)
@[simp] theorem setMemBit_latches (base b : Nat) (v : Bool) : (setMemBit s base b v).latches = s.latches := (rfl)
@[simp] theorem setMemBit_treeRaw (base b : Nat) (v : Bool) : (setMemBit s base b v).treeRaw = s.treeRaw := (rfl)
@[simp] theorem setMemBit_treeHigh (base b : Nat) (v : Bool) : (setMemBit s base b v).treeHigh = s.treeHigh := (rfl)
@[simp] theorem setMemBit_treesHeld (base b : Nat) (v : Bool) : (setMemBit s base b v).treesHeld = s.treesHeld := (rfl)
@[simp] theorem setMemBit_resetRegions (base b : Nat) (v : Bool) : (setMemBit s base b v).resetRegions = s.resetRegions := (rfl)
@[simp] theorem setMemBit_pinOut (base b : Nat) (v : Bool) : (setMemBit s base b v).pinOut = s.pinOut := (rfl)
@[simp] theorem setMemBit_pinsHeld (base b : Nat) (v : Bool) : (setMemBit s base b v).pinsHeld = s.pinsHeld := (rfl)
@[simp] theorem setMemBit_fromHost (base b : Nat) (v : Bool) : (setMemBit s base b v).fromHost = s.fromHost := (rfl)
@[simp] theorem setMemBit_clamps (base b : Nat) (v : Bool) : (setMemBit s base b v).clamps = s.clamps := (rfl)
@[simp] theorem setMemBit_clampCount (base b : Nat) (v : Bool) : (setMemBit s base b v).clampCount = s.clampCount := (rfl)
@[simp] theorem setMemBit_mirrorWait (base b : Nat) (v : Bool) : (setMemBit s base b v).mirrorWait = s.mirrorWait := (rfl)
@[simp] theorem setMemBit_hiCap (base b : Nat) (v : Bool) : (setMemBit s base b v).hiCap = s.hiCap := (rfl)
@[simp] theorem setMemBit_result (base b : Nat) (v : Bool) : (setMemBit s base b v).result = s.result := (rfl)
@[simp] theorem setMemBit_reply (base b : Nat) (v : Bool) : (setMemBit s base b v).reply = s.reply := (rfl)
@[simp] theorem setMemBit_pcieUr (base b : Nat) (v : Bool) : (setMemBit s base b v).pcieUr = s.pcieUr := (rfl)
@[simp] theorem setMemBit_logQueue (base b : Nat) (v : Bool) : (setMemBit s base b v).logQueue = s.logQueue := (rfl)
@[simp] theorem setMemBit_logSeq (base b : Nat) (v : Bool) : (setMemBit s base b v).logSeq = s.logSeq := (rfl)
@[simp] theorem setMemBit_timeA (base b : Nat) (v : Bool) : (setMemBit s base b v).timeA = s.timeA := (rfl)
@[simp] theorem setMemBit_timeB (base b : Nat) (v : Bool) : (setMemBit s base b v).timeB = s.timeB := (rfl)
@[simp] theorem setMemBit_hem (base b : Nat) (v : Bool) : (setMemBit s base b v).hem = s.hem := (rfl)
@[simp] theorem setMemBit_acq (base b : Nat) (v : Bool) : (setMemBit s base b v).acq = s.acq := (rfl)
@[simp] theorem setMemBit_probes (base b : Nat) (v : Bool) : (setMemBit s base b v).probes = s.probes := (rfl)
@[simp] theorem setMemBit_trigPulse (base b : Nat) (v : Bool) : (setMemBit s base b v).trigPulse = s.trigPulse := (rfl)
@[simp] theorem setMemBit_busQueue (base b : Nat) (v : Bool) : (setMemBit s base b v).busQueue = s.busQueue := (rfl)
@[simp] theorem setMemBit_busSent (base b : Nat) (v : Bool) : (setMemBit s base b v).busSent = s.busSent := (rfl)
@[simp] theorem setMemBit_toHost (base b : Nat) (v : Bool) : (setMemBit s base b v).toHost = s.toHost := (rfl)
@[simp] theorem setMemBit_dmaQ (base b : Nat) (v : Bool) : (setMemBit s base b v).dmaQ = s.dmaQ := (rfl)
@[simp] theorem setMemBit_mbx (base b : Nat) (v : Bool) : (setMemBit s base b v).mbx = s.mbx := (rfl)
@[simp] theorem setMemBit_sessions (base b : Nat) (v : Bool) : (setMemBit s base b v).sessions = s.sessions := (rfl)
@[simp] theorem setMemBit_challenges (base b : Nat) (v : Bool) : (setMemBit s base b v).challenges = s.challenges := (rfl)
@[simp] theorem setMemBit_papSent (base b : Nat) (v : Bool) : (setMemBit s base b v).papSent = s.papSent := (rfl)
@[simp] theorem setMemBit_abortAt (base b : Nat) (v : Bool) : (setMemBit s base b v).abortAt = s.abortAt := (rfl)
@[simp] theorem setMemBit_ethPorts (base b : Nat) (v : Bool) : (setMemBit s base b v).ethPorts = s.ethPorts := (rfl)
@[simp] theorem setMemBit_ethSent (base b : Nat) (v : Bool) : (setMemBit s base b v).ethSent = s.ethSent := (rfl)
@[simp] theorem setMemBit_time (base b : Nat) (v : Bool) : (setMemBit s base b v).time = s.time := (rfl)
@[simp] theorem setMemBit_keys (base b : Nat) (v : Bool) : (setMemBit s base b v).keys = s.keys := (rfl)
@[simp] theorem setMemBit_copied (base b : Nat) (v : Bool) : (setMemBit s base b v).copied = s.copied := (rfl)
@[simp] theorem setMemBit_pprUsed (base b : Nat) (v : Bool) : (setMemBit s base b v).pprUsed = s.pprUsed := (rfl)
@[simp] theorem setMemBit_mapOut (base b : Nat) (v : Bool) : (setMemBit s base b v).mapOut = s.mapOut := (rfl)
@[simp] theorem setMemBit_scrub (base b : Nat) (v : Bool) : (setMemBit s base b v).scrub = s.scrub := (rfl)
@[simp] theorem setMemBit_sparesPend (base b : Nat) (v : Bool) : (setMemBit s base b v).sparesPend = s.sparesPend := (rfl)
@[simp] theorem setMemBit_deadTracks (base b : Nat) (v : Bool) : (setMemBit s base b v).deadTracks = s.deadTracks := (rfl)
@[simp] theorem setMemBit_spills (base b : Nat) (v : Bool) : (setMemBit s base b v).spills = s.spills := (rfl)
@[simp] theorem setMemBit_msix (base b : Nat) (v : Bool) : (setMemBit s base b v).msix = s.msix := (rfl)
@[simp] theorem setMemBit_colIrq (base b : Nat) (v : Bool) : (setMemBit s base b v).colIrq = s.colIrq := (rfl)
@[simp] theorem setMemBit_noc (base b : Nat) (v : Bool) : (setMemBit s base b v).noc = s.noc := (rfl)
@[simp] theorem setMemBit_nocTags (base b : Nat) (v : Bool) : (setMemBit s base b v).nocTags = s.nocTags := (rfl)
@[simp] theorem setMemBit_nocGens (base b : Nat) (v : Bool) : (setMemBit s base b v).nocGens = s.nocGens := (rfl)
@[simp] theorem setMemBit_nocAnswers (base b : Nat) (v : Bool) : (setMemBit s base b v).nocAnswers = s.nocAnswers := (rfl)
@[simp] theorem setMemBit_collar (base b : Nat) (v : Bool) : (setMemBit s base b v).collar = s.collar := (rfl)
@[simp] theorem setMemBit_logFlash (base b : Nat) (v : Bool) : (setMemBit s base b v).logFlash = s.logFlash := (rfl)
@[simp] theorem setMemBit_power (base b : Nat) (v : Bool) : (setMemBit s base b v).power = s.power := (rfl)
@[simp] theorem setMemBit_ticks (base b : Nat) (v : Bool) : (setMemBit s base b v).ticks = s.ticks := (rfl)
@[simp] theorem setMemBit_alert (base b : Nat) (v : Bool) : (setMemBit s base b v).alert = s.alert := (rfl)
@[simp] theorem setMemBit_free (base b : Nat) (v : Bool) : (setMemBit s base b v).free = s.free := (rfl)
@[simp] theorem setMemBit_pending (base b : Nat) (v : Bool) : (setMemBit s base b v).pending = s.pending := (rfl)
@[simp] theorem rget_setMemBit (base b : Nat) (v : Bool) (x : Nat) : rget (setMemBit s base b v) x = rget s x := (rfl)
@[simp] theorem fget_setMemBit (base b : Nat) (v : Bool) (x : Nat) (g : Fld) : fget (setMemBit s base b v) x g = fget s x g := (rfl)
@[simp] theorem fbit_setMemBit (base b : Nat) (v : Bool) (x : Nat) (g : Fld) : fbit (setMemBit s base b v) x g = fbit s x g := (rfl)
@[simp] theorem oget_setMemBit (base b : Nat) (v : Bool) (x : Nat) : oget (setMemBit s base b v) x = oget s x := (rfl)
@[simp] theorem getCl_setMemBit (base b : Nat) (v : Bool) (x : Nat) : getCl (setMemBit s base b v) x = getCl s x := (rfl)
@[simp] theorem getDie_setMemBit (base b : Nat) (v : Bool) (x : Nat) : getDie (setMemBit s base b v) x = getDie s x := (rfl)
@[simp] theorem getPart_setMemBit (base b : Nat) (v : Bool) (x : Nat) : getPart (setMemBit s base b v) x = getPart s x := (rfl)

/-! ### rset -/

@[simp] theorem rset_mem (a : Nat) (v : Word) : (rset s a v).mem = s.mem := (rfl)
@[simp] theorem rset_wsched (a : Nat) (v : Word) : (rset s a v).wsched = s.wsched := (rfl)
@[simp] theorem rset_od (a : Nat) (v : Word) : (rset s a v).od = s.od := (rfl)
@[simp] theorem rset_clusters (a : Nat) (v : Word) : (rset s a v).clusters = s.clusters := (rfl)
@[simp] theorem rset_dies (a : Nat) (v : Word) : (rset s a v).dies = s.dies := (rfl)
@[simp] theorem rset_parts (a : Nat) (v : Word) : (rset s a v).parts = s.parts := (rfl)
@[simp] theorem rset_stages (a : Nat) (v : Word) : (rset s a v).stages = s.stages := (rfl)
@[simp] theorem rset_outbound (a : Nat) (v : Word) : (rset s a v).outbound = s.outbound := (rfl)
@[simp] theorem rset_ports (a : Nat) (v : Word) : (rset s a v).ports = s.ports := (rfl)
@[simp] theorem rset_rings (a : Nat) (v : Word) : (rset s a v).rings = s.rings := (rfl)
@[simp] theorem rset_inNext (a : Nat) (v : Word) : (rset s a v).inNext = s.inNext := (rfl)
@[simp] theorem rset_outNext (a : Nat) (v : Word) : (rset s a v).outNext = s.outNext := (rfl)
@[simp] theorem rset_fences (a : Nat) (v : Word) : (rset s a v).fences = s.fences := (rfl)
@[simp] theorem rset_frames (a : Nat) (v : Word) : (rset s a v).frames = s.frames := (rfl)
@[simp] theorem rset_goldenFrames (a : Nat) (v : Word) : (rset s a v).goldenFrames = s.goldenFrames := (rfl)
@[simp] theorem rset_slots (a : Nat) (v : Word) : (rset s a v).slots = s.slots := (rfl)
@[simp] theorem rset_cellQ (a : Nat) (v : Word) : (rset s a v).cellQ = s.cellQ := (rfl)
@[simp] theorem rset_pinIn (a : Nat) (v : Word) : (rset s a v).pinIn = s.pinIn := (rfl)
@[simp] theorem rset_pinReg (a : Nat) (v : Word) : (rset s a v).pinReg = s.pinReg := (rfl)
@[simp] theorem rset_latches (a : Nat) (v : Word) : (rset s a v).latches = s.latches := (rfl)
@[simp] theorem rset_treeRaw (a : Nat) (v : Word) : (rset s a v).treeRaw = s.treeRaw := (rfl)
@[simp] theorem rset_treeHigh (a : Nat) (v : Word) : (rset s a v).treeHigh = s.treeHigh := (rfl)
@[simp] theorem rset_treesHeld (a : Nat) (v : Word) : (rset s a v).treesHeld = s.treesHeld := (rfl)
@[simp] theorem rset_resetRegions (a : Nat) (v : Word) : (rset s a v).resetRegions = s.resetRegions := (rfl)
@[simp] theorem rset_pinOut (a : Nat) (v : Word) : (rset s a v).pinOut = s.pinOut := (rfl)
@[simp] theorem rset_pinsHeld (a : Nat) (v : Word) : (rset s a v).pinsHeld = s.pinsHeld := (rfl)
@[simp] theorem rset_fromHost (a : Nat) (v : Word) : (rset s a v).fromHost = s.fromHost := (rfl)
@[simp] theorem rset_clamps (a : Nat) (v : Word) : (rset s a v).clamps = s.clamps := (rfl)
@[simp] theorem rset_clampCount (a : Nat) (v : Word) : (rset s a v).clampCount = s.clampCount := (rfl)
@[simp] theorem rset_mirrorWait (a : Nat) (v : Word) : (rset s a v).mirrorWait = s.mirrorWait := (rfl)
@[simp] theorem rset_hiCap (a : Nat) (v : Word) : (rset s a v).hiCap = s.hiCap := (rfl)
@[simp] theorem rset_result (a : Nat) (v : Word) : (rset s a v).result = s.result := (rfl)
@[simp] theorem rset_reply (a : Nat) (v : Word) : (rset s a v).reply = s.reply := (rfl)
@[simp] theorem rset_pcieUr (a : Nat) (v : Word) : (rset s a v).pcieUr = s.pcieUr := (rfl)
@[simp] theorem rset_logQueue (a : Nat) (v : Word) : (rset s a v).logQueue = s.logQueue := (rfl)
@[simp] theorem rset_logSeq (a : Nat) (v : Word) : (rset s a v).logSeq = s.logSeq := (rfl)
@[simp] theorem rset_timeA (a : Nat) (v : Word) : (rset s a v).timeA = s.timeA := (rfl)
@[simp] theorem rset_timeB (a : Nat) (v : Word) : (rset s a v).timeB = s.timeB := (rfl)
@[simp] theorem rset_hem (a : Nat) (v : Word) : (rset s a v).hem = s.hem := (rfl)
@[simp] theorem rset_acq (a : Nat) (v : Word) : (rset s a v).acq = s.acq := (rfl)
@[simp] theorem rset_probes (a : Nat) (v : Word) : (rset s a v).probes = s.probes := (rfl)
@[simp] theorem rset_trigPulse (a : Nat) (v : Word) : (rset s a v).trigPulse = s.trigPulse := (rfl)
@[simp] theorem rset_busQueue (a : Nat) (v : Word) : (rset s a v).busQueue = s.busQueue := (rfl)
@[simp] theorem rset_busSent (a : Nat) (v : Word) : (rset s a v).busSent = s.busSent := (rfl)
@[simp] theorem rset_toHost (a : Nat) (v : Word) : (rset s a v).toHost = s.toHost := (rfl)
@[simp] theorem rset_dmaQ (a : Nat) (v : Word) : (rset s a v).dmaQ = s.dmaQ := (rfl)
@[simp] theorem rset_mbx (a : Nat) (v : Word) : (rset s a v).mbx = s.mbx := (rfl)
@[simp] theorem rset_sessions (a : Nat) (v : Word) : (rset s a v).sessions = s.sessions := (rfl)
@[simp] theorem rset_challenges (a : Nat) (v : Word) : (rset s a v).challenges = s.challenges := (rfl)
@[simp] theorem rset_papSent (a : Nat) (v : Word) : (rset s a v).papSent = s.papSent := (rfl)
@[simp] theorem rset_abortAt (a : Nat) (v : Word) : (rset s a v).abortAt = s.abortAt := (rfl)
@[simp] theorem rset_ethPorts (a : Nat) (v : Word) : (rset s a v).ethPorts = s.ethPorts := (rfl)
@[simp] theorem rset_ethSent (a : Nat) (v : Word) : (rset s a v).ethSent = s.ethSent := (rfl)
@[simp] theorem rset_time (a : Nat) (v : Word) : (rset s a v).time = s.time := (rfl)
@[simp] theorem rset_keys (a : Nat) (v : Word) : (rset s a v).keys = s.keys := (rfl)
@[simp] theorem rset_copied (a : Nat) (v : Word) : (rset s a v).copied = s.copied := (rfl)
@[simp] theorem rset_pprUsed (a : Nat) (v : Word) : (rset s a v).pprUsed = s.pprUsed := (rfl)
@[simp] theorem rset_mapOut (a : Nat) (v : Word) : (rset s a v).mapOut = s.mapOut := (rfl)
@[simp] theorem rset_scrub (a : Nat) (v : Word) : (rset s a v).scrub = s.scrub := (rfl)
@[simp] theorem rset_sparesPend (a : Nat) (v : Word) : (rset s a v).sparesPend = s.sparesPend := (rfl)
@[simp] theorem rset_deadTracks (a : Nat) (v : Word) : (rset s a v).deadTracks = s.deadTracks := (rfl)
@[simp] theorem rset_spills (a : Nat) (v : Word) : (rset s a v).spills = s.spills := (rfl)
@[simp] theorem rset_msix (a : Nat) (v : Word) : (rset s a v).msix = s.msix := (rfl)
@[simp] theorem rset_colIrq (a : Nat) (v : Word) : (rset s a v).colIrq = s.colIrq := (rfl)
@[simp] theorem rset_noc (a : Nat) (v : Word) : (rset s a v).noc = s.noc := (rfl)
@[simp] theorem rset_nocTags (a : Nat) (v : Word) : (rset s a v).nocTags = s.nocTags := (rfl)
@[simp] theorem rset_nocGens (a : Nat) (v : Word) : (rset s a v).nocGens = s.nocGens := (rfl)
@[simp] theorem rset_nocAnswers (a : Nat) (v : Word) : (rset s a v).nocAnswers = s.nocAnswers := (rfl)
@[simp] theorem rset_collar (a : Nat) (v : Word) : (rset s a v).collar = s.collar := (rfl)
@[simp] theorem rset_logFlash (a : Nat) (v : Word) : (rset s a v).logFlash = s.logFlash := (rfl)
@[simp] theorem rset_power (a : Nat) (v : Word) : (rset s a v).power = s.power := (rfl)
@[simp] theorem rset_ticks (a : Nat) (v : Word) : (rset s a v).ticks = s.ticks := (rfl)
@[simp] theorem rset_alert (a : Nat) (v : Word) : (rset s a v).alert = s.alert := (rfl)
@[simp] theorem rset_free (a : Nat) (v : Word) : (rset s a v).free = s.free := (rfl)
@[simp] theorem rset_pending (a : Nat) (v : Word) : (rset s a v).pending = s.pending := (rfl)
@[simp] theorem memByte_rset (a : Nat) (v : Word) (x : Nat) : memByte (rset s a v) x = memByte s x := (rfl)
@[simp] theorem memLE_rset (a : Nat) (v : Word) (x y : Nat) : memLE (rset s a v) x y = memLE s x y := (rfl)
@[simp] theorem memBytes_rset (a : Nat) (v : Word) (x y : Nat) : memBytes (rset s a v) x y = memBytes s x y := (rfl)
@[simp] theorem memBit_rset (a : Nat) (v : Word) (x y : Nat) : memBit (rset s a v) x y = memBit s x y := (rfl)
@[simp] theorem oget_rset (a : Nat) (v : Word) (x : Nat) : oget (rset s a v) x = oget s x := (rfl)
@[simp] theorem getCl_rset (a : Nat) (v : Word) (x : Nat) : getCl (rset s a v) x = getCl s x := (rfl)
@[simp] theorem getDie_rset (a : Nat) (v : Word) (x : Nat) : getDie (rset s a v) x = getDie s x := (rfl)
@[simp] theorem getPart_rset (a : Nat) (v : Word) (x : Nat) : getPart (rset s a v) x = getPart s x := (rfl)

/-! ### fset -/

@[simp] theorem fset_mem (a : Nat) (f : Fld) (v : Nat) : (fset s a f v).mem = s.mem := (rfl)
@[simp] theorem fset_wsched (a : Nat) (f : Fld) (v : Nat) : (fset s a f v).wsched = s.wsched := (rfl)
@[simp] theorem fset_od (a : Nat) (f : Fld) (v : Nat) : (fset s a f v).od = s.od := (rfl)
@[simp] theorem fset_clusters (a : Nat) (f : Fld) (v : Nat) : (fset s a f v).clusters = s.clusters := (rfl)
@[simp] theorem fset_dies (a : Nat) (f : Fld) (v : Nat) : (fset s a f v).dies = s.dies := (rfl)
@[simp] theorem fset_parts (a : Nat) (f : Fld) (v : Nat) : (fset s a f v).parts = s.parts := (rfl)
@[simp] theorem fset_stages (a : Nat) (f : Fld) (v : Nat) : (fset s a f v).stages = s.stages := (rfl)
@[simp] theorem fset_outbound (a : Nat) (f : Fld) (v : Nat) : (fset s a f v).outbound = s.outbound := (rfl)
@[simp] theorem fset_ports (a : Nat) (f : Fld) (v : Nat) : (fset s a f v).ports = s.ports := (rfl)
@[simp] theorem fset_rings (a : Nat) (f : Fld) (v : Nat) : (fset s a f v).rings = s.rings := (rfl)
@[simp] theorem fset_inNext (a : Nat) (f : Fld) (v : Nat) : (fset s a f v).inNext = s.inNext := (rfl)
@[simp] theorem fset_outNext (a : Nat) (f : Fld) (v : Nat) : (fset s a f v).outNext = s.outNext := (rfl)
@[simp] theorem fset_fences (a : Nat) (f : Fld) (v : Nat) : (fset s a f v).fences = s.fences := (rfl)
@[simp] theorem fset_frames (a : Nat) (f : Fld) (v : Nat) : (fset s a f v).frames = s.frames := (rfl)
@[simp] theorem fset_goldenFrames (a : Nat) (f : Fld) (v : Nat) : (fset s a f v).goldenFrames = s.goldenFrames := (rfl)
@[simp] theorem fset_slots (a : Nat) (f : Fld) (v : Nat) : (fset s a f v).slots = s.slots := (rfl)
@[simp] theorem fset_cellQ (a : Nat) (f : Fld) (v : Nat) : (fset s a f v).cellQ = s.cellQ := (rfl)
@[simp] theorem fset_pinIn (a : Nat) (f : Fld) (v : Nat) : (fset s a f v).pinIn = s.pinIn := (rfl)
@[simp] theorem fset_pinReg (a : Nat) (f : Fld) (v : Nat) : (fset s a f v).pinReg = s.pinReg := (rfl)
@[simp] theorem fset_latches (a : Nat) (f : Fld) (v : Nat) : (fset s a f v).latches = s.latches := (rfl)
@[simp] theorem fset_treeRaw (a : Nat) (f : Fld) (v : Nat) : (fset s a f v).treeRaw = s.treeRaw := (rfl)
@[simp] theorem fset_treeHigh (a : Nat) (f : Fld) (v : Nat) : (fset s a f v).treeHigh = s.treeHigh := (rfl)
@[simp] theorem fset_treesHeld (a : Nat) (f : Fld) (v : Nat) : (fset s a f v).treesHeld = s.treesHeld := (rfl)
@[simp] theorem fset_resetRegions (a : Nat) (f : Fld) (v : Nat) : (fset s a f v).resetRegions = s.resetRegions := (rfl)
@[simp] theorem fset_pinOut (a : Nat) (f : Fld) (v : Nat) : (fset s a f v).pinOut = s.pinOut := (rfl)
@[simp] theorem fset_pinsHeld (a : Nat) (f : Fld) (v : Nat) : (fset s a f v).pinsHeld = s.pinsHeld := (rfl)
@[simp] theorem fset_fromHost (a : Nat) (f : Fld) (v : Nat) : (fset s a f v).fromHost = s.fromHost := (rfl)
@[simp] theorem fset_clamps (a : Nat) (f : Fld) (v : Nat) : (fset s a f v).clamps = s.clamps := (rfl)
@[simp] theorem fset_clampCount (a : Nat) (f : Fld) (v : Nat) : (fset s a f v).clampCount = s.clampCount := (rfl)
@[simp] theorem fset_mirrorWait (a : Nat) (f : Fld) (v : Nat) : (fset s a f v).mirrorWait = s.mirrorWait := (rfl)
@[simp] theorem fset_hiCap (a : Nat) (f : Fld) (v : Nat) : (fset s a f v).hiCap = s.hiCap := (rfl)
@[simp] theorem fset_result (a : Nat) (f : Fld) (v : Nat) : (fset s a f v).result = s.result := (rfl)
@[simp] theorem fset_reply (a : Nat) (f : Fld) (v : Nat) : (fset s a f v).reply = s.reply := (rfl)
@[simp] theorem fset_pcieUr (a : Nat) (f : Fld) (v : Nat) : (fset s a f v).pcieUr = s.pcieUr := (rfl)
@[simp] theorem fset_logQueue (a : Nat) (f : Fld) (v : Nat) : (fset s a f v).logQueue = s.logQueue := (rfl)
@[simp] theorem fset_logSeq (a : Nat) (f : Fld) (v : Nat) : (fset s a f v).logSeq = s.logSeq := (rfl)
@[simp] theorem fset_timeA (a : Nat) (f : Fld) (v : Nat) : (fset s a f v).timeA = s.timeA := (rfl)
@[simp] theorem fset_timeB (a : Nat) (f : Fld) (v : Nat) : (fset s a f v).timeB = s.timeB := (rfl)
@[simp] theorem fset_hem (a : Nat) (f : Fld) (v : Nat) : (fset s a f v).hem = s.hem := (rfl)
@[simp] theorem fset_acq (a : Nat) (f : Fld) (v : Nat) : (fset s a f v).acq = s.acq := (rfl)
@[simp] theorem fset_probes (a : Nat) (f : Fld) (v : Nat) : (fset s a f v).probes = s.probes := (rfl)
@[simp] theorem fset_trigPulse (a : Nat) (f : Fld) (v : Nat) : (fset s a f v).trigPulse = s.trigPulse := (rfl)
@[simp] theorem fset_busQueue (a : Nat) (f : Fld) (v : Nat) : (fset s a f v).busQueue = s.busQueue := (rfl)
@[simp] theorem fset_busSent (a : Nat) (f : Fld) (v : Nat) : (fset s a f v).busSent = s.busSent := (rfl)
@[simp] theorem fset_toHost (a : Nat) (f : Fld) (v : Nat) : (fset s a f v).toHost = s.toHost := (rfl)
@[simp] theorem fset_dmaQ (a : Nat) (f : Fld) (v : Nat) : (fset s a f v).dmaQ = s.dmaQ := (rfl)
@[simp] theorem fset_mbx (a : Nat) (f : Fld) (v : Nat) : (fset s a f v).mbx = s.mbx := (rfl)
@[simp] theorem fset_sessions (a : Nat) (f : Fld) (v : Nat) : (fset s a f v).sessions = s.sessions := (rfl)
@[simp] theorem fset_challenges (a : Nat) (f : Fld) (v : Nat) : (fset s a f v).challenges = s.challenges := (rfl)
@[simp] theorem fset_papSent (a : Nat) (f : Fld) (v : Nat) : (fset s a f v).papSent = s.papSent := (rfl)
@[simp] theorem fset_abortAt (a : Nat) (f : Fld) (v : Nat) : (fset s a f v).abortAt = s.abortAt := (rfl)
@[simp] theorem fset_ethPorts (a : Nat) (f : Fld) (v : Nat) : (fset s a f v).ethPorts = s.ethPorts := (rfl)
@[simp] theorem fset_ethSent (a : Nat) (f : Fld) (v : Nat) : (fset s a f v).ethSent = s.ethSent := (rfl)
@[simp] theorem fset_time (a : Nat) (f : Fld) (v : Nat) : (fset s a f v).time = s.time := (rfl)
@[simp] theorem fset_keys (a : Nat) (f : Fld) (v : Nat) : (fset s a f v).keys = s.keys := (rfl)
@[simp] theorem fset_copied (a : Nat) (f : Fld) (v : Nat) : (fset s a f v).copied = s.copied := (rfl)
@[simp] theorem fset_pprUsed (a : Nat) (f : Fld) (v : Nat) : (fset s a f v).pprUsed = s.pprUsed := (rfl)
@[simp] theorem fset_mapOut (a : Nat) (f : Fld) (v : Nat) : (fset s a f v).mapOut = s.mapOut := (rfl)
@[simp] theorem fset_scrub (a : Nat) (f : Fld) (v : Nat) : (fset s a f v).scrub = s.scrub := (rfl)
@[simp] theorem fset_sparesPend (a : Nat) (f : Fld) (v : Nat) : (fset s a f v).sparesPend = s.sparesPend := (rfl)
@[simp] theorem fset_deadTracks (a : Nat) (f : Fld) (v : Nat) : (fset s a f v).deadTracks = s.deadTracks := (rfl)
@[simp] theorem fset_spills (a : Nat) (f : Fld) (v : Nat) : (fset s a f v).spills = s.spills := (rfl)
@[simp] theorem fset_msix (a : Nat) (f : Fld) (v : Nat) : (fset s a f v).msix = s.msix := (rfl)
@[simp] theorem fset_colIrq (a : Nat) (f : Fld) (v : Nat) : (fset s a f v).colIrq = s.colIrq := (rfl)
@[simp] theorem fset_noc (a : Nat) (f : Fld) (v : Nat) : (fset s a f v).noc = s.noc := (rfl)
@[simp] theorem fset_nocTags (a : Nat) (f : Fld) (v : Nat) : (fset s a f v).nocTags = s.nocTags := (rfl)
@[simp] theorem fset_nocGens (a : Nat) (f : Fld) (v : Nat) : (fset s a f v).nocGens = s.nocGens := (rfl)
@[simp] theorem fset_nocAnswers (a : Nat) (f : Fld) (v : Nat) : (fset s a f v).nocAnswers = s.nocAnswers := (rfl)
@[simp] theorem fset_collar (a : Nat) (f : Fld) (v : Nat) : (fset s a f v).collar = s.collar := (rfl)
@[simp] theorem fset_logFlash (a : Nat) (f : Fld) (v : Nat) : (fset s a f v).logFlash = s.logFlash := (rfl)
@[simp] theorem fset_power (a : Nat) (f : Fld) (v : Nat) : (fset s a f v).power = s.power := (rfl)
@[simp] theorem fset_ticks (a : Nat) (f : Fld) (v : Nat) : (fset s a f v).ticks = s.ticks := (rfl)
@[simp] theorem fset_alert (a : Nat) (f : Fld) (v : Nat) : (fset s a f v).alert = s.alert := (rfl)
@[simp] theorem fset_free (a : Nat) (f : Fld) (v : Nat) : (fset s a f v).free = s.free := (rfl)
@[simp] theorem fset_pending (a : Nat) (f : Fld) (v : Nat) : (fset s a f v).pending = s.pending := (rfl)
@[simp] theorem memByte_fset (a : Nat) (f : Fld) (v : Nat) (x : Nat) : memByte (fset s a f v) x = memByte s x := (rfl)
@[simp] theorem memLE_fset (a : Nat) (f : Fld) (v : Nat) (x y : Nat) : memLE (fset s a f v) x y = memLE s x y := (rfl)
@[simp] theorem memBytes_fset (a : Nat) (f : Fld) (v : Nat) (x y : Nat) : memBytes (fset s a f v) x y = memBytes s x y := (rfl)
@[simp] theorem memBit_fset (a : Nat) (f : Fld) (v : Nat) (x y : Nat) : memBit (fset s a f v) x y = memBit s x y := (rfl)
@[simp] theorem oget_fset (a : Nat) (f : Fld) (v : Nat) (x : Nat) : oget (fset s a f v) x = oget s x := (rfl)
@[simp] theorem getCl_fset (a : Nat) (f : Fld) (v : Nat) (x : Nat) : getCl (fset s a f v) x = getCl s x := (rfl)
@[simp] theorem getDie_fset (a : Nat) (f : Fld) (v : Nat) (x : Nat) : getDie (fset s a f v) x = getDie s x := (rfl)
@[simp] theorem getPart_fset (a : Nat) (f : Fld) (v : Nat) (x : Nat) : getPart (fset s a f v) x = getPart s x := (rfl)

/-! ### fsets -/

@[simp] theorem fsets_mem (a : Nat) (l : List (Fld × Nat)) : (fsets s a l).mem = s.mem := (rfl)
@[simp] theorem fsets_wsched (a : Nat) (l : List (Fld × Nat)) : (fsets s a l).wsched = s.wsched := (rfl)
@[simp] theorem fsets_od (a : Nat) (l : List (Fld × Nat)) : (fsets s a l).od = s.od := (rfl)
@[simp] theorem fsets_clusters (a : Nat) (l : List (Fld × Nat)) : (fsets s a l).clusters = s.clusters := (rfl)
@[simp] theorem fsets_dies (a : Nat) (l : List (Fld × Nat)) : (fsets s a l).dies = s.dies := (rfl)
@[simp] theorem fsets_parts (a : Nat) (l : List (Fld × Nat)) : (fsets s a l).parts = s.parts := (rfl)
@[simp] theorem fsets_stages (a : Nat) (l : List (Fld × Nat)) : (fsets s a l).stages = s.stages := (rfl)
@[simp] theorem fsets_outbound (a : Nat) (l : List (Fld × Nat)) : (fsets s a l).outbound = s.outbound := (rfl)
@[simp] theorem fsets_ports (a : Nat) (l : List (Fld × Nat)) : (fsets s a l).ports = s.ports := (rfl)
@[simp] theorem fsets_rings (a : Nat) (l : List (Fld × Nat)) : (fsets s a l).rings = s.rings := (rfl)
@[simp] theorem fsets_inNext (a : Nat) (l : List (Fld × Nat)) : (fsets s a l).inNext = s.inNext := (rfl)
@[simp] theorem fsets_outNext (a : Nat) (l : List (Fld × Nat)) : (fsets s a l).outNext = s.outNext := (rfl)
@[simp] theorem fsets_fences (a : Nat) (l : List (Fld × Nat)) : (fsets s a l).fences = s.fences := (rfl)
@[simp] theorem fsets_frames (a : Nat) (l : List (Fld × Nat)) : (fsets s a l).frames = s.frames := (rfl)
@[simp] theorem fsets_goldenFrames (a : Nat) (l : List (Fld × Nat)) : (fsets s a l).goldenFrames = s.goldenFrames := (rfl)
@[simp] theorem fsets_slots (a : Nat) (l : List (Fld × Nat)) : (fsets s a l).slots = s.slots := (rfl)
@[simp] theorem fsets_cellQ (a : Nat) (l : List (Fld × Nat)) : (fsets s a l).cellQ = s.cellQ := (rfl)
@[simp] theorem fsets_pinIn (a : Nat) (l : List (Fld × Nat)) : (fsets s a l).pinIn = s.pinIn := (rfl)
@[simp] theorem fsets_pinReg (a : Nat) (l : List (Fld × Nat)) : (fsets s a l).pinReg = s.pinReg := (rfl)
@[simp] theorem fsets_latches (a : Nat) (l : List (Fld × Nat)) : (fsets s a l).latches = s.latches := (rfl)
@[simp] theorem fsets_treeRaw (a : Nat) (l : List (Fld × Nat)) : (fsets s a l).treeRaw = s.treeRaw := (rfl)
@[simp] theorem fsets_treeHigh (a : Nat) (l : List (Fld × Nat)) : (fsets s a l).treeHigh = s.treeHigh := (rfl)
@[simp] theorem fsets_treesHeld (a : Nat) (l : List (Fld × Nat)) : (fsets s a l).treesHeld = s.treesHeld := (rfl)
@[simp] theorem fsets_resetRegions (a : Nat) (l : List (Fld × Nat)) : (fsets s a l).resetRegions = s.resetRegions := (rfl)
@[simp] theorem fsets_pinOut (a : Nat) (l : List (Fld × Nat)) : (fsets s a l).pinOut = s.pinOut := (rfl)
@[simp] theorem fsets_pinsHeld (a : Nat) (l : List (Fld × Nat)) : (fsets s a l).pinsHeld = s.pinsHeld := (rfl)
@[simp] theorem fsets_fromHost (a : Nat) (l : List (Fld × Nat)) : (fsets s a l).fromHost = s.fromHost := (rfl)
@[simp] theorem fsets_clamps (a : Nat) (l : List (Fld × Nat)) : (fsets s a l).clamps = s.clamps := (rfl)
@[simp] theorem fsets_clampCount (a : Nat) (l : List (Fld × Nat)) : (fsets s a l).clampCount = s.clampCount := (rfl)
@[simp] theorem fsets_mirrorWait (a : Nat) (l : List (Fld × Nat)) : (fsets s a l).mirrorWait = s.mirrorWait := (rfl)
@[simp] theorem fsets_hiCap (a : Nat) (l : List (Fld × Nat)) : (fsets s a l).hiCap = s.hiCap := (rfl)
@[simp] theorem fsets_result (a : Nat) (l : List (Fld × Nat)) : (fsets s a l).result = s.result := (rfl)
@[simp] theorem fsets_reply (a : Nat) (l : List (Fld × Nat)) : (fsets s a l).reply = s.reply := (rfl)
@[simp] theorem fsets_pcieUr (a : Nat) (l : List (Fld × Nat)) : (fsets s a l).pcieUr = s.pcieUr := (rfl)
@[simp] theorem fsets_logQueue (a : Nat) (l : List (Fld × Nat)) : (fsets s a l).logQueue = s.logQueue := (rfl)
@[simp] theorem fsets_logSeq (a : Nat) (l : List (Fld × Nat)) : (fsets s a l).logSeq = s.logSeq := (rfl)
@[simp] theorem fsets_timeA (a : Nat) (l : List (Fld × Nat)) : (fsets s a l).timeA = s.timeA := (rfl)
@[simp] theorem fsets_timeB (a : Nat) (l : List (Fld × Nat)) : (fsets s a l).timeB = s.timeB := (rfl)
@[simp] theorem fsets_hem (a : Nat) (l : List (Fld × Nat)) : (fsets s a l).hem = s.hem := (rfl)
@[simp] theorem fsets_acq (a : Nat) (l : List (Fld × Nat)) : (fsets s a l).acq = s.acq := (rfl)
@[simp] theorem fsets_probes (a : Nat) (l : List (Fld × Nat)) : (fsets s a l).probes = s.probes := (rfl)
@[simp] theorem fsets_trigPulse (a : Nat) (l : List (Fld × Nat)) : (fsets s a l).trigPulse = s.trigPulse := (rfl)
@[simp] theorem fsets_busQueue (a : Nat) (l : List (Fld × Nat)) : (fsets s a l).busQueue = s.busQueue := (rfl)
@[simp] theorem fsets_busSent (a : Nat) (l : List (Fld × Nat)) : (fsets s a l).busSent = s.busSent := (rfl)
@[simp] theorem fsets_toHost (a : Nat) (l : List (Fld × Nat)) : (fsets s a l).toHost = s.toHost := (rfl)
@[simp] theorem fsets_dmaQ (a : Nat) (l : List (Fld × Nat)) : (fsets s a l).dmaQ = s.dmaQ := (rfl)
@[simp] theorem fsets_mbx (a : Nat) (l : List (Fld × Nat)) : (fsets s a l).mbx = s.mbx := (rfl)
@[simp] theorem fsets_sessions (a : Nat) (l : List (Fld × Nat)) : (fsets s a l).sessions = s.sessions := (rfl)
@[simp] theorem fsets_challenges (a : Nat) (l : List (Fld × Nat)) : (fsets s a l).challenges = s.challenges := (rfl)
@[simp] theorem fsets_papSent (a : Nat) (l : List (Fld × Nat)) : (fsets s a l).papSent = s.papSent := (rfl)
@[simp] theorem fsets_abortAt (a : Nat) (l : List (Fld × Nat)) : (fsets s a l).abortAt = s.abortAt := (rfl)
@[simp] theorem fsets_ethPorts (a : Nat) (l : List (Fld × Nat)) : (fsets s a l).ethPorts = s.ethPorts := (rfl)
@[simp] theorem fsets_ethSent (a : Nat) (l : List (Fld × Nat)) : (fsets s a l).ethSent = s.ethSent := (rfl)
@[simp] theorem fsets_time (a : Nat) (l : List (Fld × Nat)) : (fsets s a l).time = s.time := (rfl)
@[simp] theorem fsets_keys (a : Nat) (l : List (Fld × Nat)) : (fsets s a l).keys = s.keys := (rfl)
@[simp] theorem fsets_copied (a : Nat) (l : List (Fld × Nat)) : (fsets s a l).copied = s.copied := (rfl)
@[simp] theorem fsets_pprUsed (a : Nat) (l : List (Fld × Nat)) : (fsets s a l).pprUsed = s.pprUsed := (rfl)
@[simp] theorem fsets_mapOut (a : Nat) (l : List (Fld × Nat)) : (fsets s a l).mapOut = s.mapOut := (rfl)
@[simp] theorem fsets_scrub (a : Nat) (l : List (Fld × Nat)) : (fsets s a l).scrub = s.scrub := (rfl)
@[simp] theorem fsets_sparesPend (a : Nat) (l : List (Fld × Nat)) : (fsets s a l).sparesPend = s.sparesPend := (rfl)
@[simp] theorem fsets_deadTracks (a : Nat) (l : List (Fld × Nat)) : (fsets s a l).deadTracks = s.deadTracks := (rfl)
@[simp] theorem fsets_spills (a : Nat) (l : List (Fld × Nat)) : (fsets s a l).spills = s.spills := (rfl)
@[simp] theorem fsets_msix (a : Nat) (l : List (Fld × Nat)) : (fsets s a l).msix = s.msix := (rfl)
@[simp] theorem fsets_colIrq (a : Nat) (l : List (Fld × Nat)) : (fsets s a l).colIrq = s.colIrq := (rfl)
@[simp] theorem fsets_noc (a : Nat) (l : List (Fld × Nat)) : (fsets s a l).noc = s.noc := (rfl)
@[simp] theorem fsets_nocTags (a : Nat) (l : List (Fld × Nat)) : (fsets s a l).nocTags = s.nocTags := (rfl)
@[simp] theorem fsets_nocGens (a : Nat) (l : List (Fld × Nat)) : (fsets s a l).nocGens = s.nocGens := (rfl)
@[simp] theorem fsets_nocAnswers (a : Nat) (l : List (Fld × Nat)) : (fsets s a l).nocAnswers = s.nocAnswers := (rfl)
@[simp] theorem fsets_collar (a : Nat) (l : List (Fld × Nat)) : (fsets s a l).collar = s.collar := (rfl)
@[simp] theorem fsets_logFlash (a : Nat) (l : List (Fld × Nat)) : (fsets s a l).logFlash = s.logFlash := (rfl)
@[simp] theorem fsets_power (a : Nat) (l : List (Fld × Nat)) : (fsets s a l).power = s.power := (rfl)
@[simp] theorem fsets_ticks (a : Nat) (l : List (Fld × Nat)) : (fsets s a l).ticks = s.ticks := (rfl)
@[simp] theorem fsets_alert (a : Nat) (l : List (Fld × Nat)) : (fsets s a l).alert = s.alert := (rfl)
@[simp] theorem fsets_free (a : Nat) (l : List (Fld × Nat)) : (fsets s a l).free = s.free := (rfl)
@[simp] theorem fsets_pending (a : Nat) (l : List (Fld × Nat)) : (fsets s a l).pending = s.pending := (rfl)
@[simp] theorem memByte_fsets (a : Nat) (l : List (Fld × Nat)) (x : Nat) : memByte (fsets s a l) x = memByte s x := (rfl)
@[simp] theorem memLE_fsets (a : Nat) (l : List (Fld × Nat)) (x y : Nat) : memLE (fsets s a l) x y = memLE s x y := (rfl)
@[simp] theorem memBytes_fsets (a : Nat) (l : List (Fld × Nat)) (x y : Nat) : memBytes (fsets s a l) x y = memBytes s x y := (rfl)
@[simp] theorem memBit_fsets (a : Nat) (l : List (Fld × Nat)) (x y : Nat) : memBit (fsets s a l) x y = memBit s x y := (rfl)
@[simp] theorem oget_fsets (a : Nat) (l : List (Fld × Nat)) (x : Nat) : oget (fsets s a l) x = oget s x := (rfl)
@[simp] theorem getCl_fsets (a : Nat) (l : List (Fld × Nat)) (x : Nat) : getCl (fsets s a l) x = getCl s x := (rfl)
@[simp] theorem getDie_fsets (a : Nat) (l : List (Fld × Nat)) (x : Nat) : getDie (fsets s a l) x = getDie s x := (rfl)
@[simp] theorem getPart_fsets (a : Nat) (l : List (Fld × Nat)) (x : Nat) : getPart (fsets s a l) x = getPart s x := (rfl)

/-! ### fadd -/

@[simp] theorem fadd_mem (a : Nat) (f : Fld) (n : Nat) : (fadd s a f n).mem = s.mem := (rfl)
@[simp] theorem fadd_wsched (a : Nat) (f : Fld) (n : Nat) : (fadd s a f n).wsched = s.wsched := (rfl)
@[simp] theorem fadd_od (a : Nat) (f : Fld) (n : Nat) : (fadd s a f n).od = s.od := (rfl)
@[simp] theorem fadd_clusters (a : Nat) (f : Fld) (n : Nat) : (fadd s a f n).clusters = s.clusters := (rfl)
@[simp] theorem fadd_dies (a : Nat) (f : Fld) (n : Nat) : (fadd s a f n).dies = s.dies := (rfl)
@[simp] theorem fadd_parts (a : Nat) (f : Fld) (n : Nat) : (fadd s a f n).parts = s.parts := (rfl)
@[simp] theorem fadd_stages (a : Nat) (f : Fld) (n : Nat) : (fadd s a f n).stages = s.stages := (rfl)
@[simp] theorem fadd_outbound (a : Nat) (f : Fld) (n : Nat) : (fadd s a f n).outbound = s.outbound := (rfl)
@[simp] theorem fadd_ports (a : Nat) (f : Fld) (n : Nat) : (fadd s a f n).ports = s.ports := (rfl)
@[simp] theorem fadd_rings (a : Nat) (f : Fld) (n : Nat) : (fadd s a f n).rings = s.rings := (rfl)
@[simp] theorem fadd_inNext (a : Nat) (f : Fld) (n : Nat) : (fadd s a f n).inNext = s.inNext := (rfl)
@[simp] theorem fadd_outNext (a : Nat) (f : Fld) (n : Nat) : (fadd s a f n).outNext = s.outNext := (rfl)
@[simp] theorem fadd_fences (a : Nat) (f : Fld) (n : Nat) : (fadd s a f n).fences = s.fences := (rfl)
@[simp] theorem fadd_frames (a : Nat) (f : Fld) (n : Nat) : (fadd s a f n).frames = s.frames := (rfl)
@[simp] theorem fadd_goldenFrames (a : Nat) (f : Fld) (n : Nat) : (fadd s a f n).goldenFrames = s.goldenFrames := (rfl)
@[simp] theorem fadd_slots (a : Nat) (f : Fld) (n : Nat) : (fadd s a f n).slots = s.slots := (rfl)
@[simp] theorem fadd_cellQ (a : Nat) (f : Fld) (n : Nat) : (fadd s a f n).cellQ = s.cellQ := (rfl)
@[simp] theorem fadd_pinIn (a : Nat) (f : Fld) (n : Nat) : (fadd s a f n).pinIn = s.pinIn := (rfl)
@[simp] theorem fadd_pinReg (a : Nat) (f : Fld) (n : Nat) : (fadd s a f n).pinReg = s.pinReg := (rfl)
@[simp] theorem fadd_latches (a : Nat) (f : Fld) (n : Nat) : (fadd s a f n).latches = s.latches := (rfl)
@[simp] theorem fadd_treeRaw (a : Nat) (f : Fld) (n : Nat) : (fadd s a f n).treeRaw = s.treeRaw := (rfl)
@[simp] theorem fadd_treeHigh (a : Nat) (f : Fld) (n : Nat) : (fadd s a f n).treeHigh = s.treeHigh := (rfl)
@[simp] theorem fadd_treesHeld (a : Nat) (f : Fld) (n : Nat) : (fadd s a f n).treesHeld = s.treesHeld := (rfl)
@[simp] theorem fadd_resetRegions (a : Nat) (f : Fld) (n : Nat) : (fadd s a f n).resetRegions = s.resetRegions := (rfl)
@[simp] theorem fadd_pinOut (a : Nat) (f : Fld) (n : Nat) : (fadd s a f n).pinOut = s.pinOut := (rfl)
@[simp] theorem fadd_pinsHeld (a : Nat) (f : Fld) (n : Nat) : (fadd s a f n).pinsHeld = s.pinsHeld := (rfl)
@[simp] theorem fadd_fromHost (a : Nat) (f : Fld) (n : Nat) : (fadd s a f n).fromHost = s.fromHost := (rfl)
@[simp] theorem fadd_clamps (a : Nat) (f : Fld) (n : Nat) : (fadd s a f n).clamps = s.clamps := (rfl)
@[simp] theorem fadd_clampCount (a : Nat) (f : Fld) (n : Nat) : (fadd s a f n).clampCount = s.clampCount := (rfl)
@[simp] theorem fadd_mirrorWait (a : Nat) (f : Fld) (n : Nat) : (fadd s a f n).mirrorWait = s.mirrorWait := (rfl)
@[simp] theorem fadd_hiCap (a : Nat) (f : Fld) (n : Nat) : (fadd s a f n).hiCap = s.hiCap := (rfl)
@[simp] theorem fadd_result (a : Nat) (f : Fld) (n : Nat) : (fadd s a f n).result = s.result := (rfl)
@[simp] theorem fadd_reply (a : Nat) (f : Fld) (n : Nat) : (fadd s a f n).reply = s.reply := (rfl)
@[simp] theorem fadd_pcieUr (a : Nat) (f : Fld) (n : Nat) : (fadd s a f n).pcieUr = s.pcieUr := (rfl)
@[simp] theorem fadd_logQueue (a : Nat) (f : Fld) (n : Nat) : (fadd s a f n).logQueue = s.logQueue := (rfl)
@[simp] theorem fadd_logSeq (a : Nat) (f : Fld) (n : Nat) : (fadd s a f n).logSeq = s.logSeq := (rfl)
@[simp] theorem fadd_timeA (a : Nat) (f : Fld) (n : Nat) : (fadd s a f n).timeA = s.timeA := (rfl)
@[simp] theorem fadd_timeB (a : Nat) (f : Fld) (n : Nat) : (fadd s a f n).timeB = s.timeB := (rfl)
@[simp] theorem fadd_hem (a : Nat) (f : Fld) (n : Nat) : (fadd s a f n).hem = s.hem := (rfl)
@[simp] theorem fadd_acq (a : Nat) (f : Fld) (n : Nat) : (fadd s a f n).acq = s.acq := (rfl)
@[simp] theorem fadd_probes (a : Nat) (f : Fld) (n : Nat) : (fadd s a f n).probes = s.probes := (rfl)
@[simp] theorem fadd_trigPulse (a : Nat) (f : Fld) (n : Nat) : (fadd s a f n).trigPulse = s.trigPulse := (rfl)
@[simp] theorem fadd_busQueue (a : Nat) (f : Fld) (n : Nat) : (fadd s a f n).busQueue = s.busQueue := (rfl)
@[simp] theorem fadd_busSent (a : Nat) (f : Fld) (n : Nat) : (fadd s a f n).busSent = s.busSent := (rfl)
@[simp] theorem fadd_toHost (a : Nat) (f : Fld) (n : Nat) : (fadd s a f n).toHost = s.toHost := (rfl)
@[simp] theorem fadd_dmaQ (a : Nat) (f : Fld) (n : Nat) : (fadd s a f n).dmaQ = s.dmaQ := (rfl)
@[simp] theorem fadd_mbx (a : Nat) (f : Fld) (n : Nat) : (fadd s a f n).mbx = s.mbx := (rfl)
@[simp] theorem fadd_sessions (a : Nat) (f : Fld) (n : Nat) : (fadd s a f n).sessions = s.sessions := (rfl)
@[simp] theorem fadd_challenges (a : Nat) (f : Fld) (n : Nat) : (fadd s a f n).challenges = s.challenges := (rfl)
@[simp] theorem fadd_papSent (a : Nat) (f : Fld) (n : Nat) : (fadd s a f n).papSent = s.papSent := (rfl)
@[simp] theorem fadd_abortAt (a : Nat) (f : Fld) (n : Nat) : (fadd s a f n).abortAt = s.abortAt := (rfl)
@[simp] theorem fadd_ethPorts (a : Nat) (f : Fld) (n : Nat) : (fadd s a f n).ethPorts = s.ethPorts := (rfl)
@[simp] theorem fadd_ethSent (a : Nat) (f : Fld) (n : Nat) : (fadd s a f n).ethSent = s.ethSent := (rfl)
@[simp] theorem fadd_time (a : Nat) (f : Fld) (n : Nat) : (fadd s a f n).time = s.time := (rfl)
@[simp] theorem fadd_keys (a : Nat) (f : Fld) (n : Nat) : (fadd s a f n).keys = s.keys := (rfl)
@[simp] theorem fadd_copied (a : Nat) (f : Fld) (n : Nat) : (fadd s a f n).copied = s.copied := (rfl)
@[simp] theorem fadd_pprUsed (a : Nat) (f : Fld) (n : Nat) : (fadd s a f n).pprUsed = s.pprUsed := (rfl)
@[simp] theorem fadd_mapOut (a : Nat) (f : Fld) (n : Nat) : (fadd s a f n).mapOut = s.mapOut := (rfl)
@[simp] theorem fadd_scrub (a : Nat) (f : Fld) (n : Nat) : (fadd s a f n).scrub = s.scrub := (rfl)
@[simp] theorem fadd_sparesPend (a : Nat) (f : Fld) (n : Nat) : (fadd s a f n).sparesPend = s.sparesPend := (rfl)
@[simp] theorem fadd_deadTracks (a : Nat) (f : Fld) (n : Nat) : (fadd s a f n).deadTracks = s.deadTracks := (rfl)
@[simp] theorem fadd_spills (a : Nat) (f : Fld) (n : Nat) : (fadd s a f n).spills = s.spills := (rfl)
@[simp] theorem fadd_msix (a : Nat) (f : Fld) (n : Nat) : (fadd s a f n).msix = s.msix := (rfl)
@[simp] theorem fadd_colIrq (a : Nat) (f : Fld) (n : Nat) : (fadd s a f n).colIrq = s.colIrq := (rfl)
@[simp] theorem fadd_noc (a : Nat) (f : Fld) (n : Nat) : (fadd s a f n).noc = s.noc := (rfl)
@[simp] theorem fadd_nocTags (a : Nat) (f : Fld) (n : Nat) : (fadd s a f n).nocTags = s.nocTags := (rfl)
@[simp] theorem fadd_nocGens (a : Nat) (f : Fld) (n : Nat) : (fadd s a f n).nocGens = s.nocGens := (rfl)
@[simp] theorem fadd_nocAnswers (a : Nat) (f : Fld) (n : Nat) : (fadd s a f n).nocAnswers = s.nocAnswers := (rfl)
@[simp] theorem fadd_collar (a : Nat) (f : Fld) (n : Nat) : (fadd s a f n).collar = s.collar := (rfl)
@[simp] theorem fadd_logFlash (a : Nat) (f : Fld) (n : Nat) : (fadd s a f n).logFlash = s.logFlash := (rfl)
@[simp] theorem fadd_power (a : Nat) (f : Fld) (n : Nat) : (fadd s a f n).power = s.power := (rfl)
@[simp] theorem fadd_ticks (a : Nat) (f : Fld) (n : Nat) : (fadd s a f n).ticks = s.ticks := (rfl)
@[simp] theorem fadd_alert (a : Nat) (f : Fld) (n : Nat) : (fadd s a f n).alert = s.alert := (rfl)
@[simp] theorem fadd_free (a : Nat) (f : Fld) (n : Nat) : (fadd s a f n).free = s.free := (rfl)
@[simp] theorem fadd_pending (a : Nat) (f : Fld) (n : Nat) : (fadd s a f n).pending = s.pending := (rfl)
@[simp] theorem memByte_fadd (a : Nat) (f : Fld) (n : Nat) (x : Nat) : memByte (fadd s a f n) x = memByte s x := (rfl)
@[simp] theorem memLE_fadd (a : Nat) (f : Fld) (n : Nat) (x y : Nat) : memLE (fadd s a f n) x y = memLE s x y := (rfl)
@[simp] theorem memBytes_fadd (a : Nat) (f : Fld) (n : Nat) (x y : Nat) : memBytes (fadd s a f n) x y = memBytes s x y := (rfl)
@[simp] theorem memBit_fadd (a : Nat) (f : Fld) (n : Nat) (x y : Nat) : memBit (fadd s a f n) x y = memBit s x y := (rfl)
@[simp] theorem oget_fadd (a : Nat) (f : Fld) (n : Nat) (x : Nat) : oget (fadd s a f n) x = oget s x := (rfl)
@[simp] theorem getCl_fadd (a : Nat) (f : Fld) (n : Nat) (x : Nat) : getCl (fadd s a f n) x = getCl s x := (rfl)
@[simp] theorem getDie_fadd (a : Nat) (f : Fld) (n : Nat) (x : Nat) : getDie (fadd s a f n) x = getDie s x := (rfl)
@[simp] theorem getPart_fadd (a : Nat) (f : Fld) (n : Nat) (x : Nat) : getPart (fadd s a f n) x = getPart s x := (rfl)

/-! ### oset -/

@[simp] theorem oset_mem (k v : Nat) : (oset s k v).mem = s.mem := (rfl)
@[simp] theorem oset_wsched (k v : Nat) : (oset s k v).wsched = s.wsched := (rfl)
@[simp] theorem oset_regs (k v : Nat) : (oset s k v).regs = s.regs := (rfl)
@[simp] theorem oset_clusters (k v : Nat) : (oset s k v).clusters = s.clusters := (rfl)
@[simp] theorem oset_dies (k v : Nat) : (oset s k v).dies = s.dies := (rfl)
@[simp] theorem oset_parts (k v : Nat) : (oset s k v).parts = s.parts := (rfl)
@[simp] theorem oset_stages (k v : Nat) : (oset s k v).stages = s.stages := (rfl)
@[simp] theorem oset_outbound (k v : Nat) : (oset s k v).outbound = s.outbound := (rfl)
@[simp] theorem oset_ports (k v : Nat) : (oset s k v).ports = s.ports := (rfl)
@[simp] theorem oset_rings (k v : Nat) : (oset s k v).rings = s.rings := (rfl)
@[simp] theorem oset_inNext (k v : Nat) : (oset s k v).inNext = s.inNext := (rfl)
@[simp] theorem oset_outNext (k v : Nat) : (oset s k v).outNext = s.outNext := (rfl)
@[simp] theorem oset_fences (k v : Nat) : (oset s k v).fences = s.fences := (rfl)
@[simp] theorem oset_frames (k v : Nat) : (oset s k v).frames = s.frames := (rfl)
@[simp] theorem oset_goldenFrames (k v : Nat) : (oset s k v).goldenFrames = s.goldenFrames := (rfl)
@[simp] theorem oset_slots (k v : Nat) : (oset s k v).slots = s.slots := (rfl)
@[simp] theorem oset_cellQ (k v : Nat) : (oset s k v).cellQ = s.cellQ := (rfl)
@[simp] theorem oset_pinIn (k v : Nat) : (oset s k v).pinIn = s.pinIn := (rfl)
@[simp] theorem oset_pinReg (k v : Nat) : (oset s k v).pinReg = s.pinReg := (rfl)
@[simp] theorem oset_latches (k v : Nat) : (oset s k v).latches = s.latches := (rfl)
@[simp] theorem oset_treeRaw (k v : Nat) : (oset s k v).treeRaw = s.treeRaw := (rfl)
@[simp] theorem oset_treeHigh (k v : Nat) : (oset s k v).treeHigh = s.treeHigh := (rfl)
@[simp] theorem oset_treesHeld (k v : Nat) : (oset s k v).treesHeld = s.treesHeld := (rfl)
@[simp] theorem oset_resetRegions (k v : Nat) : (oset s k v).resetRegions = s.resetRegions := (rfl)
@[simp] theorem oset_pinOut (k v : Nat) : (oset s k v).pinOut = s.pinOut := (rfl)
@[simp] theorem oset_pinsHeld (k v : Nat) : (oset s k v).pinsHeld = s.pinsHeld := (rfl)
@[simp] theorem oset_fromHost (k v : Nat) : (oset s k v).fromHost = s.fromHost := (rfl)
@[simp] theorem oset_clamps (k v : Nat) : (oset s k v).clamps = s.clamps := (rfl)
@[simp] theorem oset_clampCount (k v : Nat) : (oset s k v).clampCount = s.clampCount := (rfl)
@[simp] theorem oset_mirrorWait (k v : Nat) : (oset s k v).mirrorWait = s.mirrorWait := (rfl)
@[simp] theorem oset_hiCap (k v : Nat) : (oset s k v).hiCap = s.hiCap := (rfl)
@[simp] theorem oset_result (k v : Nat) : (oset s k v).result = s.result := (rfl)
@[simp] theorem oset_reply (k v : Nat) : (oset s k v).reply = s.reply := (rfl)
@[simp] theorem oset_pcieUr (k v : Nat) : (oset s k v).pcieUr = s.pcieUr := (rfl)
@[simp] theorem oset_logQueue (k v : Nat) : (oset s k v).logQueue = s.logQueue := (rfl)
@[simp] theorem oset_logSeq (k v : Nat) : (oset s k v).logSeq = s.logSeq := (rfl)
@[simp] theorem oset_timeA (k v : Nat) : (oset s k v).timeA = s.timeA := (rfl)
@[simp] theorem oset_timeB (k v : Nat) : (oset s k v).timeB = s.timeB := (rfl)
@[simp] theorem oset_hem (k v : Nat) : (oset s k v).hem = s.hem := (rfl)
@[simp] theorem oset_acq (k v : Nat) : (oset s k v).acq = s.acq := (rfl)
@[simp] theorem oset_probes (k v : Nat) : (oset s k v).probes = s.probes := (rfl)
@[simp] theorem oset_trigPulse (k v : Nat) : (oset s k v).trigPulse = s.trigPulse := (rfl)
@[simp] theorem oset_busQueue (k v : Nat) : (oset s k v).busQueue = s.busQueue := (rfl)
@[simp] theorem oset_busSent (k v : Nat) : (oset s k v).busSent = s.busSent := (rfl)
@[simp] theorem oset_toHost (k v : Nat) : (oset s k v).toHost = s.toHost := (rfl)
@[simp] theorem oset_dmaQ (k v : Nat) : (oset s k v).dmaQ = s.dmaQ := (rfl)
@[simp] theorem oset_mbx (k v : Nat) : (oset s k v).mbx = s.mbx := (rfl)
@[simp] theorem oset_sessions (k v : Nat) : (oset s k v).sessions = s.sessions := (rfl)
@[simp] theorem oset_challenges (k v : Nat) : (oset s k v).challenges = s.challenges := (rfl)
@[simp] theorem oset_papSent (k v : Nat) : (oset s k v).papSent = s.papSent := (rfl)
@[simp] theorem oset_abortAt (k v : Nat) : (oset s k v).abortAt = s.abortAt := (rfl)
@[simp] theorem oset_ethPorts (k v : Nat) : (oset s k v).ethPorts = s.ethPorts := (rfl)
@[simp] theorem oset_ethSent (k v : Nat) : (oset s k v).ethSent = s.ethSent := (rfl)
@[simp] theorem oset_time (k v : Nat) : (oset s k v).time = s.time := (rfl)
@[simp] theorem oset_keys (k v : Nat) : (oset s k v).keys = s.keys := (rfl)
@[simp] theorem oset_copied (k v : Nat) : (oset s k v).copied = s.copied := (rfl)
@[simp] theorem oset_pprUsed (k v : Nat) : (oset s k v).pprUsed = s.pprUsed := (rfl)
@[simp] theorem oset_mapOut (k v : Nat) : (oset s k v).mapOut = s.mapOut := (rfl)
@[simp] theorem oset_scrub (k v : Nat) : (oset s k v).scrub = s.scrub := (rfl)
@[simp] theorem oset_sparesPend (k v : Nat) : (oset s k v).sparesPend = s.sparesPend := (rfl)
@[simp] theorem oset_deadTracks (k v : Nat) : (oset s k v).deadTracks = s.deadTracks := (rfl)
@[simp] theorem oset_spills (k v : Nat) : (oset s k v).spills = s.spills := (rfl)
@[simp] theorem oset_msix (k v : Nat) : (oset s k v).msix = s.msix := (rfl)
@[simp] theorem oset_colIrq (k v : Nat) : (oset s k v).colIrq = s.colIrq := (rfl)
@[simp] theorem oset_noc (k v : Nat) : (oset s k v).noc = s.noc := (rfl)
@[simp] theorem oset_nocTags (k v : Nat) : (oset s k v).nocTags = s.nocTags := (rfl)
@[simp] theorem oset_nocGens (k v : Nat) : (oset s k v).nocGens = s.nocGens := (rfl)
@[simp] theorem oset_nocAnswers (k v : Nat) : (oset s k v).nocAnswers = s.nocAnswers := (rfl)
@[simp] theorem oset_collar (k v : Nat) : (oset s k v).collar = s.collar := (rfl)
@[simp] theorem oset_logFlash (k v : Nat) : (oset s k v).logFlash = s.logFlash := (rfl)
@[simp] theorem oset_power (k v : Nat) : (oset s k v).power = s.power := (rfl)
@[simp] theorem oset_ticks (k v : Nat) : (oset s k v).ticks = s.ticks := (rfl)
@[simp] theorem oset_alert (k v : Nat) : (oset s k v).alert = s.alert := (rfl)
@[simp] theorem oset_free (k v : Nat) : (oset s k v).free = s.free := (rfl)
@[simp] theorem oset_pending (k v : Nat) : (oset s k v).pending = s.pending := (rfl)
@[simp] theorem memByte_oset (k v : Nat) (x : Nat) : memByte (oset s k v) x = memByte s x := (rfl)
@[simp] theorem memLE_oset (k v : Nat) (x y : Nat) : memLE (oset s k v) x y = memLE s x y := (rfl)
@[simp] theorem memBytes_oset (k v : Nat) (x y : Nat) : memBytes (oset s k v) x y = memBytes s x y := (rfl)
@[simp] theorem memBit_oset (k v : Nat) (x y : Nat) : memBit (oset s k v) x y = memBit s x y := (rfl)
@[simp] theorem rget_oset (k v : Nat) (x : Nat) : rget (oset s k v) x = rget s x := (rfl)
@[simp] theorem fget_oset (k v : Nat) (x : Nat) (g : Fld) : fget (oset s k v) x g = fget s x g := (rfl)
@[simp] theorem fbit_oset (k v : Nat) (x : Nat) (g : Fld) : fbit (oset s k v) x g = fbit s x g := (rfl)
@[simp] theorem getCl_oset (k v : Nat) (x : Nat) : getCl (oset s k v) x = getCl s x := (rfl)
@[simp] theorem getDie_oset (k v : Nat) (x : Nat) : getDie (oset s k v) x = getDie s x := (rfl)
@[simp] theorem getPart_oset (k v : Nat) (x : Nat) : getPart (oset s k v) x = getPart s x := (rfl)

/-! ### oinc -/

@[simp] theorem oinc_mem (k : Nat) : (oinc s k).mem = s.mem := (rfl)
@[simp] theorem oinc_wsched (k : Nat) : (oinc s k).wsched = s.wsched := (rfl)
@[simp] theorem oinc_regs (k : Nat) : (oinc s k).regs = s.regs := (rfl)
@[simp] theorem oinc_clusters (k : Nat) : (oinc s k).clusters = s.clusters := (rfl)
@[simp] theorem oinc_dies (k : Nat) : (oinc s k).dies = s.dies := (rfl)
@[simp] theorem oinc_parts (k : Nat) : (oinc s k).parts = s.parts := (rfl)
@[simp] theorem oinc_stages (k : Nat) : (oinc s k).stages = s.stages := (rfl)
@[simp] theorem oinc_outbound (k : Nat) : (oinc s k).outbound = s.outbound := (rfl)
@[simp] theorem oinc_ports (k : Nat) : (oinc s k).ports = s.ports := (rfl)
@[simp] theorem oinc_rings (k : Nat) : (oinc s k).rings = s.rings := (rfl)
@[simp] theorem oinc_inNext (k : Nat) : (oinc s k).inNext = s.inNext := (rfl)
@[simp] theorem oinc_outNext (k : Nat) : (oinc s k).outNext = s.outNext := (rfl)
@[simp] theorem oinc_fences (k : Nat) : (oinc s k).fences = s.fences := (rfl)
@[simp] theorem oinc_frames (k : Nat) : (oinc s k).frames = s.frames := (rfl)
@[simp] theorem oinc_goldenFrames (k : Nat) : (oinc s k).goldenFrames = s.goldenFrames := (rfl)
@[simp] theorem oinc_slots (k : Nat) : (oinc s k).slots = s.slots := (rfl)
@[simp] theorem oinc_cellQ (k : Nat) : (oinc s k).cellQ = s.cellQ := (rfl)
@[simp] theorem oinc_pinIn (k : Nat) : (oinc s k).pinIn = s.pinIn := (rfl)
@[simp] theorem oinc_pinReg (k : Nat) : (oinc s k).pinReg = s.pinReg := (rfl)
@[simp] theorem oinc_latches (k : Nat) : (oinc s k).latches = s.latches := (rfl)
@[simp] theorem oinc_treeRaw (k : Nat) : (oinc s k).treeRaw = s.treeRaw := (rfl)
@[simp] theorem oinc_treeHigh (k : Nat) : (oinc s k).treeHigh = s.treeHigh := (rfl)
@[simp] theorem oinc_treesHeld (k : Nat) : (oinc s k).treesHeld = s.treesHeld := (rfl)
@[simp] theorem oinc_resetRegions (k : Nat) : (oinc s k).resetRegions = s.resetRegions := (rfl)
@[simp] theorem oinc_pinOut (k : Nat) : (oinc s k).pinOut = s.pinOut := (rfl)
@[simp] theorem oinc_pinsHeld (k : Nat) : (oinc s k).pinsHeld = s.pinsHeld := (rfl)
@[simp] theorem oinc_fromHost (k : Nat) : (oinc s k).fromHost = s.fromHost := (rfl)
@[simp] theorem oinc_clamps (k : Nat) : (oinc s k).clamps = s.clamps := (rfl)
@[simp] theorem oinc_clampCount (k : Nat) : (oinc s k).clampCount = s.clampCount := (rfl)
@[simp] theorem oinc_mirrorWait (k : Nat) : (oinc s k).mirrorWait = s.mirrorWait := (rfl)
@[simp] theorem oinc_hiCap (k : Nat) : (oinc s k).hiCap = s.hiCap := (rfl)
@[simp] theorem oinc_result (k : Nat) : (oinc s k).result = s.result := (rfl)
@[simp] theorem oinc_reply (k : Nat) : (oinc s k).reply = s.reply := (rfl)
@[simp] theorem oinc_pcieUr (k : Nat) : (oinc s k).pcieUr = s.pcieUr := (rfl)
@[simp] theorem oinc_logQueue (k : Nat) : (oinc s k).logQueue = s.logQueue := (rfl)
@[simp] theorem oinc_logSeq (k : Nat) : (oinc s k).logSeq = s.logSeq := (rfl)
@[simp] theorem oinc_timeA (k : Nat) : (oinc s k).timeA = s.timeA := (rfl)
@[simp] theorem oinc_timeB (k : Nat) : (oinc s k).timeB = s.timeB := (rfl)
@[simp] theorem oinc_hem (k : Nat) : (oinc s k).hem = s.hem := (rfl)
@[simp] theorem oinc_acq (k : Nat) : (oinc s k).acq = s.acq := (rfl)
@[simp] theorem oinc_probes (k : Nat) : (oinc s k).probes = s.probes := (rfl)
@[simp] theorem oinc_trigPulse (k : Nat) : (oinc s k).trigPulse = s.trigPulse := (rfl)
@[simp] theorem oinc_busQueue (k : Nat) : (oinc s k).busQueue = s.busQueue := (rfl)
@[simp] theorem oinc_busSent (k : Nat) : (oinc s k).busSent = s.busSent := (rfl)
@[simp] theorem oinc_toHost (k : Nat) : (oinc s k).toHost = s.toHost := (rfl)
@[simp] theorem oinc_dmaQ (k : Nat) : (oinc s k).dmaQ = s.dmaQ := (rfl)
@[simp] theorem oinc_mbx (k : Nat) : (oinc s k).mbx = s.mbx := (rfl)
@[simp] theorem oinc_sessions (k : Nat) : (oinc s k).sessions = s.sessions := (rfl)
@[simp] theorem oinc_challenges (k : Nat) : (oinc s k).challenges = s.challenges := (rfl)
@[simp] theorem oinc_papSent (k : Nat) : (oinc s k).papSent = s.papSent := (rfl)
@[simp] theorem oinc_abortAt (k : Nat) : (oinc s k).abortAt = s.abortAt := (rfl)
@[simp] theorem oinc_ethPorts (k : Nat) : (oinc s k).ethPorts = s.ethPorts := (rfl)
@[simp] theorem oinc_ethSent (k : Nat) : (oinc s k).ethSent = s.ethSent := (rfl)
@[simp] theorem oinc_time (k : Nat) : (oinc s k).time = s.time := (rfl)
@[simp] theorem oinc_keys (k : Nat) : (oinc s k).keys = s.keys := (rfl)
@[simp] theorem oinc_copied (k : Nat) : (oinc s k).copied = s.copied := (rfl)
@[simp] theorem oinc_pprUsed (k : Nat) : (oinc s k).pprUsed = s.pprUsed := (rfl)
@[simp] theorem oinc_mapOut (k : Nat) : (oinc s k).mapOut = s.mapOut := (rfl)
@[simp] theorem oinc_scrub (k : Nat) : (oinc s k).scrub = s.scrub := (rfl)
@[simp] theorem oinc_sparesPend (k : Nat) : (oinc s k).sparesPend = s.sparesPend := (rfl)
@[simp] theorem oinc_deadTracks (k : Nat) : (oinc s k).deadTracks = s.deadTracks := (rfl)
@[simp] theorem oinc_spills (k : Nat) : (oinc s k).spills = s.spills := (rfl)
@[simp] theorem oinc_msix (k : Nat) : (oinc s k).msix = s.msix := (rfl)
@[simp] theorem oinc_colIrq (k : Nat) : (oinc s k).colIrq = s.colIrq := (rfl)
@[simp] theorem oinc_noc (k : Nat) : (oinc s k).noc = s.noc := (rfl)
@[simp] theorem oinc_nocTags (k : Nat) : (oinc s k).nocTags = s.nocTags := (rfl)
@[simp] theorem oinc_nocGens (k : Nat) : (oinc s k).nocGens = s.nocGens := (rfl)
@[simp] theorem oinc_nocAnswers (k : Nat) : (oinc s k).nocAnswers = s.nocAnswers := (rfl)
@[simp] theorem oinc_collar (k : Nat) : (oinc s k).collar = s.collar := (rfl)
@[simp] theorem oinc_logFlash (k : Nat) : (oinc s k).logFlash = s.logFlash := (rfl)
@[simp] theorem oinc_power (k : Nat) : (oinc s k).power = s.power := (rfl)
@[simp] theorem oinc_ticks (k : Nat) : (oinc s k).ticks = s.ticks := (rfl)
@[simp] theorem oinc_alert (k : Nat) : (oinc s k).alert = s.alert := (rfl)
@[simp] theorem oinc_free (k : Nat) : (oinc s k).free = s.free := (rfl)
@[simp] theorem oinc_pending (k : Nat) : (oinc s k).pending = s.pending := (rfl)
@[simp] theorem memByte_oinc (k : Nat) (x : Nat) : memByte (oinc s k) x = memByte s x := (rfl)
@[simp] theorem memLE_oinc (k : Nat) (x y : Nat) : memLE (oinc s k) x y = memLE s x y := (rfl)
@[simp] theorem memBytes_oinc (k : Nat) (x y : Nat) : memBytes (oinc s k) x y = memBytes s x y := (rfl)
@[simp] theorem memBit_oinc (k : Nat) (x y : Nat) : memBit (oinc s k) x y = memBit s x y := (rfl)
@[simp] theorem rget_oinc (k : Nat) (x : Nat) : rget (oinc s k) x = rget s x := (rfl)
@[simp] theorem fget_oinc (k : Nat) (x : Nat) (g : Fld) : fget (oinc s k) x g = fget s x g := (rfl)
@[simp] theorem fbit_oinc (k : Nat) (x : Nat) (g : Fld) : fbit (oinc s k) x g = fbit s x g := (rfl)
@[simp] theorem getCl_oinc (k : Nat) (x : Nat) : getCl (oinc s k) x = getCl s x := (rfl)
@[simp] theorem getDie_oinc (k : Nat) (x : Nat) : getDie (oinc s k) x = getDie s x := (rfl)
@[simp] theorem getPart_oinc (k : Nat) (x : Nat) : getPart (oinc s k) x = getPart s x := (rfl)

/-! ### setCl -/

@[simp] theorem setCl_mem (i : Nat) (k : Cluster) : (setCl s i k).mem = s.mem := (rfl)
@[simp] theorem setCl_wsched (i : Nat) (k : Cluster) : (setCl s i k).wsched = s.wsched := (rfl)
@[simp] theorem setCl_regs (i : Nat) (k : Cluster) : (setCl s i k).regs = s.regs := (rfl)
@[simp] theorem setCl_od (i : Nat) (k : Cluster) : (setCl s i k).od = s.od := (rfl)
@[simp] theorem setCl_dies (i : Nat) (k : Cluster) : (setCl s i k).dies = s.dies := (rfl)
@[simp] theorem setCl_parts (i : Nat) (k : Cluster) : (setCl s i k).parts = s.parts := (rfl)
@[simp] theorem setCl_stages (i : Nat) (k : Cluster) : (setCl s i k).stages = s.stages := (rfl)
@[simp] theorem setCl_outbound (i : Nat) (k : Cluster) : (setCl s i k).outbound = s.outbound := (rfl)
@[simp] theorem setCl_ports (i : Nat) (k : Cluster) : (setCl s i k).ports = s.ports := (rfl)
@[simp] theorem setCl_rings (i : Nat) (k : Cluster) : (setCl s i k).rings = s.rings := (rfl)
@[simp] theorem setCl_inNext (i : Nat) (k : Cluster) : (setCl s i k).inNext = s.inNext := (rfl)
@[simp] theorem setCl_outNext (i : Nat) (k : Cluster) : (setCl s i k).outNext = s.outNext := (rfl)
@[simp] theorem setCl_fences (i : Nat) (k : Cluster) : (setCl s i k).fences = s.fences := (rfl)
@[simp] theorem setCl_frames (i : Nat) (k : Cluster) : (setCl s i k).frames = s.frames := (rfl)
@[simp] theorem setCl_goldenFrames (i : Nat) (k : Cluster) : (setCl s i k).goldenFrames = s.goldenFrames := (rfl)
@[simp] theorem setCl_slots (i : Nat) (k : Cluster) : (setCl s i k).slots = s.slots := (rfl)
@[simp] theorem setCl_cellQ (i : Nat) (k : Cluster) : (setCl s i k).cellQ = s.cellQ := (rfl)
@[simp] theorem setCl_pinIn (i : Nat) (k : Cluster) : (setCl s i k).pinIn = s.pinIn := (rfl)
@[simp] theorem setCl_pinReg (i : Nat) (k : Cluster) : (setCl s i k).pinReg = s.pinReg := (rfl)
@[simp] theorem setCl_latches (i : Nat) (k : Cluster) : (setCl s i k).latches = s.latches := (rfl)
@[simp] theorem setCl_treeRaw (i : Nat) (k : Cluster) : (setCl s i k).treeRaw = s.treeRaw := (rfl)
@[simp] theorem setCl_treeHigh (i : Nat) (k : Cluster) : (setCl s i k).treeHigh = s.treeHigh := (rfl)
@[simp] theorem setCl_treesHeld (i : Nat) (k : Cluster) : (setCl s i k).treesHeld = s.treesHeld := (rfl)
@[simp] theorem setCl_resetRegions (i : Nat) (k : Cluster) : (setCl s i k).resetRegions = s.resetRegions := (rfl)
@[simp] theorem setCl_pinOut (i : Nat) (k : Cluster) : (setCl s i k).pinOut = s.pinOut := (rfl)
@[simp] theorem setCl_pinsHeld (i : Nat) (k : Cluster) : (setCl s i k).pinsHeld = s.pinsHeld := (rfl)
@[simp] theorem setCl_fromHost (i : Nat) (k : Cluster) : (setCl s i k).fromHost = s.fromHost := (rfl)
@[simp] theorem setCl_clamps (i : Nat) (k : Cluster) : (setCl s i k).clamps = s.clamps := (rfl)
@[simp] theorem setCl_clampCount (i : Nat) (k : Cluster) : (setCl s i k).clampCount = s.clampCount := (rfl)
@[simp] theorem setCl_mirrorWait (i : Nat) (k : Cluster) : (setCl s i k).mirrorWait = s.mirrorWait := (rfl)
@[simp] theorem setCl_hiCap (i : Nat) (k : Cluster) : (setCl s i k).hiCap = s.hiCap := (rfl)
@[simp] theorem setCl_result (i : Nat) (k : Cluster) : (setCl s i k).result = s.result := (rfl)
@[simp] theorem setCl_reply (i : Nat) (k : Cluster) : (setCl s i k).reply = s.reply := (rfl)
@[simp] theorem setCl_pcieUr (i : Nat) (k : Cluster) : (setCl s i k).pcieUr = s.pcieUr := (rfl)
@[simp] theorem setCl_logQueue (i : Nat) (k : Cluster) : (setCl s i k).logQueue = s.logQueue := (rfl)
@[simp] theorem setCl_logSeq (i : Nat) (k : Cluster) : (setCl s i k).logSeq = s.logSeq := (rfl)
@[simp] theorem setCl_timeA (i : Nat) (k : Cluster) : (setCl s i k).timeA = s.timeA := (rfl)
@[simp] theorem setCl_timeB (i : Nat) (k : Cluster) : (setCl s i k).timeB = s.timeB := (rfl)
@[simp] theorem setCl_hem (i : Nat) (k : Cluster) : (setCl s i k).hem = s.hem := (rfl)
@[simp] theorem setCl_acq (i : Nat) (k : Cluster) : (setCl s i k).acq = s.acq := (rfl)
@[simp] theorem setCl_probes (i : Nat) (k : Cluster) : (setCl s i k).probes = s.probes := (rfl)
@[simp] theorem setCl_trigPulse (i : Nat) (k : Cluster) : (setCl s i k).trigPulse = s.trigPulse := (rfl)
@[simp] theorem setCl_busQueue (i : Nat) (k : Cluster) : (setCl s i k).busQueue = s.busQueue := (rfl)
@[simp] theorem setCl_busSent (i : Nat) (k : Cluster) : (setCl s i k).busSent = s.busSent := (rfl)
@[simp] theorem setCl_toHost (i : Nat) (k : Cluster) : (setCl s i k).toHost = s.toHost := (rfl)
@[simp] theorem setCl_dmaQ (i : Nat) (k : Cluster) : (setCl s i k).dmaQ = s.dmaQ := (rfl)
@[simp] theorem setCl_mbx (i : Nat) (k : Cluster) : (setCl s i k).mbx = s.mbx := (rfl)
@[simp] theorem setCl_sessions (i : Nat) (k : Cluster) : (setCl s i k).sessions = s.sessions := (rfl)
@[simp] theorem setCl_challenges (i : Nat) (k : Cluster) : (setCl s i k).challenges = s.challenges := (rfl)
@[simp] theorem setCl_papSent (i : Nat) (k : Cluster) : (setCl s i k).papSent = s.papSent := (rfl)
@[simp] theorem setCl_abortAt (i : Nat) (k : Cluster) : (setCl s i k).abortAt = s.abortAt := (rfl)
@[simp] theorem setCl_ethPorts (i : Nat) (k : Cluster) : (setCl s i k).ethPorts = s.ethPorts := (rfl)
@[simp] theorem setCl_ethSent (i : Nat) (k : Cluster) : (setCl s i k).ethSent = s.ethSent := (rfl)
@[simp] theorem setCl_time (i : Nat) (k : Cluster) : (setCl s i k).time = s.time := (rfl)
@[simp] theorem setCl_keys (i : Nat) (k : Cluster) : (setCl s i k).keys = s.keys := (rfl)
@[simp] theorem setCl_copied (i : Nat) (k : Cluster) : (setCl s i k).copied = s.copied := (rfl)
@[simp] theorem setCl_pprUsed (i : Nat) (k : Cluster) : (setCl s i k).pprUsed = s.pprUsed := (rfl)
@[simp] theorem setCl_mapOut (i : Nat) (k : Cluster) : (setCl s i k).mapOut = s.mapOut := (rfl)
@[simp] theorem setCl_scrub (i : Nat) (k : Cluster) : (setCl s i k).scrub = s.scrub := (rfl)
@[simp] theorem setCl_sparesPend (i : Nat) (k : Cluster) : (setCl s i k).sparesPend = s.sparesPend := (rfl)
@[simp] theorem setCl_deadTracks (i : Nat) (k : Cluster) : (setCl s i k).deadTracks = s.deadTracks := (rfl)
@[simp] theorem setCl_spills (i : Nat) (k : Cluster) : (setCl s i k).spills = s.spills := (rfl)
@[simp] theorem setCl_msix (i : Nat) (k : Cluster) : (setCl s i k).msix = s.msix := (rfl)
@[simp] theorem setCl_colIrq (i : Nat) (k : Cluster) : (setCl s i k).colIrq = s.colIrq := (rfl)
@[simp] theorem setCl_noc (i : Nat) (k : Cluster) : (setCl s i k).noc = s.noc := (rfl)
@[simp] theorem setCl_nocTags (i : Nat) (k : Cluster) : (setCl s i k).nocTags = s.nocTags := (rfl)
@[simp] theorem setCl_nocGens (i : Nat) (k : Cluster) : (setCl s i k).nocGens = s.nocGens := (rfl)
@[simp] theorem setCl_nocAnswers (i : Nat) (k : Cluster) : (setCl s i k).nocAnswers = s.nocAnswers := (rfl)
@[simp] theorem setCl_collar (i : Nat) (k : Cluster) : (setCl s i k).collar = s.collar := (rfl)
@[simp] theorem setCl_logFlash (i : Nat) (k : Cluster) : (setCl s i k).logFlash = s.logFlash := (rfl)
@[simp] theorem setCl_power (i : Nat) (k : Cluster) : (setCl s i k).power = s.power := (rfl)
@[simp] theorem setCl_ticks (i : Nat) (k : Cluster) : (setCl s i k).ticks = s.ticks := (rfl)
@[simp] theorem setCl_alert (i : Nat) (k : Cluster) : (setCl s i k).alert = s.alert := (rfl)
@[simp] theorem setCl_free (i : Nat) (k : Cluster) : (setCl s i k).free = s.free := (rfl)
@[simp] theorem setCl_pending (i : Nat) (k : Cluster) : (setCl s i k).pending = s.pending := (rfl)
@[simp] theorem memByte_setCl (i : Nat) (k : Cluster) (x : Nat) : memByte (setCl s i k) x = memByte s x := (rfl)
@[simp] theorem memLE_setCl (i : Nat) (k : Cluster) (x y : Nat) : memLE (setCl s i k) x y = memLE s x y := (rfl)
@[simp] theorem memBytes_setCl (i : Nat) (k : Cluster) (x y : Nat) : memBytes (setCl s i k) x y = memBytes s x y := (rfl)
@[simp] theorem memBit_setCl (i : Nat) (k : Cluster) (x y : Nat) : memBit (setCl s i k) x y = memBit s x y := (rfl)
@[simp] theorem rget_setCl (i : Nat) (k : Cluster) (x : Nat) : rget (setCl s i k) x = rget s x := (rfl)
@[simp] theorem fget_setCl (i : Nat) (k : Cluster) (x : Nat) (g : Fld) : fget (setCl s i k) x g = fget s x g := (rfl)
@[simp] theorem fbit_setCl (i : Nat) (k : Cluster) (x : Nat) (g : Fld) : fbit (setCl s i k) x g = fbit s x g := (rfl)
@[simp] theorem oget_setCl (i : Nat) (k : Cluster) (x : Nat) : oget (setCl s i k) x = oget s x := (rfl)
@[simp] theorem getDie_setCl (i : Nat) (k : Cluster) (x : Nat) : getDie (setCl s i k) x = getDie s x := (rfl)
@[simp] theorem getPart_setCl (i : Nat) (k : Cluster) (x : Nat) : getPart (setCl s i k) x = getPart s x := (rfl)

/-! ### setDie -/

@[simp] theorem setDie_mem (d : Nat) (e : Die) : (setDie s d e).mem = s.mem := (rfl)
@[simp] theorem setDie_wsched (d : Nat) (e : Die) : (setDie s d e).wsched = s.wsched := (rfl)
@[simp] theorem setDie_regs (d : Nat) (e : Die) : (setDie s d e).regs = s.regs := (rfl)
@[simp] theorem setDie_od (d : Nat) (e : Die) : (setDie s d e).od = s.od := (rfl)
@[simp] theorem setDie_clusters (d : Nat) (e : Die) : (setDie s d e).clusters = s.clusters := (rfl)
@[simp] theorem setDie_parts (d : Nat) (e : Die) : (setDie s d e).parts = s.parts := (rfl)
@[simp] theorem setDie_stages (d : Nat) (e : Die) : (setDie s d e).stages = s.stages := (rfl)
@[simp] theorem setDie_outbound (d : Nat) (e : Die) : (setDie s d e).outbound = s.outbound := (rfl)
@[simp] theorem setDie_ports (d : Nat) (e : Die) : (setDie s d e).ports = s.ports := (rfl)
@[simp] theorem setDie_rings (d : Nat) (e : Die) : (setDie s d e).rings = s.rings := (rfl)
@[simp] theorem setDie_inNext (d : Nat) (e : Die) : (setDie s d e).inNext = s.inNext := (rfl)
@[simp] theorem setDie_outNext (d : Nat) (e : Die) : (setDie s d e).outNext = s.outNext := (rfl)
@[simp] theorem setDie_fences (d : Nat) (e : Die) : (setDie s d e).fences = s.fences := (rfl)
@[simp] theorem setDie_frames (d : Nat) (e : Die) : (setDie s d e).frames = s.frames := (rfl)
@[simp] theorem setDie_goldenFrames (d : Nat) (e : Die) : (setDie s d e).goldenFrames = s.goldenFrames := (rfl)
@[simp] theorem setDie_slots (d : Nat) (e : Die) : (setDie s d e).slots = s.slots := (rfl)
@[simp] theorem setDie_cellQ (d : Nat) (e : Die) : (setDie s d e).cellQ = s.cellQ := (rfl)
@[simp] theorem setDie_pinIn (d : Nat) (e : Die) : (setDie s d e).pinIn = s.pinIn := (rfl)
@[simp] theorem setDie_pinReg (d : Nat) (e : Die) : (setDie s d e).pinReg = s.pinReg := (rfl)
@[simp] theorem setDie_latches (d : Nat) (e : Die) : (setDie s d e).latches = s.latches := (rfl)
@[simp] theorem setDie_treeRaw (d : Nat) (e : Die) : (setDie s d e).treeRaw = s.treeRaw := (rfl)
@[simp] theorem setDie_treeHigh (d : Nat) (e : Die) : (setDie s d e).treeHigh = s.treeHigh := (rfl)
@[simp] theorem setDie_treesHeld (d : Nat) (e : Die) : (setDie s d e).treesHeld = s.treesHeld := (rfl)
@[simp] theorem setDie_resetRegions (d : Nat) (e : Die) : (setDie s d e).resetRegions = s.resetRegions := (rfl)
@[simp] theorem setDie_pinOut (d : Nat) (e : Die) : (setDie s d e).pinOut = s.pinOut := (rfl)
@[simp] theorem setDie_pinsHeld (d : Nat) (e : Die) : (setDie s d e).pinsHeld = s.pinsHeld := (rfl)
@[simp] theorem setDie_fromHost (d : Nat) (e : Die) : (setDie s d e).fromHost = s.fromHost := (rfl)
@[simp] theorem setDie_clamps (d : Nat) (e : Die) : (setDie s d e).clamps = s.clamps := (rfl)
@[simp] theorem setDie_clampCount (d : Nat) (e : Die) : (setDie s d e).clampCount = s.clampCount := (rfl)
@[simp] theorem setDie_mirrorWait (d : Nat) (e : Die) : (setDie s d e).mirrorWait = s.mirrorWait := (rfl)
@[simp] theorem setDie_hiCap (d : Nat) (e : Die) : (setDie s d e).hiCap = s.hiCap := (rfl)
@[simp] theorem setDie_result (d : Nat) (e : Die) : (setDie s d e).result = s.result := (rfl)
@[simp] theorem setDie_reply (d : Nat) (e : Die) : (setDie s d e).reply = s.reply := (rfl)
@[simp] theorem setDie_pcieUr (d : Nat) (e : Die) : (setDie s d e).pcieUr = s.pcieUr := (rfl)
@[simp] theorem setDie_logQueue (d : Nat) (e : Die) : (setDie s d e).logQueue = s.logQueue := (rfl)
@[simp] theorem setDie_logSeq (d : Nat) (e : Die) : (setDie s d e).logSeq = s.logSeq := (rfl)
@[simp] theorem setDie_timeA (d : Nat) (e : Die) : (setDie s d e).timeA = s.timeA := (rfl)
@[simp] theorem setDie_timeB (d : Nat) (e : Die) : (setDie s d e).timeB = s.timeB := (rfl)
@[simp] theorem setDie_hem (d : Nat) (e : Die) : (setDie s d e).hem = s.hem := (rfl)
@[simp] theorem setDie_acq (d : Nat) (e : Die) : (setDie s d e).acq = s.acq := (rfl)
@[simp] theorem setDie_probes (d : Nat) (e : Die) : (setDie s d e).probes = s.probes := (rfl)
@[simp] theorem setDie_trigPulse (d : Nat) (e : Die) : (setDie s d e).trigPulse = s.trigPulse := (rfl)
@[simp] theorem setDie_busQueue (d : Nat) (e : Die) : (setDie s d e).busQueue = s.busQueue := (rfl)
@[simp] theorem setDie_busSent (d : Nat) (e : Die) : (setDie s d e).busSent = s.busSent := (rfl)
@[simp] theorem setDie_toHost (d : Nat) (e : Die) : (setDie s d e).toHost = s.toHost := (rfl)
@[simp] theorem setDie_dmaQ (d : Nat) (e : Die) : (setDie s d e).dmaQ = s.dmaQ := (rfl)
@[simp] theorem setDie_mbx (d : Nat) (e : Die) : (setDie s d e).mbx = s.mbx := (rfl)
@[simp] theorem setDie_sessions (d : Nat) (e : Die) : (setDie s d e).sessions = s.sessions := (rfl)
@[simp] theorem setDie_challenges (d : Nat) (e : Die) : (setDie s d e).challenges = s.challenges := (rfl)
@[simp] theorem setDie_papSent (d : Nat) (e : Die) : (setDie s d e).papSent = s.papSent := (rfl)
@[simp] theorem setDie_abortAt (d : Nat) (e : Die) : (setDie s d e).abortAt = s.abortAt := (rfl)
@[simp] theorem setDie_ethPorts (d : Nat) (e : Die) : (setDie s d e).ethPorts = s.ethPorts := (rfl)
@[simp] theorem setDie_ethSent (d : Nat) (e : Die) : (setDie s d e).ethSent = s.ethSent := (rfl)
@[simp] theorem setDie_time (d : Nat) (e : Die) : (setDie s d e).time = s.time := (rfl)
@[simp] theorem setDie_keys (d : Nat) (e : Die) : (setDie s d e).keys = s.keys := (rfl)
@[simp] theorem setDie_copied (d : Nat) (e : Die) : (setDie s d e).copied = s.copied := (rfl)
@[simp] theorem setDie_pprUsed (d : Nat) (e : Die) : (setDie s d e).pprUsed = s.pprUsed := (rfl)
@[simp] theorem setDie_mapOut (d : Nat) (e : Die) : (setDie s d e).mapOut = s.mapOut := (rfl)
@[simp] theorem setDie_scrub (d : Nat) (e : Die) : (setDie s d e).scrub = s.scrub := (rfl)
@[simp] theorem setDie_sparesPend (d : Nat) (e : Die) : (setDie s d e).sparesPend = s.sparesPend := (rfl)
@[simp] theorem setDie_deadTracks (d : Nat) (e : Die) : (setDie s d e).deadTracks = s.deadTracks := (rfl)
@[simp] theorem setDie_spills (d : Nat) (e : Die) : (setDie s d e).spills = s.spills := (rfl)
@[simp] theorem setDie_msix (d : Nat) (e : Die) : (setDie s d e).msix = s.msix := (rfl)
@[simp] theorem setDie_colIrq (d : Nat) (e : Die) : (setDie s d e).colIrq = s.colIrq := (rfl)
@[simp] theorem setDie_noc (d : Nat) (e : Die) : (setDie s d e).noc = s.noc := (rfl)
@[simp] theorem setDie_nocTags (d : Nat) (e : Die) : (setDie s d e).nocTags = s.nocTags := (rfl)
@[simp] theorem setDie_nocGens (d : Nat) (e : Die) : (setDie s d e).nocGens = s.nocGens := (rfl)
@[simp] theorem setDie_nocAnswers (d : Nat) (e : Die) : (setDie s d e).nocAnswers = s.nocAnswers := (rfl)
@[simp] theorem setDie_collar (d : Nat) (e : Die) : (setDie s d e).collar = s.collar := (rfl)
@[simp] theorem setDie_logFlash (d : Nat) (e : Die) : (setDie s d e).logFlash = s.logFlash := (rfl)
@[simp] theorem setDie_power (d : Nat) (e : Die) : (setDie s d e).power = s.power := (rfl)
@[simp] theorem setDie_ticks (d : Nat) (e : Die) : (setDie s d e).ticks = s.ticks := (rfl)
@[simp] theorem setDie_alert (d : Nat) (e : Die) : (setDie s d e).alert = s.alert := (rfl)
@[simp] theorem setDie_free (d : Nat) (e : Die) : (setDie s d e).free = s.free := (rfl)
@[simp] theorem setDie_pending (d : Nat) (e : Die) : (setDie s d e).pending = s.pending := (rfl)
@[simp] theorem memByte_setDie (d : Nat) (e : Die) (x : Nat) : memByte (setDie s d e) x = memByte s x := (rfl)
@[simp] theorem memLE_setDie (d : Nat) (e : Die) (x y : Nat) : memLE (setDie s d e) x y = memLE s x y := (rfl)
@[simp] theorem memBytes_setDie (d : Nat) (e : Die) (x y : Nat) : memBytes (setDie s d e) x y = memBytes s x y := (rfl)
@[simp] theorem memBit_setDie (d : Nat) (e : Die) (x y : Nat) : memBit (setDie s d e) x y = memBit s x y := (rfl)
@[simp] theorem rget_setDie (d : Nat) (e : Die) (x : Nat) : rget (setDie s d e) x = rget s x := (rfl)
@[simp] theorem fget_setDie (d : Nat) (e : Die) (x : Nat) (g : Fld) : fget (setDie s d e) x g = fget s x g := (rfl)
@[simp] theorem fbit_setDie (d : Nat) (e : Die) (x : Nat) (g : Fld) : fbit (setDie s d e) x g = fbit s x g := (rfl)
@[simp] theorem oget_setDie (d : Nat) (e : Die) (x : Nat) : oget (setDie s d e) x = oget s x := (rfl)
@[simp] theorem getCl_setDie (d : Nat) (e : Die) (x : Nat) : getCl (setDie s d e) x = getCl s x := (rfl)
@[simp] theorem getPart_setDie (d : Nat) (e : Die) (x : Nat) : getPart (setDie s d e) x = getPart s x := (rfl)

/-! ### setPart -/

@[simp] theorem setPart_mem (p : Nat) (e : Part) : (setPart s p e).mem = s.mem := (rfl)
@[simp] theorem setPart_wsched (p : Nat) (e : Part) : (setPart s p e).wsched = s.wsched := (rfl)
@[simp] theorem setPart_regs (p : Nat) (e : Part) : (setPart s p e).regs = s.regs := (rfl)
@[simp] theorem setPart_od (p : Nat) (e : Part) : (setPart s p e).od = s.od := (rfl)
@[simp] theorem setPart_clusters (p : Nat) (e : Part) : (setPart s p e).clusters = s.clusters := (rfl)
@[simp] theorem setPart_dies (p : Nat) (e : Part) : (setPart s p e).dies = s.dies := (rfl)
@[simp] theorem setPart_stages (p : Nat) (e : Part) : (setPart s p e).stages = s.stages := (rfl)
@[simp] theorem setPart_outbound (p : Nat) (e : Part) : (setPart s p e).outbound = s.outbound := (rfl)
@[simp] theorem setPart_ports (p : Nat) (e : Part) : (setPart s p e).ports = s.ports := (rfl)
@[simp] theorem setPart_rings (p : Nat) (e : Part) : (setPart s p e).rings = s.rings := (rfl)
@[simp] theorem setPart_inNext (p : Nat) (e : Part) : (setPart s p e).inNext = s.inNext := (rfl)
@[simp] theorem setPart_outNext (p : Nat) (e : Part) : (setPart s p e).outNext = s.outNext := (rfl)
@[simp] theorem setPart_fences (p : Nat) (e : Part) : (setPart s p e).fences = s.fences := (rfl)
@[simp] theorem setPart_frames (p : Nat) (e : Part) : (setPart s p e).frames = s.frames := (rfl)
@[simp] theorem setPart_goldenFrames (p : Nat) (e : Part) : (setPart s p e).goldenFrames = s.goldenFrames := (rfl)
@[simp] theorem setPart_slots (p : Nat) (e : Part) : (setPart s p e).slots = s.slots := (rfl)
@[simp] theorem setPart_cellQ (p : Nat) (e : Part) : (setPart s p e).cellQ = s.cellQ := (rfl)
@[simp] theorem setPart_pinIn (p : Nat) (e : Part) : (setPart s p e).pinIn = s.pinIn := (rfl)
@[simp] theorem setPart_pinReg (p : Nat) (e : Part) : (setPart s p e).pinReg = s.pinReg := (rfl)
@[simp] theorem setPart_latches (p : Nat) (e : Part) : (setPart s p e).latches = s.latches := (rfl)
@[simp] theorem setPart_treeRaw (p : Nat) (e : Part) : (setPart s p e).treeRaw = s.treeRaw := (rfl)
@[simp] theorem setPart_treeHigh (p : Nat) (e : Part) : (setPart s p e).treeHigh = s.treeHigh := (rfl)
@[simp] theorem setPart_treesHeld (p : Nat) (e : Part) : (setPart s p e).treesHeld = s.treesHeld := (rfl)
@[simp] theorem setPart_resetRegions (p : Nat) (e : Part) : (setPart s p e).resetRegions = s.resetRegions := (rfl)
@[simp] theorem setPart_pinOut (p : Nat) (e : Part) : (setPart s p e).pinOut = s.pinOut := (rfl)
@[simp] theorem setPart_pinsHeld (p : Nat) (e : Part) : (setPart s p e).pinsHeld = s.pinsHeld := (rfl)
@[simp] theorem setPart_fromHost (p : Nat) (e : Part) : (setPart s p e).fromHost = s.fromHost := (rfl)
@[simp] theorem setPart_clamps (p : Nat) (e : Part) : (setPart s p e).clamps = s.clamps := (rfl)
@[simp] theorem setPart_clampCount (p : Nat) (e : Part) : (setPart s p e).clampCount = s.clampCount := (rfl)
@[simp] theorem setPart_mirrorWait (p : Nat) (e : Part) : (setPart s p e).mirrorWait = s.mirrorWait := (rfl)
@[simp] theorem setPart_hiCap (p : Nat) (e : Part) : (setPart s p e).hiCap = s.hiCap := (rfl)
@[simp] theorem setPart_result (p : Nat) (e : Part) : (setPart s p e).result = s.result := (rfl)
@[simp] theorem setPart_reply (p : Nat) (e : Part) : (setPart s p e).reply = s.reply := (rfl)
@[simp] theorem setPart_pcieUr (p : Nat) (e : Part) : (setPart s p e).pcieUr = s.pcieUr := (rfl)
@[simp] theorem setPart_logQueue (p : Nat) (e : Part) : (setPart s p e).logQueue = s.logQueue := (rfl)
@[simp] theorem setPart_logSeq (p : Nat) (e : Part) : (setPart s p e).logSeq = s.logSeq := (rfl)
@[simp] theorem setPart_timeA (p : Nat) (e : Part) : (setPart s p e).timeA = s.timeA := (rfl)
@[simp] theorem setPart_timeB (p : Nat) (e : Part) : (setPart s p e).timeB = s.timeB := (rfl)
@[simp] theorem setPart_hem (p : Nat) (e : Part) : (setPart s p e).hem = s.hem := (rfl)
@[simp] theorem setPart_acq (p : Nat) (e : Part) : (setPart s p e).acq = s.acq := (rfl)
@[simp] theorem setPart_probes (p : Nat) (e : Part) : (setPart s p e).probes = s.probes := (rfl)
@[simp] theorem setPart_trigPulse (p : Nat) (e : Part) : (setPart s p e).trigPulse = s.trigPulse := (rfl)
@[simp] theorem setPart_busQueue (p : Nat) (e : Part) : (setPart s p e).busQueue = s.busQueue := (rfl)
@[simp] theorem setPart_busSent (p : Nat) (e : Part) : (setPart s p e).busSent = s.busSent := (rfl)
@[simp] theorem setPart_toHost (p : Nat) (e : Part) : (setPart s p e).toHost = s.toHost := (rfl)
@[simp] theorem setPart_dmaQ (p : Nat) (e : Part) : (setPart s p e).dmaQ = s.dmaQ := (rfl)
@[simp] theorem setPart_mbx (p : Nat) (e : Part) : (setPart s p e).mbx = s.mbx := (rfl)
@[simp] theorem setPart_sessions (p : Nat) (e : Part) : (setPart s p e).sessions = s.sessions := (rfl)
@[simp] theorem setPart_challenges (p : Nat) (e : Part) : (setPart s p e).challenges = s.challenges := (rfl)
@[simp] theorem setPart_papSent (p : Nat) (e : Part) : (setPart s p e).papSent = s.papSent := (rfl)
@[simp] theorem setPart_abortAt (p : Nat) (e : Part) : (setPart s p e).abortAt = s.abortAt := (rfl)
@[simp] theorem setPart_ethPorts (p : Nat) (e : Part) : (setPart s p e).ethPorts = s.ethPorts := (rfl)
@[simp] theorem setPart_ethSent (p : Nat) (e : Part) : (setPart s p e).ethSent = s.ethSent := (rfl)
@[simp] theorem setPart_time (p : Nat) (e : Part) : (setPart s p e).time = s.time := (rfl)
@[simp] theorem setPart_keys (p : Nat) (e : Part) : (setPart s p e).keys = s.keys := (rfl)
@[simp] theorem setPart_copied (p : Nat) (e : Part) : (setPart s p e).copied = s.copied := (rfl)
@[simp] theorem setPart_pprUsed (p : Nat) (e : Part) : (setPart s p e).pprUsed = s.pprUsed := (rfl)
@[simp] theorem setPart_mapOut (p : Nat) (e : Part) : (setPart s p e).mapOut = s.mapOut := (rfl)
@[simp] theorem setPart_scrub (p : Nat) (e : Part) : (setPart s p e).scrub = s.scrub := (rfl)
@[simp] theorem setPart_sparesPend (p : Nat) (e : Part) : (setPart s p e).sparesPend = s.sparesPend := (rfl)
@[simp] theorem setPart_deadTracks (p : Nat) (e : Part) : (setPart s p e).deadTracks = s.deadTracks := (rfl)
@[simp] theorem setPart_spills (p : Nat) (e : Part) : (setPart s p e).spills = s.spills := (rfl)
@[simp] theorem setPart_msix (p : Nat) (e : Part) : (setPart s p e).msix = s.msix := (rfl)
@[simp] theorem setPart_colIrq (p : Nat) (e : Part) : (setPart s p e).colIrq = s.colIrq := (rfl)
@[simp] theorem setPart_noc (p : Nat) (e : Part) : (setPart s p e).noc = s.noc := (rfl)
@[simp] theorem setPart_nocTags (p : Nat) (e : Part) : (setPart s p e).nocTags = s.nocTags := (rfl)
@[simp] theorem setPart_nocGens (p : Nat) (e : Part) : (setPart s p e).nocGens = s.nocGens := (rfl)
@[simp] theorem setPart_nocAnswers (p : Nat) (e : Part) : (setPart s p e).nocAnswers = s.nocAnswers := (rfl)
@[simp] theorem setPart_collar (p : Nat) (e : Part) : (setPart s p e).collar = s.collar := (rfl)
@[simp] theorem setPart_logFlash (p : Nat) (e : Part) : (setPart s p e).logFlash = s.logFlash := (rfl)
@[simp] theorem setPart_power (p : Nat) (e : Part) : (setPart s p e).power = s.power := (rfl)
@[simp] theorem setPart_ticks (p : Nat) (e : Part) : (setPart s p e).ticks = s.ticks := (rfl)
@[simp] theorem setPart_alert (p : Nat) (e : Part) : (setPart s p e).alert = s.alert := (rfl)
@[simp] theorem setPart_free (p : Nat) (e : Part) : (setPart s p e).free = s.free := (rfl)
@[simp] theorem setPart_pending (p : Nat) (e : Part) : (setPart s p e).pending = s.pending := (rfl)
@[simp] theorem memByte_setPart (p : Nat) (e : Part) (x : Nat) : memByte (setPart s p e) x = memByte s x := (rfl)
@[simp] theorem memLE_setPart (p : Nat) (e : Part) (x y : Nat) : memLE (setPart s p e) x y = memLE s x y := (rfl)
@[simp] theorem memBytes_setPart (p : Nat) (e : Part) (x y : Nat) : memBytes (setPart s p e) x y = memBytes s x y := (rfl)
@[simp] theorem memBit_setPart (p : Nat) (e : Part) (x y : Nat) : memBit (setPart s p e) x y = memBit s x y := (rfl)
@[simp] theorem rget_setPart (p : Nat) (e : Part) (x : Nat) : rget (setPart s p e) x = rget s x := (rfl)
@[simp] theorem fget_setPart (p : Nat) (e : Part) (x : Nat) (g : Fld) : fget (setPart s p e) x g = fget s x g := (rfl)
@[simp] theorem fbit_setPart (p : Nat) (e : Part) (x : Nat) (g : Fld) : fbit (setPart s p e) x g = fbit s x g := (rfl)
@[simp] theorem oget_setPart (p : Nat) (e : Part) (x : Nat) : oget (setPart s p e) x = oget s x := (rfl)
@[simp] theorem getCl_setPart (p : Nat) (e : Part) (x : Nat) : getCl (setPart s p e) x = getCl s x := (rfl)
@[simp] theorem getDie_setPart (p : Nat) (e : Part) (x : Nat) : getDie (setPart s p e) x = getDie s x := (rfl)

/-! ### irq -/

@[simp] theorem irq_mem (f vec : Nat) : (irq s f vec).mem = s.mem := (rfl)
@[simp] theorem irq_wsched (f vec : Nat) : (irq s f vec).wsched = s.wsched := (rfl)
@[simp] theorem irq_regs (f vec : Nat) : (irq s f vec).regs = s.regs := (rfl)
@[simp] theorem irq_od (f vec : Nat) : (irq s f vec).od = s.od := (rfl)
@[simp] theorem irq_clusters (f vec : Nat) : (irq s f vec).clusters = s.clusters := (rfl)
@[simp] theorem irq_dies (f vec : Nat) : (irq s f vec).dies = s.dies := (rfl)
@[simp] theorem irq_parts (f vec : Nat) : (irq s f vec).parts = s.parts := (rfl)
@[simp] theorem irq_stages (f vec : Nat) : (irq s f vec).stages = s.stages := (rfl)
@[simp] theorem irq_outbound (f vec : Nat) : (irq s f vec).outbound = s.outbound := (rfl)
@[simp] theorem irq_ports (f vec : Nat) : (irq s f vec).ports = s.ports := (rfl)
@[simp] theorem irq_rings (f vec : Nat) : (irq s f vec).rings = s.rings := (rfl)
@[simp] theorem irq_inNext (f vec : Nat) : (irq s f vec).inNext = s.inNext := (rfl)
@[simp] theorem irq_outNext (f vec : Nat) : (irq s f vec).outNext = s.outNext := (rfl)
@[simp] theorem irq_fences (f vec : Nat) : (irq s f vec).fences = s.fences := (rfl)
@[simp] theorem irq_frames (f vec : Nat) : (irq s f vec).frames = s.frames := (rfl)
@[simp] theorem irq_goldenFrames (f vec : Nat) : (irq s f vec).goldenFrames = s.goldenFrames := (rfl)
@[simp] theorem irq_slots (f vec : Nat) : (irq s f vec).slots = s.slots := (rfl)
@[simp] theorem irq_cellQ (f vec : Nat) : (irq s f vec).cellQ = s.cellQ := (rfl)
@[simp] theorem irq_pinIn (f vec : Nat) : (irq s f vec).pinIn = s.pinIn := (rfl)
@[simp] theorem irq_pinReg (f vec : Nat) : (irq s f vec).pinReg = s.pinReg := (rfl)
@[simp] theorem irq_latches (f vec : Nat) : (irq s f vec).latches = s.latches := (rfl)
@[simp] theorem irq_treeRaw (f vec : Nat) : (irq s f vec).treeRaw = s.treeRaw := (rfl)
@[simp] theorem irq_treeHigh (f vec : Nat) : (irq s f vec).treeHigh = s.treeHigh := (rfl)
@[simp] theorem irq_treesHeld (f vec : Nat) : (irq s f vec).treesHeld = s.treesHeld := (rfl)
@[simp] theorem irq_resetRegions (f vec : Nat) : (irq s f vec).resetRegions = s.resetRegions := (rfl)
@[simp] theorem irq_pinOut (f vec : Nat) : (irq s f vec).pinOut = s.pinOut := (rfl)
@[simp] theorem irq_pinsHeld (f vec : Nat) : (irq s f vec).pinsHeld = s.pinsHeld := (rfl)
@[simp] theorem irq_fromHost (f vec : Nat) : (irq s f vec).fromHost = s.fromHost := (rfl)
@[simp] theorem irq_clamps (f vec : Nat) : (irq s f vec).clamps = s.clamps := (rfl)
@[simp] theorem irq_clampCount (f vec : Nat) : (irq s f vec).clampCount = s.clampCount := (rfl)
@[simp] theorem irq_mirrorWait (f vec : Nat) : (irq s f vec).mirrorWait = s.mirrorWait := (rfl)
@[simp] theorem irq_hiCap (f vec : Nat) : (irq s f vec).hiCap = s.hiCap := (rfl)
@[simp] theorem irq_result (f vec : Nat) : (irq s f vec).result = s.result := (rfl)
@[simp] theorem irq_reply (f vec : Nat) : (irq s f vec).reply = s.reply := (rfl)
@[simp] theorem irq_pcieUr (f vec : Nat) : (irq s f vec).pcieUr = s.pcieUr := (rfl)
@[simp] theorem irq_logQueue (f vec : Nat) : (irq s f vec).logQueue = s.logQueue := (rfl)
@[simp] theorem irq_logSeq (f vec : Nat) : (irq s f vec).logSeq = s.logSeq := (rfl)
@[simp] theorem irq_timeA (f vec : Nat) : (irq s f vec).timeA = s.timeA := (rfl)
@[simp] theorem irq_timeB (f vec : Nat) : (irq s f vec).timeB = s.timeB := (rfl)
@[simp] theorem irq_hem (f vec : Nat) : (irq s f vec).hem = s.hem := (rfl)
@[simp] theorem irq_acq (f vec : Nat) : (irq s f vec).acq = s.acq := (rfl)
@[simp] theorem irq_probes (f vec : Nat) : (irq s f vec).probes = s.probes := (rfl)
@[simp] theorem irq_trigPulse (f vec : Nat) : (irq s f vec).trigPulse = s.trigPulse := (rfl)
@[simp] theorem irq_busQueue (f vec : Nat) : (irq s f vec).busQueue = s.busQueue := (rfl)
@[simp] theorem irq_busSent (f vec : Nat) : (irq s f vec).busSent = s.busSent := (rfl)
@[simp] theorem irq_toHost (f vec : Nat) : (irq s f vec).toHost = s.toHost := (rfl)
@[simp] theorem irq_dmaQ (f vec : Nat) : (irq s f vec).dmaQ = s.dmaQ := (rfl)
@[simp] theorem irq_mbx (f vec : Nat) : (irq s f vec).mbx = s.mbx := (rfl)
@[simp] theorem irq_sessions (f vec : Nat) : (irq s f vec).sessions = s.sessions := (rfl)
@[simp] theorem irq_challenges (f vec : Nat) : (irq s f vec).challenges = s.challenges := (rfl)
@[simp] theorem irq_papSent (f vec : Nat) : (irq s f vec).papSent = s.papSent := (rfl)
@[simp] theorem irq_abortAt (f vec : Nat) : (irq s f vec).abortAt = s.abortAt := (rfl)
@[simp] theorem irq_ethPorts (f vec : Nat) : (irq s f vec).ethPorts = s.ethPorts := (rfl)
@[simp] theorem irq_ethSent (f vec : Nat) : (irq s f vec).ethSent = s.ethSent := (rfl)
@[simp] theorem irq_time (f vec : Nat) : (irq s f vec).time = s.time := (rfl)
@[simp] theorem irq_keys (f vec : Nat) : (irq s f vec).keys = s.keys := (rfl)
@[simp] theorem irq_copied (f vec : Nat) : (irq s f vec).copied = s.copied := (rfl)
@[simp] theorem irq_pprUsed (f vec : Nat) : (irq s f vec).pprUsed = s.pprUsed := (rfl)
@[simp] theorem irq_mapOut (f vec : Nat) : (irq s f vec).mapOut = s.mapOut := (rfl)
@[simp] theorem irq_scrub (f vec : Nat) : (irq s f vec).scrub = s.scrub := (rfl)
@[simp] theorem irq_sparesPend (f vec : Nat) : (irq s f vec).sparesPend = s.sparesPend := (rfl)
@[simp] theorem irq_deadTracks (f vec : Nat) : (irq s f vec).deadTracks = s.deadTracks := (rfl)
@[simp] theorem irq_spills (f vec : Nat) : (irq s f vec).spills = s.spills := (rfl)
@[simp] theorem irq_colIrq (f vec : Nat) : (irq s f vec).colIrq = s.colIrq := (rfl)
@[simp] theorem irq_noc (f vec : Nat) : (irq s f vec).noc = s.noc := (rfl)
@[simp] theorem irq_nocTags (f vec : Nat) : (irq s f vec).nocTags = s.nocTags := (rfl)
@[simp] theorem irq_nocGens (f vec : Nat) : (irq s f vec).nocGens = s.nocGens := (rfl)
@[simp] theorem irq_nocAnswers (f vec : Nat) : (irq s f vec).nocAnswers = s.nocAnswers := (rfl)
@[simp] theorem irq_collar (f vec : Nat) : (irq s f vec).collar = s.collar := (rfl)
@[simp] theorem irq_logFlash (f vec : Nat) : (irq s f vec).logFlash = s.logFlash := (rfl)
@[simp] theorem irq_power (f vec : Nat) : (irq s f vec).power = s.power := (rfl)
@[simp] theorem irq_ticks (f vec : Nat) : (irq s f vec).ticks = s.ticks := (rfl)
@[simp] theorem irq_alert (f vec : Nat) : (irq s f vec).alert = s.alert := (rfl)
@[simp] theorem irq_free (f vec : Nat) : (irq s f vec).free = s.free := (rfl)
@[simp] theorem irq_pending (f vec : Nat) : (irq s f vec).pending = s.pending := (rfl)
@[simp] theorem memByte_irq (f vec : Nat) (x : Nat) : memByte (irq s f vec) x = memByte s x := (rfl)
@[simp] theorem memLE_irq (f vec : Nat) (x y : Nat) : memLE (irq s f vec) x y = memLE s x y := (rfl)
@[simp] theorem memBytes_irq (f vec : Nat) (x y : Nat) : memBytes (irq s f vec) x y = memBytes s x y := (rfl)
@[simp] theorem memBit_irq (f vec : Nat) (x y : Nat) : memBit (irq s f vec) x y = memBit s x y := (rfl)
@[simp] theorem rget_irq (f vec : Nat) (x : Nat) : rget (irq s f vec) x = rget s x := (rfl)
@[simp] theorem fget_irq (f vec : Nat) (x : Nat) (g : Fld) : fget (irq s f vec) x g = fget s x g := (rfl)
@[simp] theorem fbit_irq (f vec : Nat) (x : Nat) (g : Fld) : fbit (irq s f vec) x g = fbit s x g := (rfl)
@[simp] theorem oget_irq (f vec : Nat) (x : Nat) : oget (irq s f vec) x = oget s x := (rfl)
@[simp] theorem getCl_irq (f vec : Nat) (x : Nat) : getCl (irq s f vec) x = getCl s x := (rfl)
@[simp] theorem getDie_irq (f vec : Nat) (x : Nat) : getDie (irq s f vec) x = getDie s x := (rfl)
@[simp] theorem getPart_irq (f vec : Nat) (x : Nat) : getPart (irq s f vec) x = getPart s x := (rfl)

/-! ## Operations that write several fields -/

/-! ### pciEvent -/

@[simp] theorem pciEvent_mem (f : Fld) : (pciEvent s f).mem = s.mem := by
  unfold pciEvent; split <;> rfl
@[simp] theorem pciEvent_wsched (f : Fld) : (pciEvent s f).wsched = s.wsched := by
  unfold pciEvent; split <;> rfl
@[simp] theorem pciEvent_od (f : Fld) : (pciEvent s f).od = s.od := by
  unfold pciEvent; split <;> rfl
@[simp] theorem pciEvent_clusters (f : Fld) : (pciEvent s f).clusters = s.clusters := by
  unfold pciEvent; split <;> rfl
@[simp] theorem pciEvent_dies (f : Fld) : (pciEvent s f).dies = s.dies := by
  unfold pciEvent; split <;> rfl
@[simp] theorem pciEvent_parts (f : Fld) : (pciEvent s f).parts = s.parts := by
  unfold pciEvent; split <;> rfl
@[simp] theorem pciEvent_stages (f : Fld) : (pciEvent s f).stages = s.stages := by
  unfold pciEvent; split <;> rfl
@[simp] theorem pciEvent_outbound (f : Fld) : (pciEvent s f).outbound = s.outbound := by
  unfold pciEvent; split <;> rfl
@[simp] theorem pciEvent_ports (f : Fld) : (pciEvent s f).ports = s.ports := by
  unfold pciEvent; split <;> rfl
@[simp] theorem pciEvent_rings (f : Fld) : (pciEvent s f).rings = s.rings := by
  unfold pciEvent; split <;> rfl
@[simp] theorem pciEvent_inNext (f : Fld) : (pciEvent s f).inNext = s.inNext := by
  unfold pciEvent; split <;> rfl
@[simp] theorem pciEvent_outNext (f : Fld) : (pciEvent s f).outNext = s.outNext := by
  unfold pciEvent; split <;> rfl
@[simp] theorem pciEvent_fences (f : Fld) : (pciEvent s f).fences = s.fences := by
  unfold pciEvent; split <;> rfl
@[simp] theorem pciEvent_frames (f : Fld) : (pciEvent s f).frames = s.frames := by
  unfold pciEvent; split <;> rfl
@[simp] theorem pciEvent_goldenFrames (f : Fld) : (pciEvent s f).goldenFrames = s.goldenFrames := by
  unfold pciEvent; split <;> rfl
@[simp] theorem pciEvent_slots (f : Fld) : (pciEvent s f).slots = s.slots := by
  unfold pciEvent; split <;> rfl
@[simp] theorem pciEvent_cellQ (f : Fld) : (pciEvent s f).cellQ = s.cellQ := by
  unfold pciEvent; split <;> rfl
@[simp] theorem pciEvent_pinIn (f : Fld) : (pciEvent s f).pinIn = s.pinIn := by
  unfold pciEvent; split <;> rfl
@[simp] theorem pciEvent_pinReg (f : Fld) : (pciEvent s f).pinReg = s.pinReg := by
  unfold pciEvent; split <;> rfl
@[simp] theorem pciEvent_latches (f : Fld) : (pciEvent s f).latches = s.latches := by
  unfold pciEvent; split <;> rfl
@[simp] theorem pciEvent_treeRaw (f : Fld) : (pciEvent s f).treeRaw = s.treeRaw := by
  unfold pciEvent; split <;> rfl
@[simp] theorem pciEvent_treeHigh (f : Fld) : (pciEvent s f).treeHigh = s.treeHigh := by
  unfold pciEvent; split <;> rfl
@[simp] theorem pciEvent_treesHeld (f : Fld) : (pciEvent s f).treesHeld = s.treesHeld := by
  unfold pciEvent; split <;> rfl
@[simp] theorem pciEvent_resetRegions (f : Fld) : (pciEvent s f).resetRegions = s.resetRegions := by
  unfold pciEvent; split <;> rfl
@[simp] theorem pciEvent_pinOut (f : Fld) : (pciEvent s f).pinOut = s.pinOut := by
  unfold pciEvent; split <;> rfl
@[simp] theorem pciEvent_pinsHeld (f : Fld) : (pciEvent s f).pinsHeld = s.pinsHeld := by
  unfold pciEvent; split <;> rfl
@[simp] theorem pciEvent_fromHost (f : Fld) : (pciEvent s f).fromHost = s.fromHost := by
  unfold pciEvent; split <;> rfl
@[simp] theorem pciEvent_clamps (f : Fld) : (pciEvent s f).clamps = s.clamps := by
  unfold pciEvent; split <;> rfl
@[simp] theorem pciEvent_clampCount (f : Fld) : (pciEvent s f).clampCount = s.clampCount := by
  unfold pciEvent; split <;> rfl
@[simp] theorem pciEvent_mirrorWait (f : Fld) : (pciEvent s f).mirrorWait = s.mirrorWait := by
  unfold pciEvent; split <;> rfl
@[simp] theorem pciEvent_hiCap (f : Fld) : (pciEvent s f).hiCap = s.hiCap := by
  unfold pciEvent; split <;> rfl
@[simp] theorem pciEvent_result (f : Fld) : (pciEvent s f).result = s.result := by
  unfold pciEvent; split <;> rfl
@[simp] theorem pciEvent_reply (f : Fld) : (pciEvent s f).reply = s.reply := by
  unfold pciEvent; split <;> rfl
@[simp] theorem pciEvent_pcieUr (f : Fld) : (pciEvent s f).pcieUr = s.pcieUr := by
  unfold pciEvent; split <;> rfl
@[simp] theorem pciEvent_logQueue (f : Fld) : (pciEvent s f).logQueue = s.logQueue := by
  unfold pciEvent; split <;> rfl
@[simp] theorem pciEvent_logSeq (f : Fld) : (pciEvent s f).logSeq = s.logSeq := by
  unfold pciEvent; split <;> rfl
@[simp] theorem pciEvent_timeA (f : Fld) : (pciEvent s f).timeA = s.timeA := by
  unfold pciEvent; split <;> rfl
@[simp] theorem pciEvent_timeB (f : Fld) : (pciEvent s f).timeB = s.timeB := by
  unfold pciEvent; split <;> rfl
@[simp] theorem pciEvent_hem (f : Fld) : (pciEvent s f).hem = s.hem := by
  unfold pciEvent; split <;> rfl
@[simp] theorem pciEvent_acq (f : Fld) : (pciEvent s f).acq = s.acq := by
  unfold pciEvent; split <;> rfl
@[simp] theorem pciEvent_probes (f : Fld) : (pciEvent s f).probes = s.probes := by
  unfold pciEvent; split <;> rfl
@[simp] theorem pciEvent_trigPulse (f : Fld) : (pciEvent s f).trigPulse = s.trigPulse := by
  unfold pciEvent; split <;> rfl
@[simp] theorem pciEvent_busQueue (f : Fld) : (pciEvent s f).busQueue = s.busQueue := by
  unfold pciEvent; split <;> rfl
@[simp] theorem pciEvent_busSent (f : Fld) : (pciEvent s f).busSent = s.busSent := by
  unfold pciEvent; split <;> rfl
@[simp] theorem pciEvent_toHost (f : Fld) : (pciEvent s f).toHost = s.toHost := by
  unfold pciEvent; split <;> rfl
@[simp] theorem pciEvent_dmaQ (f : Fld) : (pciEvent s f).dmaQ = s.dmaQ := by
  unfold pciEvent; split <;> rfl
@[simp] theorem pciEvent_mbx (f : Fld) : (pciEvent s f).mbx = s.mbx := by
  unfold pciEvent; split <;> rfl
@[simp] theorem pciEvent_sessions (f : Fld) : (pciEvent s f).sessions = s.sessions := by
  unfold pciEvent; split <;> rfl
@[simp] theorem pciEvent_challenges (f : Fld) : (pciEvent s f).challenges = s.challenges := by
  unfold pciEvent; split <;> rfl
@[simp] theorem pciEvent_papSent (f : Fld) : (pciEvent s f).papSent = s.papSent := by
  unfold pciEvent; split <;> rfl
@[simp] theorem pciEvent_abortAt (f : Fld) : (pciEvent s f).abortAt = s.abortAt := by
  unfold pciEvent; split <;> rfl
@[simp] theorem pciEvent_ethPorts (f : Fld) : (pciEvent s f).ethPorts = s.ethPorts := by
  unfold pciEvent; split <;> rfl
@[simp] theorem pciEvent_ethSent (f : Fld) : (pciEvent s f).ethSent = s.ethSent := by
  unfold pciEvent; split <;> rfl
@[simp] theorem pciEvent_time (f : Fld) : (pciEvent s f).time = s.time := by
  unfold pciEvent; split <;> rfl
@[simp] theorem pciEvent_keys (f : Fld) : (pciEvent s f).keys = s.keys := by
  unfold pciEvent; split <;> rfl
@[simp] theorem pciEvent_copied (f : Fld) : (pciEvent s f).copied = s.copied := by
  unfold pciEvent; split <;> rfl
@[simp] theorem pciEvent_pprUsed (f : Fld) : (pciEvent s f).pprUsed = s.pprUsed := by
  unfold pciEvent; split <;> rfl
@[simp] theorem pciEvent_mapOut (f : Fld) : (pciEvent s f).mapOut = s.mapOut := by
  unfold pciEvent; split <;> rfl
@[simp] theorem pciEvent_scrub (f : Fld) : (pciEvent s f).scrub = s.scrub := by
  unfold pciEvent; split <;> rfl
@[simp] theorem pciEvent_sparesPend (f : Fld) : (pciEvent s f).sparesPend = s.sparesPend := by
  unfold pciEvent; split <;> rfl
@[simp] theorem pciEvent_deadTracks (f : Fld) : (pciEvent s f).deadTracks = s.deadTracks := by
  unfold pciEvent; split <;> rfl
@[simp] theorem pciEvent_spills (f : Fld) : (pciEvent s f).spills = s.spills := by
  unfold pciEvent; split <;> rfl
@[simp] theorem pciEvent_colIrq (f : Fld) : (pciEvent s f).colIrq = s.colIrq := by
  unfold pciEvent; split <;> rfl
@[simp] theorem pciEvent_noc (f : Fld) : (pciEvent s f).noc = s.noc := by
  unfold pciEvent; split <;> rfl
@[simp] theorem pciEvent_nocTags (f : Fld) : (pciEvent s f).nocTags = s.nocTags := by
  unfold pciEvent; split <;> rfl
@[simp] theorem pciEvent_nocGens (f : Fld) : (pciEvent s f).nocGens = s.nocGens := by
  unfold pciEvent; split <;> rfl
@[simp] theorem pciEvent_nocAnswers (f : Fld) : (pciEvent s f).nocAnswers = s.nocAnswers := by
  unfold pciEvent; split <;> rfl
@[simp] theorem pciEvent_collar (f : Fld) : (pciEvent s f).collar = s.collar := by
  unfold pciEvent; split <;> rfl
@[simp] theorem pciEvent_logFlash (f : Fld) : (pciEvent s f).logFlash = s.logFlash := by
  unfold pciEvent; split <;> rfl
@[simp] theorem pciEvent_power (f : Fld) : (pciEvent s f).power = s.power := by
  unfold pciEvent; split <;> rfl
@[simp] theorem pciEvent_ticks (f : Fld) : (pciEvent s f).ticks = s.ticks := by
  unfold pciEvent; split <;> rfl
@[simp] theorem pciEvent_alert (f : Fld) : (pciEvent s f).alert = s.alert := by
  unfold pciEvent; split <;> rfl
@[simp] theorem pciEvent_free (f : Fld) : (pciEvent s f).free = s.free := by
  unfold pciEvent; split <;> rfl
@[simp] theorem pciEvent_pending (f : Fld) : (pciEvent s f).pending = s.pending := by
  unfold pciEvent; split <;> rfl
@[simp] theorem memByte_pciEvent (f : Fld) (x : Nat) : memByte (pciEvent s f) x = memByte s x := by simp [memByte]
@[simp] theorem memLE_pciEvent (f : Fld) (x y : Nat) : memLE (pciEvent s f) x y = memLE s x y := by simp [memLE]
@[simp] theorem memBytes_pciEvent (f : Fld) (x y : Nat) : memBytes (pciEvent s f) x y = memBytes s x y := by simp [memBytes]
@[simp] theorem memBit_pciEvent (f : Fld) (x y : Nat) : memBit (pciEvent s f) x y = memBit s x y := by simp [memBit]
@[simp] theorem oget_pciEvent (f : Fld) (x : Nat) : oget (pciEvent s f) x = oget s x := by simp [oget]
@[simp] theorem getCl_pciEvent (f : Fld) (x : Nat) : getCl (pciEvent s f) x = getCl s x := by simp [getCl]
@[simp] theorem getDie_pciEvent (f : Fld) (x : Nat) : getDie (pciEvent s f) x = getDie s x := by simp [getDie]
@[simp] theorem getPart_pciEvent (f : Fld) (x : Nat) : getPart (pciEvent s f) x = getPart s x := by simp [getPart]

/-! ### assertAlert -/

@[simp] theorem assertAlert_mem : (assertAlert s).mem = s.mem := by
  unfold assertAlert; split <;> simp
@[simp] theorem assertAlert_wsched : (assertAlert s).wsched = s.wsched := by
  unfold assertAlert; split <;> simp
@[simp] theorem assertAlert_od : (assertAlert s).od = s.od := by
  unfold assertAlert; split <;> simp
@[simp] theorem assertAlert_clusters : (assertAlert s).clusters = s.clusters := by
  unfold assertAlert; split <;> simp
@[simp] theorem assertAlert_dies : (assertAlert s).dies = s.dies := by
  unfold assertAlert; split <;> simp
@[simp] theorem assertAlert_parts : (assertAlert s).parts = s.parts := by
  unfold assertAlert; split <;> simp
@[simp] theorem assertAlert_stages : (assertAlert s).stages = s.stages := by
  unfold assertAlert; split <;> simp
@[simp] theorem assertAlert_outbound : (assertAlert s).outbound = s.outbound := by
  unfold assertAlert; split <;> simp
@[simp] theorem assertAlert_ports : (assertAlert s).ports = s.ports := by
  unfold assertAlert; split <;> simp
@[simp] theorem assertAlert_rings : (assertAlert s).rings = s.rings := by
  unfold assertAlert; split <;> simp
@[simp] theorem assertAlert_inNext : (assertAlert s).inNext = s.inNext := by
  unfold assertAlert; split <;> simp
@[simp] theorem assertAlert_outNext : (assertAlert s).outNext = s.outNext := by
  unfold assertAlert; split <;> simp
@[simp] theorem assertAlert_fences : (assertAlert s).fences = s.fences := by
  unfold assertAlert; split <;> simp
@[simp] theorem assertAlert_frames : (assertAlert s).frames = s.frames := by
  unfold assertAlert; split <;> simp
@[simp] theorem assertAlert_goldenFrames : (assertAlert s).goldenFrames = s.goldenFrames := by
  unfold assertAlert; split <;> simp
@[simp] theorem assertAlert_slots : (assertAlert s).slots = s.slots := by
  unfold assertAlert; split <;> simp
@[simp] theorem assertAlert_cellQ : (assertAlert s).cellQ = s.cellQ := by
  unfold assertAlert; split <;> simp
@[simp] theorem assertAlert_pinIn : (assertAlert s).pinIn = s.pinIn := by
  unfold assertAlert; split <;> simp
@[simp] theorem assertAlert_pinReg : (assertAlert s).pinReg = s.pinReg := by
  unfold assertAlert; split <;> simp
@[simp] theorem assertAlert_latches : (assertAlert s).latches = s.latches := by
  unfold assertAlert; split <;> simp
@[simp] theorem assertAlert_treeRaw : (assertAlert s).treeRaw = s.treeRaw := by
  unfold assertAlert; split <;> simp
@[simp] theorem assertAlert_treeHigh : (assertAlert s).treeHigh = s.treeHigh := by
  unfold assertAlert; split <;> simp
@[simp] theorem assertAlert_treesHeld : (assertAlert s).treesHeld = s.treesHeld := by
  unfold assertAlert; split <;> simp
@[simp] theorem assertAlert_resetRegions : (assertAlert s).resetRegions = s.resetRegions := by
  unfold assertAlert; split <;> simp
@[simp] theorem assertAlert_pinOut : (assertAlert s).pinOut = s.pinOut := by
  unfold assertAlert; split <;> simp
@[simp] theorem assertAlert_pinsHeld : (assertAlert s).pinsHeld = s.pinsHeld := by
  unfold assertAlert; split <;> simp
@[simp] theorem assertAlert_fromHost : (assertAlert s).fromHost = s.fromHost := by
  unfold assertAlert; split <;> simp
@[simp] theorem assertAlert_clamps : (assertAlert s).clamps = s.clamps := by
  unfold assertAlert; split <;> simp
@[simp] theorem assertAlert_clampCount : (assertAlert s).clampCount = s.clampCount := by
  unfold assertAlert; split <;> simp
@[simp] theorem assertAlert_mirrorWait : (assertAlert s).mirrorWait = s.mirrorWait := by
  unfold assertAlert; split <;> simp
@[simp] theorem assertAlert_hiCap : (assertAlert s).hiCap = s.hiCap := by
  unfold assertAlert; split <;> simp
@[simp] theorem assertAlert_result : (assertAlert s).result = s.result := by
  unfold assertAlert; split <;> simp
@[simp] theorem assertAlert_reply : (assertAlert s).reply = s.reply := by
  unfold assertAlert; split <;> simp
@[simp] theorem assertAlert_pcieUr : (assertAlert s).pcieUr = s.pcieUr := by
  unfold assertAlert; split <;> simp
@[simp] theorem assertAlert_logQueue : (assertAlert s).logQueue = s.logQueue := by
  unfold assertAlert; split <;> simp
@[simp] theorem assertAlert_logSeq : (assertAlert s).logSeq = s.logSeq := by
  unfold assertAlert; split <;> simp
@[simp] theorem assertAlert_timeA : (assertAlert s).timeA = s.timeA := by
  unfold assertAlert; split <;> simp
@[simp] theorem assertAlert_timeB : (assertAlert s).timeB = s.timeB := by
  unfold assertAlert; split <;> simp
@[simp] theorem assertAlert_hem : (assertAlert s).hem = s.hem := by
  unfold assertAlert; split <;> simp
@[simp] theorem assertAlert_acq : (assertAlert s).acq = s.acq := by
  unfold assertAlert; split <;> simp
@[simp] theorem assertAlert_probes : (assertAlert s).probes = s.probes := by
  unfold assertAlert; split <;> simp
@[simp] theorem assertAlert_trigPulse : (assertAlert s).trigPulse = s.trigPulse := by
  unfold assertAlert; split <;> simp
@[simp] theorem assertAlert_busQueue : (assertAlert s).busQueue = s.busQueue := by
  unfold assertAlert; split <;> simp
@[simp] theorem assertAlert_busSent : (assertAlert s).busSent = s.busSent := by
  unfold assertAlert; split <;> simp
@[simp] theorem assertAlert_toHost : (assertAlert s).toHost = s.toHost := by
  unfold assertAlert; split <;> simp
@[simp] theorem assertAlert_dmaQ : (assertAlert s).dmaQ = s.dmaQ := by
  unfold assertAlert; split <;> simp
@[simp] theorem assertAlert_mbx : (assertAlert s).mbx = s.mbx := by
  unfold assertAlert; split <;> simp
@[simp] theorem assertAlert_sessions : (assertAlert s).sessions = s.sessions := by
  unfold assertAlert; split <;> simp
@[simp] theorem assertAlert_challenges : (assertAlert s).challenges = s.challenges := by
  unfold assertAlert; split <;> simp
@[simp] theorem assertAlert_papSent : (assertAlert s).papSent = s.papSent := by
  unfold assertAlert; split <;> simp
@[simp] theorem assertAlert_abortAt : (assertAlert s).abortAt = s.abortAt := by
  unfold assertAlert; split <;> simp
@[simp] theorem assertAlert_ethPorts : (assertAlert s).ethPorts = s.ethPorts := by
  unfold assertAlert; split <;> simp
@[simp] theorem assertAlert_ethSent : (assertAlert s).ethSent = s.ethSent := by
  unfold assertAlert; split <;> simp
@[simp] theorem assertAlert_time : (assertAlert s).time = s.time := by
  unfold assertAlert; split <;> simp
@[simp] theorem assertAlert_keys : (assertAlert s).keys = s.keys := by
  unfold assertAlert; split <;> simp
@[simp] theorem assertAlert_copied : (assertAlert s).copied = s.copied := by
  unfold assertAlert; split <;> simp
@[simp] theorem assertAlert_pprUsed : (assertAlert s).pprUsed = s.pprUsed := by
  unfold assertAlert; split <;> simp
@[simp] theorem assertAlert_mapOut : (assertAlert s).mapOut = s.mapOut := by
  unfold assertAlert; split <;> simp
@[simp] theorem assertAlert_scrub : (assertAlert s).scrub = s.scrub := by
  unfold assertAlert; split <;> simp
@[simp] theorem assertAlert_sparesPend : (assertAlert s).sparesPend = s.sparesPend := by
  unfold assertAlert; split <;> simp
@[simp] theorem assertAlert_deadTracks : (assertAlert s).deadTracks = s.deadTracks := by
  unfold assertAlert; split <;> simp
@[simp] theorem assertAlert_spills : (assertAlert s).spills = s.spills := by
  unfold assertAlert; split <;> simp
@[simp] theorem assertAlert_colIrq : (assertAlert s).colIrq = s.colIrq := by
  unfold assertAlert; split <;> simp
@[simp] theorem assertAlert_noc : (assertAlert s).noc = s.noc := by
  unfold assertAlert; split <;> simp
@[simp] theorem assertAlert_nocTags : (assertAlert s).nocTags = s.nocTags := by
  unfold assertAlert; split <;> simp
@[simp] theorem assertAlert_nocGens : (assertAlert s).nocGens = s.nocGens := by
  unfold assertAlert; split <;> simp
@[simp] theorem assertAlert_nocAnswers : (assertAlert s).nocAnswers = s.nocAnswers := by
  unfold assertAlert; split <;> simp
@[simp] theorem assertAlert_collar : (assertAlert s).collar = s.collar := by
  unfold assertAlert; split <;> simp
@[simp] theorem assertAlert_logFlash : (assertAlert s).logFlash = s.logFlash := by
  unfold assertAlert; split <;> simp
@[simp] theorem assertAlert_power : (assertAlert s).power = s.power := by
  unfold assertAlert; split <;> simp
@[simp] theorem assertAlert_ticks : (assertAlert s).ticks = s.ticks := by
  unfold assertAlert; split <;> simp
@[simp] theorem assertAlert_free : (assertAlert s).free = s.free := by
  unfold assertAlert; split <;> simp
@[simp] theorem assertAlert_pending : (assertAlert s).pending = s.pending := by
  unfold assertAlert; split <;> simp
@[simp] theorem memByte_assertAlert (x : Nat) : memByte (assertAlert s) x = memByte s x := by simp [memByte]
@[simp] theorem memLE_assertAlert (x y : Nat) : memLE (assertAlert s) x y = memLE s x y := by simp [memLE]
@[simp] theorem memBytes_assertAlert (x y : Nat) : memBytes (assertAlert s) x y = memBytes s x y := by simp [memBytes]
@[simp] theorem memBit_assertAlert (x y : Nat) : memBit (assertAlert s) x y = memBit s x y := by simp [memBit]
@[simp] theorem oget_assertAlert (x : Nat) : oget (assertAlert s) x = oget s x := by simp [oget]
@[simp] theorem getCl_assertAlert (x : Nat) : getCl (assertAlert s) x = getCl s x := by simp [getCl]
@[simp] theorem getDie_assertAlert (x : Nat) : getDie (assertAlert s) x = getDie s x := by simp [getDie]
@[simp] theorem getPart_assertAlert (x : Nat) : getPart (assertAlert s) x = getPart s x := by simp [getPart]

/-! ### osetTell -/

@[simp] theorem osetTell_mem (p key v : Nat) : (osetTell s p key v).mem = s.mem := by
  unfold osetTell; split <;> rfl
@[simp] theorem osetTell_wsched (p key v : Nat) : (osetTell s p key v).wsched = s.wsched := by
  unfold osetTell; split <;> rfl
@[simp] theorem osetTell_regs (p key v : Nat) : (osetTell s p key v).regs = s.regs := by
  unfold osetTell; split <;> rfl
@[simp] theorem osetTell_clusters (p key v : Nat) : (osetTell s p key v).clusters = s.clusters := by
  unfold osetTell; split <;> rfl
@[simp] theorem osetTell_dies (p key v : Nat) : (osetTell s p key v).dies = s.dies := by
  unfold osetTell; split <;> rfl
@[simp] theorem osetTell_parts (p key v : Nat) : (osetTell s p key v).parts = s.parts := by
  unfold osetTell; split <;> rfl
@[simp] theorem osetTell_stages (p key v : Nat) : (osetTell s p key v).stages = s.stages := by
  unfold osetTell; split <;> rfl
@[simp] theorem osetTell_outbound (p key v : Nat) : (osetTell s p key v).outbound = s.outbound := by
  unfold osetTell; split <;> rfl
@[simp] theorem osetTell_ports (p key v : Nat) : (osetTell s p key v).ports = s.ports := by
  unfold osetTell; split <;> rfl
@[simp] theorem osetTell_rings (p key v : Nat) : (osetTell s p key v).rings = s.rings := by
  unfold osetTell; split <;> rfl
@[simp] theorem osetTell_inNext (p key v : Nat) : (osetTell s p key v).inNext = s.inNext := by
  unfold osetTell; split <;> rfl
@[simp] theorem osetTell_outNext (p key v : Nat) : (osetTell s p key v).outNext = s.outNext := by
  unfold osetTell; split <;> rfl
@[simp] theorem osetTell_fences (p key v : Nat) : (osetTell s p key v).fences = s.fences := by
  unfold osetTell; split <;> rfl
@[simp] theorem osetTell_frames (p key v : Nat) : (osetTell s p key v).frames = s.frames := by
  unfold osetTell; split <;> rfl
@[simp] theorem osetTell_goldenFrames (p key v : Nat) : (osetTell s p key v).goldenFrames = s.goldenFrames := by
  unfold osetTell; split <;> rfl
@[simp] theorem osetTell_slots (p key v : Nat) : (osetTell s p key v).slots = s.slots := by
  unfold osetTell; split <;> rfl
@[simp] theorem osetTell_cellQ (p key v : Nat) : (osetTell s p key v).cellQ = s.cellQ := by
  unfold osetTell; split <;> rfl
@[simp] theorem osetTell_pinIn (p key v : Nat) : (osetTell s p key v).pinIn = s.pinIn := by
  unfold osetTell; split <;> rfl
@[simp] theorem osetTell_pinReg (p key v : Nat) : (osetTell s p key v).pinReg = s.pinReg := by
  unfold osetTell; split <;> rfl
@[simp] theorem osetTell_latches (p key v : Nat) : (osetTell s p key v).latches = s.latches := by
  unfold osetTell; split <;> rfl
@[simp] theorem osetTell_treeRaw (p key v : Nat) : (osetTell s p key v).treeRaw = s.treeRaw := by
  unfold osetTell; split <;> rfl
@[simp] theorem osetTell_treeHigh (p key v : Nat) : (osetTell s p key v).treeHigh = s.treeHigh := by
  unfold osetTell; split <;> rfl
@[simp] theorem osetTell_treesHeld (p key v : Nat) : (osetTell s p key v).treesHeld = s.treesHeld := by
  unfold osetTell; split <;> rfl
@[simp] theorem osetTell_resetRegions (p key v : Nat) : (osetTell s p key v).resetRegions = s.resetRegions := by
  unfold osetTell; split <;> rfl
@[simp] theorem osetTell_pinOut (p key v : Nat) : (osetTell s p key v).pinOut = s.pinOut := by
  unfold osetTell; split <;> rfl
@[simp] theorem osetTell_pinsHeld (p key v : Nat) : (osetTell s p key v).pinsHeld = s.pinsHeld := by
  unfold osetTell; split <;> rfl
@[simp] theorem osetTell_fromHost (p key v : Nat) : (osetTell s p key v).fromHost = s.fromHost := by
  unfold osetTell; split <;> rfl
@[simp] theorem osetTell_clamps (p key v : Nat) : (osetTell s p key v).clamps = s.clamps := by
  unfold osetTell; split <;> rfl
@[simp] theorem osetTell_clampCount (p key v : Nat) : (osetTell s p key v).clampCount = s.clampCount := by
  unfold osetTell; split <;> rfl
@[simp] theorem osetTell_mirrorWait (p key v : Nat) : (osetTell s p key v).mirrorWait = s.mirrorWait := by
  unfold osetTell; split <;> rfl
@[simp] theorem osetTell_hiCap (p key v : Nat) : (osetTell s p key v).hiCap = s.hiCap := by
  unfold osetTell; split <;> rfl
@[simp] theorem osetTell_result (p key v : Nat) : (osetTell s p key v).result = s.result := by
  unfold osetTell; split <;> rfl
@[simp] theorem osetTell_reply (p key v : Nat) : (osetTell s p key v).reply = s.reply := by
  unfold osetTell; split <;> rfl
@[simp] theorem osetTell_pcieUr (p key v : Nat) : (osetTell s p key v).pcieUr = s.pcieUr := by
  unfold osetTell; split <;> rfl
@[simp] theorem osetTell_logQueue (p key v : Nat) : (osetTell s p key v).logQueue = s.logQueue := by
  unfold osetTell; split <;> rfl
@[simp] theorem osetTell_logSeq (p key v : Nat) : (osetTell s p key v).logSeq = s.logSeq := by
  unfold osetTell; split <;> rfl
@[simp] theorem osetTell_timeA (p key v : Nat) : (osetTell s p key v).timeA = s.timeA := by
  unfold osetTell; split <;> rfl
@[simp] theorem osetTell_timeB (p key v : Nat) : (osetTell s p key v).timeB = s.timeB := by
  unfold osetTell; split <;> rfl
@[simp] theorem osetTell_hem (p key v : Nat) : (osetTell s p key v).hem = s.hem := by
  unfold osetTell; split <;> rfl
@[simp] theorem osetTell_acq (p key v : Nat) : (osetTell s p key v).acq = s.acq := by
  unfold osetTell; split <;> rfl
@[simp] theorem osetTell_probes (p key v : Nat) : (osetTell s p key v).probes = s.probes := by
  unfold osetTell; split <;> rfl
@[simp] theorem osetTell_trigPulse (p key v : Nat) : (osetTell s p key v).trigPulse = s.trigPulse := by
  unfold osetTell; split <;> rfl
@[simp] theorem osetTell_busQueue (p key v : Nat) : (osetTell s p key v).busQueue = s.busQueue := by
  unfold osetTell; split <;> rfl
@[simp] theorem osetTell_busSent (p key v : Nat) : (osetTell s p key v).busSent = s.busSent := by
  unfold osetTell; split <;> rfl
@[simp] theorem osetTell_toHost (p key v : Nat) : (osetTell s p key v).toHost = s.toHost := by
  unfold osetTell; split <;> rfl
@[simp] theorem osetTell_dmaQ (p key v : Nat) : (osetTell s p key v).dmaQ = s.dmaQ := by
  unfold osetTell; split <;> rfl
@[simp] theorem osetTell_mbx (p key v : Nat) : (osetTell s p key v).mbx = s.mbx := by
  unfold osetTell; split <;> rfl
@[simp] theorem osetTell_sessions (p key v : Nat) : (osetTell s p key v).sessions = s.sessions := by
  unfold osetTell; split <;> rfl
@[simp] theorem osetTell_challenges (p key v : Nat) : (osetTell s p key v).challenges = s.challenges := by
  unfold osetTell; split <;> rfl
@[simp] theorem osetTell_papSent (p key v : Nat) : (osetTell s p key v).papSent = s.papSent := by
  unfold osetTell; split <;> rfl
@[simp] theorem osetTell_abortAt (p key v : Nat) : (osetTell s p key v).abortAt = s.abortAt := by
  unfold osetTell; split <;> rfl
@[simp] theorem osetTell_ethPorts (p key v : Nat) : (osetTell s p key v).ethPorts = s.ethPorts := by
  unfold osetTell; split <;> rfl
@[simp] theorem osetTell_ethSent (p key v : Nat) : (osetTell s p key v).ethSent = s.ethSent := by
  unfold osetTell; split <;> rfl
@[simp] theorem osetTell_time (p key v : Nat) : (osetTell s p key v).time = s.time := by
  unfold osetTell; split <;> rfl
@[simp] theorem osetTell_keys (p key v : Nat) : (osetTell s p key v).keys = s.keys := by
  unfold osetTell; split <;> rfl
@[simp] theorem osetTell_copied (p key v : Nat) : (osetTell s p key v).copied = s.copied := by
  unfold osetTell; split <;> rfl
@[simp] theorem osetTell_pprUsed (p key v : Nat) : (osetTell s p key v).pprUsed = s.pprUsed := by
  unfold osetTell; split <;> rfl
@[simp] theorem osetTell_mapOut (p key v : Nat) : (osetTell s p key v).mapOut = s.mapOut := by
  unfold osetTell; split <;> rfl
@[simp] theorem osetTell_scrub (p key v : Nat) : (osetTell s p key v).scrub = s.scrub := by
  unfold osetTell; split <;> rfl
@[simp] theorem osetTell_sparesPend (p key v : Nat) : (osetTell s p key v).sparesPend = s.sparesPend := by
  unfold osetTell; split <;> rfl
@[simp] theorem osetTell_deadTracks (p key v : Nat) : (osetTell s p key v).deadTracks = s.deadTracks := by
  unfold osetTell; split <;> rfl
@[simp] theorem osetTell_spills (p key v : Nat) : (osetTell s p key v).spills = s.spills := by
  unfold osetTell; split <;> rfl
@[simp] theorem osetTell_colIrq (p key v : Nat) : (osetTell s p key v).colIrq = s.colIrq := by
  unfold osetTell; split <;> rfl
@[simp] theorem osetTell_noc (p key v : Nat) : (osetTell s p key v).noc = s.noc := by
  unfold osetTell; split <;> rfl
@[simp] theorem osetTell_nocTags (p key v : Nat) : (osetTell s p key v).nocTags = s.nocTags := by
  unfold osetTell; split <;> rfl
@[simp] theorem osetTell_nocGens (p key v : Nat) : (osetTell s p key v).nocGens = s.nocGens := by
  unfold osetTell; split <;> rfl
@[simp] theorem osetTell_nocAnswers (p key v : Nat) : (osetTell s p key v).nocAnswers = s.nocAnswers := by
  unfold osetTell; split <;> rfl
@[simp] theorem osetTell_collar (p key v : Nat) : (osetTell s p key v).collar = s.collar := by
  unfold osetTell; split <;> rfl
@[simp] theorem osetTell_logFlash (p key v : Nat) : (osetTell s p key v).logFlash = s.logFlash := by
  unfold osetTell; split <;> rfl
@[simp] theorem osetTell_power (p key v : Nat) : (osetTell s p key v).power = s.power := by
  unfold osetTell; split <;> rfl
@[simp] theorem osetTell_ticks (p key v : Nat) : (osetTell s p key v).ticks = s.ticks := by
  unfold osetTell; split <;> rfl
@[simp] theorem osetTell_alert (p key v : Nat) : (osetTell s p key v).alert = s.alert := by
  unfold osetTell; split <;> rfl
@[simp] theorem osetTell_free (p key v : Nat) : (osetTell s p key v).free = s.free := by
  unfold osetTell; split <;> rfl
@[simp] theorem osetTell_pending (p key v : Nat) : (osetTell s p key v).pending = s.pending := by
  unfold osetTell; split <;> rfl
@[simp] theorem memByte_osetTell (p key v : Nat) (x : Nat) : memByte (osetTell s p key v) x = memByte s x := by simp [memByte]
@[simp] theorem memLE_osetTell (p key v : Nat) (x y : Nat) : memLE (osetTell s p key v) x y = memLE s x y := by simp [memLE]
@[simp] theorem memBytes_osetTell (p key v : Nat) (x y : Nat) : memBytes (osetTell s p key v) x y = memBytes s x y := by simp [memBytes]
@[simp] theorem memBit_osetTell (p key v : Nat) (x y : Nat) : memBit (osetTell s p key v) x y = memBit s x y := by simp [memBit]
@[simp] theorem rget_osetTell (p key v : Nat) (x : Nat) : rget (osetTell s p key v) x = rget s x := by simp [rget]
@[simp] theorem fget_osetTell (p key v : Nat) (x : Nat) (g : Fld) : fget (osetTell s p key v) x g = fget s x g := by simp [fget, rget]
@[simp] theorem fbit_osetTell (p key v : Nat) (x : Nat) (g : Fld) : fbit (osetTell s p key v) x g = fbit s x g := by unfold osetTell; split <;> rfl
@[simp] theorem getCl_osetTell (p key v : Nat) (x : Nat) : getCl (osetTell s p key v) x = getCl s x := by simp [getCl]
@[simp] theorem getDie_osetTell (p key v : Nat) (x : Nat) : getDie (osetTell s p key v) x = getDie s x := by simp [getDie]
@[simp] theorem getPart_osetTell (p key v : Nat) (x : Nat) : getPart (osetTell s p key v) x = getPart s x := by simp [getPart]

/-! ### logRecord -/

@[simp] theorem logRecord_mem (source severity part code place : Nat) (detail : List Nat) : (logRecord s source severity part code place detail).mem = s.mem := by
  unfold logRecord; split; · rfl
  · simp only; split <;> simp
@[simp] theorem logRecord_wsched (source severity part code place : Nat) (detail : List Nat) : (logRecord s source severity part code place detail).wsched = s.wsched := by
  unfold logRecord; split; · rfl
  · simp only; split <;> simp
@[simp] theorem logRecord_clusters (source severity part code place : Nat) (detail : List Nat) : (logRecord s source severity part code place detail).clusters = s.clusters := by
  unfold logRecord; split; · rfl
  · simp only; split <;> simp
@[simp] theorem logRecord_dies (source severity part code place : Nat) (detail : List Nat) : (logRecord s source severity part code place detail).dies = s.dies := by
  unfold logRecord; split; · rfl
  · simp only; split <;> simp
@[simp] theorem logRecord_parts (source severity part code place : Nat) (detail : List Nat) : (logRecord s source severity part code place detail).parts = s.parts := by
  unfold logRecord; split; · rfl
  · simp only; split <;> simp
@[simp] theorem logRecord_stages (source severity part code place : Nat) (detail : List Nat) : (logRecord s source severity part code place detail).stages = s.stages := by
  unfold logRecord; split; · rfl
  · simp only; split <;> simp
@[simp] theorem logRecord_outbound (source severity part code place : Nat) (detail : List Nat) : (logRecord s source severity part code place detail).outbound = s.outbound := by
  unfold logRecord; split; · rfl
  · simp only; split <;> simp
@[simp] theorem logRecord_ports (source severity part code place : Nat) (detail : List Nat) : (logRecord s source severity part code place detail).ports = s.ports := by
  unfold logRecord; split; · rfl
  · simp only; split <;> simp
@[simp] theorem logRecord_rings (source severity part code place : Nat) (detail : List Nat) : (logRecord s source severity part code place detail).rings = s.rings := by
  unfold logRecord; split; · rfl
  · simp only; split <;> simp
@[simp] theorem logRecord_inNext (source severity part code place : Nat) (detail : List Nat) : (logRecord s source severity part code place detail).inNext = s.inNext := by
  unfold logRecord; split; · rfl
  · simp only; split <;> simp
@[simp] theorem logRecord_outNext (source severity part code place : Nat) (detail : List Nat) : (logRecord s source severity part code place detail).outNext = s.outNext := by
  unfold logRecord; split; · rfl
  · simp only; split <;> simp
@[simp] theorem logRecord_fences (source severity part code place : Nat) (detail : List Nat) : (logRecord s source severity part code place detail).fences = s.fences := by
  unfold logRecord; split; · rfl
  · simp only; split <;> simp
@[simp] theorem logRecord_frames (source severity part code place : Nat) (detail : List Nat) : (logRecord s source severity part code place detail).frames = s.frames := by
  unfold logRecord; split; · rfl
  · simp only; split <;> simp
@[simp] theorem logRecord_goldenFrames (source severity part code place : Nat) (detail : List Nat) : (logRecord s source severity part code place detail).goldenFrames = s.goldenFrames := by
  unfold logRecord; split; · rfl
  · simp only; split <;> simp
@[simp] theorem logRecord_slots (source severity part code place : Nat) (detail : List Nat) : (logRecord s source severity part code place detail).slots = s.slots := by
  unfold logRecord; split; · rfl
  · simp only; split <;> simp
@[simp] theorem logRecord_cellQ (source severity part code place : Nat) (detail : List Nat) : (logRecord s source severity part code place detail).cellQ = s.cellQ := by
  unfold logRecord; split; · rfl
  · simp only; split <;> simp
@[simp] theorem logRecord_pinIn (source severity part code place : Nat) (detail : List Nat) : (logRecord s source severity part code place detail).pinIn = s.pinIn := by
  unfold logRecord; split; · rfl
  · simp only; split <;> simp
@[simp] theorem logRecord_pinReg (source severity part code place : Nat) (detail : List Nat) : (logRecord s source severity part code place detail).pinReg = s.pinReg := by
  unfold logRecord; split; · rfl
  · simp only; split <;> simp
@[simp] theorem logRecord_latches (source severity part code place : Nat) (detail : List Nat) : (logRecord s source severity part code place detail).latches = s.latches := by
  unfold logRecord; split; · rfl
  · simp only; split <;> simp
@[simp] theorem logRecord_treeRaw (source severity part code place : Nat) (detail : List Nat) : (logRecord s source severity part code place detail).treeRaw = s.treeRaw := by
  unfold logRecord; split; · rfl
  · simp only; split <;> simp
@[simp] theorem logRecord_treeHigh (source severity part code place : Nat) (detail : List Nat) : (logRecord s source severity part code place detail).treeHigh = s.treeHigh := by
  unfold logRecord; split; · rfl
  · simp only; split <;> simp
@[simp] theorem logRecord_treesHeld (source severity part code place : Nat) (detail : List Nat) : (logRecord s source severity part code place detail).treesHeld = s.treesHeld := by
  unfold logRecord; split; · rfl
  · simp only; split <;> simp
@[simp] theorem logRecord_resetRegions (source severity part code place : Nat) (detail : List Nat) : (logRecord s source severity part code place detail).resetRegions = s.resetRegions := by
  unfold logRecord; split; · rfl
  · simp only; split <;> simp
@[simp] theorem logRecord_pinOut (source severity part code place : Nat) (detail : List Nat) : (logRecord s source severity part code place detail).pinOut = s.pinOut := by
  unfold logRecord; split; · rfl
  · simp only; split <;> simp
@[simp] theorem logRecord_pinsHeld (source severity part code place : Nat) (detail : List Nat) : (logRecord s source severity part code place detail).pinsHeld = s.pinsHeld := by
  unfold logRecord; split; · rfl
  · simp only; split <;> simp
@[simp] theorem logRecord_fromHost (source severity part code place : Nat) (detail : List Nat) : (logRecord s source severity part code place detail).fromHost = s.fromHost := by
  unfold logRecord; split; · rfl
  · simp only; split <;> simp
@[simp] theorem logRecord_clamps (source severity part code place : Nat) (detail : List Nat) : (logRecord s source severity part code place detail).clamps = s.clamps := by
  unfold logRecord; split; · rfl
  · simp only; split <;> simp
@[simp] theorem logRecord_clampCount (source severity part code place : Nat) (detail : List Nat) : (logRecord s source severity part code place detail).clampCount = s.clampCount := by
  unfold logRecord; split; · rfl
  · simp only; split <;> simp
@[simp] theorem logRecord_mirrorWait (source severity part code place : Nat) (detail : List Nat) : (logRecord s source severity part code place detail).mirrorWait = s.mirrorWait := by
  unfold logRecord; split; · rfl
  · simp only; split <;> simp
@[simp] theorem logRecord_hiCap (source severity part code place : Nat) (detail : List Nat) : (logRecord s source severity part code place detail).hiCap = s.hiCap := by
  unfold logRecord; split; · rfl
  · simp only; split <;> simp
@[simp] theorem logRecord_result (source severity part code place : Nat) (detail : List Nat) : (logRecord s source severity part code place detail).result = s.result := by
  unfold logRecord; split; · rfl
  · simp only; split <;> simp
@[simp] theorem logRecord_reply (source severity part code place : Nat) (detail : List Nat) : (logRecord s source severity part code place detail).reply = s.reply := by
  unfold logRecord; split; · rfl
  · simp only; split <;> simp
@[simp] theorem logRecord_pcieUr (source severity part code place : Nat) (detail : List Nat) : (logRecord s source severity part code place detail).pcieUr = s.pcieUr := by
  unfold logRecord; split; · rfl
  · simp only; split <;> simp
@[simp] theorem logRecord_timeA (source severity part code place : Nat) (detail : List Nat) : (logRecord s source severity part code place detail).timeA = s.timeA := by
  unfold logRecord; split; · rfl
  · simp only; split <;> simp
@[simp] theorem logRecord_timeB (source severity part code place : Nat) (detail : List Nat) : (logRecord s source severity part code place detail).timeB = s.timeB := by
  unfold logRecord; split; · rfl
  · simp only; split <;> simp
@[simp] theorem logRecord_hem (source severity part code place : Nat) (detail : List Nat) : (logRecord s source severity part code place detail).hem = s.hem := by
  unfold logRecord; split; · rfl
  · simp only; split <;> simp
@[simp] theorem logRecord_acq (source severity part code place : Nat) (detail : List Nat) : (logRecord s source severity part code place detail).acq = s.acq := by
  unfold logRecord; split; · rfl
  · simp only; split <;> simp
@[simp] theorem logRecord_probes (source severity part code place : Nat) (detail : List Nat) : (logRecord s source severity part code place detail).probes = s.probes := by
  unfold logRecord; split; · rfl
  · simp only; split <;> simp
@[simp] theorem logRecord_trigPulse (source severity part code place : Nat) (detail : List Nat) : (logRecord s source severity part code place detail).trigPulse = s.trigPulse := by
  unfold logRecord; split; · rfl
  · simp only; split <;> simp
@[simp] theorem logRecord_busQueue (source severity part code place : Nat) (detail : List Nat) : (logRecord s source severity part code place detail).busQueue = s.busQueue := by
  unfold logRecord; split; · rfl
  · simp only; split <;> simp
@[simp] theorem logRecord_busSent (source severity part code place : Nat) (detail : List Nat) : (logRecord s source severity part code place detail).busSent = s.busSent := by
  unfold logRecord; split; · rfl
  · simp only; split <;> simp
@[simp] theorem logRecord_toHost (source severity part code place : Nat) (detail : List Nat) : (logRecord s source severity part code place detail).toHost = s.toHost := by
  unfold logRecord; split; · rfl
  · simp only; split <;> simp
@[simp] theorem logRecord_dmaQ (source severity part code place : Nat) (detail : List Nat) : (logRecord s source severity part code place detail).dmaQ = s.dmaQ := by
  unfold logRecord; split; · rfl
  · simp only; split <;> simp
@[simp] theorem logRecord_mbx (source severity part code place : Nat) (detail : List Nat) : (logRecord s source severity part code place detail).mbx = s.mbx := by
  unfold logRecord; split; · rfl
  · simp only; split <;> simp
@[simp] theorem logRecord_sessions (source severity part code place : Nat) (detail : List Nat) : (logRecord s source severity part code place detail).sessions = s.sessions := by
  unfold logRecord; split; · rfl
  · simp only; split <;> simp
@[simp] theorem logRecord_challenges (source severity part code place : Nat) (detail : List Nat) : (logRecord s source severity part code place detail).challenges = s.challenges := by
  unfold logRecord; split; · rfl
  · simp only; split <;> simp
@[simp] theorem logRecord_papSent (source severity part code place : Nat) (detail : List Nat) : (logRecord s source severity part code place detail).papSent = s.papSent := by
  unfold logRecord; split; · rfl
  · simp only; split <;> simp
@[simp] theorem logRecord_abortAt (source severity part code place : Nat) (detail : List Nat) : (logRecord s source severity part code place detail).abortAt = s.abortAt := by
  unfold logRecord; split; · rfl
  · simp only; split <;> simp
@[simp] theorem logRecord_ethPorts (source severity part code place : Nat) (detail : List Nat) : (logRecord s source severity part code place detail).ethPorts = s.ethPorts := by
  unfold logRecord; split; · rfl
  · simp only; split <;> simp
@[simp] theorem logRecord_ethSent (source severity part code place : Nat) (detail : List Nat) : (logRecord s source severity part code place detail).ethSent = s.ethSent := by
  unfold logRecord; split; · rfl
  · simp only; split <;> simp
@[simp] theorem logRecord_time (source severity part code place : Nat) (detail : List Nat) : (logRecord s source severity part code place detail).time = s.time := by
  unfold logRecord; split; · rfl
  · simp only; split <;> simp
@[simp] theorem logRecord_keys (source severity part code place : Nat) (detail : List Nat) : (logRecord s source severity part code place detail).keys = s.keys := by
  unfold logRecord; split; · rfl
  · simp only; split <;> simp
@[simp] theorem logRecord_copied (source severity part code place : Nat) (detail : List Nat) : (logRecord s source severity part code place detail).copied = s.copied := by
  unfold logRecord; split; · rfl
  · simp only; split <;> simp
@[simp] theorem logRecord_pprUsed (source severity part code place : Nat) (detail : List Nat) : (logRecord s source severity part code place detail).pprUsed = s.pprUsed := by
  unfold logRecord; split; · rfl
  · simp only; split <;> simp
@[simp] theorem logRecord_mapOut (source severity part code place : Nat) (detail : List Nat) : (logRecord s source severity part code place detail).mapOut = s.mapOut := by
  unfold logRecord; split; · rfl
  · simp only; split <;> simp
@[simp] theorem logRecord_scrub (source severity part code place : Nat) (detail : List Nat) : (logRecord s source severity part code place detail).scrub = s.scrub := by
  unfold logRecord; split; · rfl
  · simp only; split <;> simp
@[simp] theorem logRecord_sparesPend (source severity part code place : Nat) (detail : List Nat) : (logRecord s source severity part code place detail).sparesPend = s.sparesPend := by
  unfold logRecord; split; · rfl
  · simp only; split <;> simp
@[simp] theorem logRecord_deadTracks (source severity part code place : Nat) (detail : List Nat) : (logRecord s source severity part code place detail).deadTracks = s.deadTracks := by
  unfold logRecord; split; · rfl
  · simp only; split <;> simp
@[simp] theorem logRecord_spills (source severity part code place : Nat) (detail : List Nat) : (logRecord s source severity part code place detail).spills = s.spills := by
  unfold logRecord; split; · rfl
  · simp only; split <;> simp
@[simp] theorem logRecord_colIrq (source severity part code place : Nat) (detail : List Nat) : (logRecord s source severity part code place detail).colIrq = s.colIrq := by
  unfold logRecord; split; · rfl
  · simp only; split <;> simp
@[simp] theorem logRecord_noc (source severity part code place : Nat) (detail : List Nat) : (logRecord s source severity part code place detail).noc = s.noc := by
  unfold logRecord; split; · rfl
  · simp only; split <;> simp
@[simp] theorem logRecord_nocTags (source severity part code place : Nat) (detail : List Nat) : (logRecord s source severity part code place detail).nocTags = s.nocTags := by
  unfold logRecord; split; · rfl
  · simp only; split <;> simp
@[simp] theorem logRecord_nocGens (source severity part code place : Nat) (detail : List Nat) : (logRecord s source severity part code place detail).nocGens = s.nocGens := by
  unfold logRecord; split; · rfl
  · simp only; split <;> simp
@[simp] theorem logRecord_nocAnswers (source severity part code place : Nat) (detail : List Nat) : (logRecord s source severity part code place detail).nocAnswers = s.nocAnswers := by
  unfold logRecord; split; · rfl
  · simp only; split <;> simp
@[simp] theorem logRecord_collar (source severity part code place : Nat) (detail : List Nat) : (logRecord s source severity part code place detail).collar = s.collar := by
  unfold logRecord; split; · rfl
  · simp only; split <;> simp
@[simp] theorem logRecord_logFlash (source severity part code place : Nat) (detail : List Nat) : (logRecord s source severity part code place detail).logFlash = s.logFlash := by
  unfold logRecord; split; · rfl
  · simp only; split <;> simp
@[simp] theorem logRecord_power (source severity part code place : Nat) (detail : List Nat) : (logRecord s source severity part code place detail).power = s.power := by
  unfold logRecord; split; · rfl
  · simp only; split <;> simp
@[simp] theorem logRecord_ticks (source severity part code place : Nat) (detail : List Nat) : (logRecord s source severity part code place detail).ticks = s.ticks := by
  unfold logRecord; split; · rfl
  · simp only; split <;> simp
@[simp] theorem logRecord_free (source severity part code place : Nat) (detail : List Nat) : (logRecord s source severity part code place detail).free = s.free := by
  unfold logRecord; split; · rfl
  · simp only; split <;> simp
@[simp] theorem logRecord_pending (source severity part code place : Nat) (detail : List Nat) : (logRecord s source severity part code place detail).pending = s.pending := by
  unfold logRecord; split; · rfl
  · simp only; split <;> simp
@[simp] theorem memByte_logRecord (source severity part code place : Nat) (detail : List Nat) (x : Nat) : memByte (logRecord s source severity part code place detail) x = memByte s x := by simp [memByte]
@[simp] theorem memLE_logRecord (source severity part code place : Nat) (detail : List Nat) (x y : Nat) : memLE (logRecord s source severity part code place detail) x y = memLE s x y := by simp [memLE]
@[simp] theorem memBytes_logRecord (source severity part code place : Nat) (detail : List Nat) (x y : Nat) : memBytes (logRecord s source severity part code place detail) x y = memBytes s x y := by simp [memBytes]
@[simp] theorem memBit_logRecord (source severity part code place : Nat) (detail : List Nat) (x y : Nat) : memBit (logRecord s source severity part code place detail) x y = memBit s x y := by simp [memBit]
@[simp] theorem getCl_logRecord (source severity part code place : Nat) (detail : List Nat) (x : Nat) : getCl (logRecord s source severity part code place detail) x = getCl s x := by simp [getCl]
@[simp] theorem getDie_logRecord (source severity part code place : Nat) (detail : List Nat) (x : Nat) : getDie (logRecord s source severity part code place detail) x = getDie s x := by simp [getDie]
@[simp] theorem getPart_logRecord (source severity part code place : Nat) (detail : List Nat) (x : Nat) : getPart (logRecord s source severity part code place detail) x = getPart s x := by simp [getPart]

end Sys2Proof.Machine
end

