-- ==== Sys2Proof/Laws/Mem.lean ====
section
/-! SUPPORT. The addressed memory: what each operation stores, what it leaves alone, and that it keeps the canonical form
(assumption 3). -/

namespace Sys2Proof.Machine

/-! ## What is read back, and what is left alone -/

theorem memByte_setMemLE_out (s : State) (a n v k : Nat) (h : k < a ∨ a + n ≤ k) :
    memByte (setMemLE s a n v) k = memByte s k := sget_swriteLE_out _ _ _ _ _ _ h

/-- A number stored in memory is read back modulo its width. -/
theorem memLE_setMemLE_same (s : State) (a n v : Nat) : memLE (setMemLE s a n v) a n = v % 256 ^ n :=
  sreadLE_swriteLE_same _ _ _ _ _

theorem memLE_setMemLE_out (s : State) (a n v b k : Nat) (h : b + k ≤ a ∨ a + n ≤ b) :
    memLE (setMemLE s a n v) b k = memLE s b k := sreadLE_swriteLE_out _ _ _ _ _ _ _ h

theorem memByte_setMemBytes_out (s : State) (a : Nat) (bs : List Byte) (k : Nat) (h : k < a ∨ a + bs.length ≤ k) :
    memByte (setMemBytes s a bs) k = memByte s k := sget_swriteBytes_out _ _ _ _ _ h

/-- Bytes stored in memory are read back. -/
theorem memBytes_setMemBytes_same (s : State) (a : Nat) (bs : List Byte) :
    memBytes (setMemBytes s a bs) a bs.length = bs := sreadBytes_swriteBytes_same _ _ _ _

theorem memByte_setMemBit_out (s : State) (base b : Nat) (v : Bool) (k : Nat) (h : k ≠ base + b / 8) :
    memByte (setMemBit s base b v) k = memByte s k := sget_sset_ne _ _ _ _ _ (Ne.symm h)

/-- A cleared range reads 0, and every other byte is left alone. -/
theorem memByte_zeroMem (s : State) (lo hi k : Nat) :
    memByte (zeroMem s lo hi) k = if lo ≤ k ∧ k < hi then 0 else memByte s k := sget_sclear _ _ _ _ _

/-- The bits of a byte with one of them set. -/
theorem byteSetBit_getLsbD (w : Byte) (i j : Nat) (v : Bool) (hj : j < 8) :
    (byteSetBit w i v).getLsbD j = if i = j then v else w.getLsbD j := by
  have hp : (BitVec.ofNat 8 (2 ^ i)).getLsbD j = decide (i = j) := by
    rw [BitVec.getLsbD_ofNat, Nat.testBit_two_pow]; simp [hj]
  cases v
  · rw [byteSetBit, if_neg (by simp), BitVec.getLsbD_and, BitVec.getLsbD_not, hp]
    by_cases h : i = j <;> simp [h, hj]
  · rw [byteSetBit, if_pos rfl, BitVec.getLsbD_or, hp]
    by_cases h : i = j <;> simp [h]

/-- A bit stored in memory is read back. -/
theorem memBit_setMemBit_same (s : State) (base b : Nat) (v : Bool) : memBit (setMemBit s base b v) base b = v := by
  have h : memByte (setMemBit s base b v) (base + b / 8) = byteSetBit (memByte s (base + b / 8)) (b % 8) v :=
    sget_sset_same _ _ _ _
  rw [memBit, h, byteSetBit_getLsbD _ _ _ _ (Nat.mod_lt _ (by decide)), if_pos rfl]

/-- Storing a bit leaves every other bit of the store alone. -/
theorem memBit_setMemBit_ne (s : State) (base b j : Nat) (v : Bool) (h : b ≠ j) :
    memBit (setMemBit s base b v) base j = memBit s base j := by
  by_cases hd : b / 8 = j / 8
  · have hb : memByte (setMemBit s base b v) (base + j / 8) = byteSetBit (memByte s (base + j / 8)) (b % 8) v := by
      rw [← hd]; exact sget_sset_same _ _ _ _
    rw [memBit, hb, byteSetBit_getLsbD _ _ _ _ (Nat.mod_lt _ (by decide)), if_neg (by omega), memBit]
  · rw [memBit, memByte_setMemBit_out s base b v _ (by omega), memBit]

/-! ## The canonical form -/

theorem memWf_setMemLE (s : State) (a n v : Nat) (h : memWf s.mem = true) : memWf (setMemLE s a n v).mem = true :=
  swf_swriteLE _ _ _ _ _ h

theorem memWf_setMemBytes (s : State) (a : Nat) (bs : List Byte) (h : memWf s.mem = true) :
    memWf (setMemBytes s a bs).mem = true := swf_swriteBytes _ _ _ _ h

theorem memWf_zeroMem (s : State) (lo hi : Nat) (h : memWf s.mem = true) : memWf (zeroMem s lo hi).mem = true :=
  swf_sclear _ _ _ _ h

theorem memWf_setMemBit (s : State) (base b : Nat) (v : Bool) (h : memWf s.mem = true) :
    memWf (setMemBit s base b v).mem = true := swf_sset _ _ _ _ h

/-- Dropping cells keeps the form. -/
theorem memWf_filter (m : List Host.Cell) (p : Host.Cell → Bool) (h : memWf m = true) : memWf (m.filter p) = true :=
  swfFrom_filter _ 0 m p h

/-- Storing one byte keeps the form. -/
theorem memWf_sset (m : List Host.Cell) (a : Nat) (b : Byte) (h : memWf m = true) : memWf (sset memDefault m a b) = true :=
  swf_sset _ _ _ _ h

/-- The memory after reset has the form. -/
theorem memWf_reset : memWf State.reset.mem = true := rfl

/-- A fold of operations that keep the form keeps it. -/
theorem memWf_foldl {β : Type} (f : State → β → State) (l : List β) (s : State) (h : memWf s.mem = true)
    (hf : ∀ s b, memWf s.mem = true → memWf (f s b).mem = true) : memWf (l.foldl f s).mem = true := by
  induction l generalizing s with
  | nil => exact h
  | cons b l ih => exact ih _ (hf s b h)

end Sys2Proof.Machine
end

