-- ==== Sys2Proof/Laws/Cluster.lean ====
section
/-! SUPPORT. What a cluster's shared operations do (02, 03): running an instruction, the result bits, SW and DW writes. -/

namespace Sys2Proof.Machine

open Sys2Proof.Safety

/-- Where a BP is ready, its command runs its instruction. A memory stitch runs after those of lower BPs (R135). -/
theorem runOne_ready {s : State} {c : ClusterId} {b : Fin 32} {i : BpInstr} (is : BpInstr → Bool)
    (h : stitchReady s c b i) (hi : is i = true)
    (hm : isMemOp i = false ∨
      ∀ a, a < b.val → hasRun (getCl s c.idx) a = true ∨ isMemOp (instrAt s c a) = false) :
    runOne s c b.val is false = runBp s c b.val := by
  obtain ⟨h1, h2, h3, h4, h5, h6, h7, h8, h9⟩ := h
  have hn : noStitch s c = false := by
    cases hp : partOf s c <;> simp_all [noStitch]
  have hg : goWaits s c = [] := by
    unfold stitchWaits at h8
    split at h8 <;> assumption
  have hb : (isMemOp i && (List.range b.val).any fun a => !hasRun (getCl s c.idx) a && isMemOp (instrAt s c a)) = false := by
    rcases hm with hm | hm
    · simp [hm]
    · simp only [Bool.and_eq_false_iff, List.any_eq_false, List.mem_range]
      right
      intro a ha
      rcases hm a ha with h | h <;> simp [h]
  unfold runOne
  simp [hn, h5, h6, hi, h7, h8, h9, hg, hb]

/-- The instruction that a ready BP runs. -/
theorem runBp_ready {s : State} {c : ClusterId} {b : Fin 32} {i : BpInstr} (h : stitchReady s c b i) :
   decodeBp (slotWord s c (physBp (getCl s c.idx) b.val) (getCl s c.idx).stitch) = i := h.2.2.2.2.2.1

/-! ### captureIllegal -/
theorem captureIllegal_mem (s : State) (c : ClusterId) (b : Nat) : (captureIllegal s c b).mem = s.mem := by
  unfold captureIllegal; simp only; split <;> simp
theorem captureIllegal_clusters (s : State) (c : ClusterId) (b : Nat) : (captureIllegal s c b).clusters = s.clusters := by
  unfold captureIllegal; simp only; split <;> simp
theorem captureIllegal_wsched (s : State) (c : ClusterId) (b : Nat) : (captureIllegal s c b).wsched = s.wsched := by
  unfold captureIllegal; simp only; split <;> simp

/-- An operand depends on memory and Warp schedule memory, beside its cluster. -/
theorem operandBit_congr (s t : State) (c : ClusterId) (k : Cluster) (b : Nat) (w : BitVec 9) (hm : t.mem = s.mem) (hw : t.wsched = s.wsched) :
  operandBit t c k b w = operandBit s c k b w := by
  unfold operandBit memBit memByte readSlot expectedStitch acceptList
  rw [hm, hw]

/-- A word with bit `b` set to `v`. -/
theorem setBit_getLsbD (w : Word) (b j : Nat) (v : Bool) (hj : j < 32) :
  (if v then w ||| BitVec.ofNat 32 (2 ^ b) else w &&& ~~~ BitVec.ofNat 32 (2 ^ b)).getLsbD j = if j = b then v else w.getLsbD j := by
  have hp : (BitVec.ofNat 32 (2 ^ b)).getLsbD j = decide (b = j) := by
    rw [BitVec.getLsbD_ofNat, Nat.testBit_two_pow]; simp [hj]
  cases v
  · rw [if_neg (by simp), BitVec.getLsbD_and, BitVec.getLsbD_not, hp]
    by_cases h : j = b <;> simp [h, hj, Ne.symm]
    try omega
  · rw [if_pos rfl, BitVec.getLsbD_or, hp]
    by_cases h : j = b <;> simp [h, Ne.symm]
    try omega

/-- Setting a result bit as setResult does. -/
theorem resultSet_of_bits (k : Cluster) (b : Nat) (v : Bool) (k' : Cluster)
  (h : k'.cur = if v then k.cur ||| BitVec.ofNat 32 (2 ^ b) else k.cur &&& ~~~ BitVec.ofNat 32 (2 ^ b))
  (h2 : k'.ran = k.ran ||| BitVec.ofNat 32 (2^b)) : resultSet k k' b v := by
  refine ⟨fun j hj => by rw [h, setBit_getLsbD _ _ _ _ hj], fun j hj => ?_⟩
  have hp : (BitVec.ofNat 32 (2 ^ b)).getLsbD j = decide (b = j) := by
    rw [BitVec.getLsbD_ofNat, Nat.testBit_two_pow]; simp [hj]
  simp only [hasRun, h2, BitVec.getLsbD_or, hp]
  by_cases h : j = b <;> simp [h]
  try omega

/-! ### writeStateBit (R54, R55) -/
theorem writeStateBit_mem (s : State) (c b a v) : (writeStateBit s c b a v).mem = s.mem := by
  unfold writeStateBit; simp only; split
  · simp
  · split <;> simp

theorem writeStateBit_getCl (s : State) (c b a v) : getCl (writeStateBit s c b a v) c.idx = { getCl s c.idx with written := (getCl (writeStateBit s c b a v) c.idx).written } := by
  unfold writeStateBit; simp only; split
  · simp
  · split <;> simp
theorem writeStateBit_getCl_ne (s : State) (c b a v i) (h : i ≠ c.idx) : getCl (writeStateBit s c b a v) i = getCl s i := by
  unfold writeStateBit; simp only; split
  · exact getCl_setCl_ne _ _ _ _ (Ne.symm h)
  · split
    · rw [getCl_setCl_ne _ _ _ _ (Ne.symm h)]; simp
    · simp
theorem writeStateBit_written (s : State) (c b a v) (h : sget (fun _ => none) (getCl s c.idx).written a = none) :
   sget (fun _ => none) (getCl (writeStateBit s c b a v) c.idx).written a = some ⟨v, (getCl s c.idx).stitch, b⟩ := by
  unfold writeStateBit; simp only [h]; simp
theorem writeStateBit_written_ne (s : State) (c b a v x) (h : x ≠ a) :
   sget (fun _ => none) (getCl (writeStateBit s c b a v) c.idx).written x = sget (fun _ => none) (getCl s c.idx).written x := by
  unfold writeStateBit; simp only; split
  · simp [sget_sset_ne _ _ _ _ _ (Ne.symm h)]
  · split
    · simp [sget_sset_ne _ _ _ _ _ (Ne.symm h)]
    · simp


/-- All that an SW write does (R53). -/
theorem writeSw_facts (s : State) (c : ClusterId) (b : Nat) (v : Bool) :
   let k := getCl s c.idx
   let t := writeSw s c b v
   let k' := getCl t c.idx
   let q := sget (fun _ => 0) k.swptr b
   t.mem = s.mem ∧ ClustersKept s t c ∧ sget (fun _ => 0) k'.swptr b = (q + 1) % 65536 ∧
    (sget (fun _ => none) k.written q = none → sget (fun _ => none) k'.written q = some ⟨v, k.stitch, b⟩) ∧
    (∀ a, a ≠ q → sget (fun _ => none) k'.written a = sget (fun _ => none) k.written a) ∧
    k' = { k with swptr := k'.swptr, written := k'.written } := by
  intro k t k' q
  have hk : k' = { getCl (writeStateBit s c b q v) c.idx with swptr := sset (fun _ => 0) (getCl (writeStateBit s c b q v) c.idx).swptr b ((q + 1) % 65536) } := by
    simp only [k', t, writeSw, getCl_setCl_same]; rfl
  have hw := writeStateBit_getCl s c b q v
  refine ⟨?_, ?_, ?_, ?_, ?_, ?_⟩
  · simp [t, writeSw, writeStateBit_mem]
  · intro i hi
    simp only [t, writeSw]
    rw [getCl_setCl_ne _ _ _ _ (Ne.symm hi), writeStateBit_getCl_ne _ _ _ _ _ _ hi]
  · rw [hk]; simp
  · intro h; rw [hk]; exact writeStateBit_written _ _ _ _ _ h
  · intro a ha; rw [hk]; exact writeStateBit_written_ne _ _ _ _ _ _ ha
  · rw [hk, hw]

/-- All that a DW write does (R49). -/
theorem writeDw_facts (s : State) (c : ClusterId) (b : Nat) (v : Bool) :
   let k := getCl s c.idx
   let t := writeDw s c b v
   let p := sget (fun _ => 0) k.dwptr b
   t.mem = (setMemBit s (dataBase c b) p v).mem ∧ ClustersKept s t c ∧
    getCl t c.idx = { k with dwptr := sset (fun _ => 0) k.dwptr b ((p + 1) % 16384) } := by
  intro k t p
  refine ⟨?_, ?_, ?_⟩
  · simp [t, writeDw, p, k]
  · intro i hi
    simp only [t, writeDw]
    rw [getCl_setCl_ne _ _ _ _ (Ne.symm hi), getCl_setMemBit]
  · simp only [t, writeDw, getCl_setCl_same, getCl_setMemBit]; rfl

/-- All that setting a result does. -/
theorem setResult_facts (s : State) (c : ClusterId) (b : Nat) (v : Bool) :
   let k := getCl s c.idx
   let t := setResult s c b v
   t.mem = s.mem ∧ ClustersKept s t c ∧ resultSet k (getCl t c.idx) b v ∧
    getCl t c.idx = { k with cur := (getCl t c.idx).cur, ran := (getCl t c.idx).ran } := by
  intro k t
  have hk : getCl t c.idx = _ := getCl_setCl_same _ _ _
  refine ⟨?_, ?_, ?_, ?_⟩
  · simp [t, setResult]
  · intro i hi
    exact getCl_setCl_ne _ _ _ _ (Ne.symm hi)
  · rw [hk]; exact resultSet_of_bits _ _ _ _ rfl rfl
  · rw [hk]

/-- All that a LUT or LUTS result does. -/
theorem finishLut_effect (s : State) (c : ClusterId) (b : Nat) (v sw dw : Bool) : lutEffect s (finishLut s c b v sw dw) c b v sw dw := by
  have hd : finishLut s c b v sw dw = setResult (if sw then writeSw (if dw then writeDw s c b v else s) c b v else (if dw then writeDw s c b v else s)) c b v := rfl
  rw [hd]
  set s1 := if dw then writeDw s c b v else s with h1
  set s2 := if sw then writeSw s1 c b v else s1 with h2
  obtain ⟨r1, r2, r3, r4⟩ := setResult_facts s2 c b v
  have d := writeDw_facts s c b v
  have w := writeSw_facts s1 c b v
  simp only at d w
  unfold lutEffect
  simp only
  cases sw <;> cases dw <;> simp only [if_true, if_false, Bool.false_eq_true] at h1 h2 <;> rw [h2] at r1 r2 r3 r4 ⊢ <;> try rw [h1] at r1 r2 r3 r4 w ⊢
  · simp only [Bool.false_eq_true, false_implies, true_implies, true_and]
    exact ⟨r3, ⟨r1, by rw [r4]⟩, ⟨by rw [r4], by rw [r4]⟩, by rw [r4], r2⟩
  · obtain ⟨d1, d2, d3⟩ := d
    rw [d3] at r3 r4
    have e : ({ getCl s c.idx with dwptr := sset (fun _ => 0) (getCl s c.idx).dwptr b ((sget (fun _ => 0) (getCl s c.idx).dwptr b + 1) % 16384) } : Cluster).cur = (getCl s c.idx).cur := rfl
    simp only [Bool.false_eq_true, false_implies, true_implies, true_and, reduceCtorEq]
    refine ⟨r3, ⟨?_, by rw [r4]; simp, ?_⟩, ⟨by rw [r4], by rw [r4]⟩, by rw [r4], ?_⟩
    · unfold memBit memByte; rw [r1, d1]; exact memBit_setMemBit_same _ _ _ _
    · intro a ha; unfold memByte; rw [r1, d1]; exact memByte_setMemBit_out _ _ _ _ _ (by omega)
    · intro i hi; rw [r2 i hi, d2 i hi]
  · obtain ⟨w1, w2, w3, w4, w5, w6⟩ := w
    simp only [Bool.false_eq_true, false_implies, true_implies, true_and, reduceCtorEq]
    rw [w6] at r3 r4
    refine ⟨r3, ⟨by rw [r1, w1], by rw [r4]⟩, ⟨by rw [r4]; exact w3, by rw [r4]; exact w4, by rw [r4]; exact w5⟩, by rw [r4], ?_⟩
    intro i hi; rw [r2 i hi, w2 i hi]
  · obtain ⟨d1, d2, d3⟩ := d
    obtain ⟨w1, w2, w3, w4, w5, w6⟩ := w
    simp only [Bool.false_eq_true, false_implies, true_implies, true_and, reduceCtorEq]
    rw [w6] at r3 r4
    rw [d3] at r3 r4 w3 w4 w5
    refine ⟨r3, ⟨?_, by rw [r4]; simp, ?_⟩, ⟨by rw [r4]; exact w3, by rw [r4]; exact w4, by rw [r4]; exact w5⟩, by rw [r4], ?_⟩
    · unfold memBit memByte; rw [r1, w1, d1]; exact memBit_setMemBit_same _ _ _ _
    · intro a ha; unfold memByte; rw [r1, w1, d1]; exact memByte_setMemBit_out _ _ _ _ _ (by omega)
    · intro i hi; rw [r2 i hi, w2 i hi, d2 i hi]

/-- The effect's statement looks at memory and clusters only. -/
theorem lutEffect_congr {s s1 t : State} {c b v sw dw} (hm : s1.mem = s.mem) (hc : s1.clusters = s.clusters) (h : lutEffect s1 t c b v sw dw) :
   lutEffect s t c b v sw dw := by
  unfold lutEffect at h ⊢
  have hg : ∀ i, getCl s1 i = getCl s i := fun i => by unfold getCl; rw [hc]
  have hb : ∀ a, memByte s1 a = memByte s a := fun a => by unfold memByte; rw [hm]
  simp only [hg, hm, MemKept, ClustersKept, hb] at h ⊢
  exact h

/-- An illegal encoding's capture touches neither memory nor clusters. -/
theorem illegal_if (s : State) (c : ClusterId) (b : Nat) (x : Bool) :
   (if x then captureIllegal s c b else s).mem = s.mem ∧ (if x then captureIllegal s c b else s).clusters = s.clusters ∧ (if x then captureIllegal s c b else s).wsched = s.wsched := by
  cases x <;> simp [captureIllegal_mem, captureIllegal_clusters, captureIllegal_wsched]

end Sys2Proof.Machine
end

