-- ==== Sys2Proof/Laws/Log.lean ====
section
/-! SUPPORT. What the shared reporting operations do (R405, R406, R408, R482): a log record, ALERT_N, PCI_EVENT. -/

namespace Sys2Proof.Machine

/-- PCI_EVENT is the one register that an event writes. -/
theorem rget_pciEvent (s : State) (f : Fld) (a : Nat) (h : a ≠ Reg.PCI_EVENT) : rget (pciEvent s f) a = rget s a := by
  unfold pciEvent
  split
  · rfl
  · rw [rget_irq, rget_fset_ne _ _ _ _ _ (Ne.symm h)]

theorem rget_assertAlert (s : State) (a : Nat) (h : a ≠ Reg.PCI_EVENT) : rget (assertAlert s) a = rget s a := by
  unfold assertAlert
  split
  · rfl
  · exact rget_pciEvent _ _ _ h

/-- Logging writes PCI_EVENT at most, and no other register. -/
theorem rget_logRecord (s : State) (source severity part code place : Nat) (detail : List Nat) (a : Nat)
    (h : a ≠ Reg.PCI_EVENT) : rget (logRecord s source severity part code place detail) a = rget s a := by
  unfold logRecord
  split
  · simp [oinc]
  · simp only
    split
    · exact rget_assertAlert _ _ h
    · rfl

theorem fget_logRecord (s : State) (source severity part code place : Nat) (detail : List Nat) (a : Nat) (f : Fld)
    (h : a ≠ Reg.PCI_EVENT) : fget (logRecord s source severity part code place detail) a f = fget s a f := by
  simp [fget, rget_logRecord s source severity part code place detail a h]

/-- Logging writes LOG_DROPPED at most, and no other entry. -/
theorem oget_logRecord (s : State) (source severity part code place : Nat) (detail : List Nat) (k : Nat)
    (h : k ≠ Od.LOG_DROPPED) : oget (logRecord s source severity part code place detail) k = oget s k := by
  unfold logRecord
  split
  · exact oget_oset_ne _ _ _ _ (Ne.symm h)
  · simp only
    split
    · simp [oget]
    · rfl

/-- A record that is not dropped stands at the end of the queue under the next SEQ. -/
theorem logRecord_appends (s : State) (source severity part code place : Nat) (detail : List Nat)
    (h : 2 < severity ∨ s.logQueue.length < 4096) :
    (logRecord s source severity part code place detail).logSeq = s.logSeq + 1 ∧
    ∃ r : LogRecord, (logRecord s source severity part code place detail).logQueue = s.logQueue ++ [r] ∧
      r.seq = s.logSeq ∧ r.source = source ∧ r.severity = severity ∧ r.partition = part ∧ r.code = code ∧
      r.place = place ∧ r.detail = detail := by
  let r : LogRecord :=
    { seq := s.logSeq, time := time80 s.timeA,
      ecycle := if part < 16 then (getPart s part).completed % 2 ^ 48 else 0,
      source := source, severity := severity, partition := part, code := code, place := place, detail := detail }
  have e : logRecord s source severity part code place detail =
      if 6 ≤ severity then assertAlert { s with logQueue := s.logQueue ++ [r], logSeq := s.logSeq + 1 }
      else { s with logQueue := s.logQueue ++ [r], logSeq := s.logSeq + 1 } := by
    unfold logRecord; rw [if_neg (by omega)]
  rw [e]
  refine ⟨?_, r, ?_, rfl, rfl, rfl, rfl, rfl, rfl, rfl⟩ <;>
    (split <;> [(unfold assertAlert; split <;> simp); rfl])

/-- Clusters stay bound as they were. -/
@[simp] theorem partOf_logRecord (s : State) (source severity part code place : Nat) (detail : List Nat) (c : ClusterId) :
    partOf (logRecord s source severity part code place detail) c = partOf s c := by
  have h1 : ∀ p, oget (logRecord s source severity part code place detail) (Od.PART_STATE p) = oget s (Od.PART_STATE p) :=
    fun p => oget_logRecord _ _ _ _ _ _ _ _ (by unfold Od.PART_STATE Od.LOG_DROPPED odKey; omega)
  have h2 : ∀ p d, oget (logRecord s source severity part code place detail) (Od.ROWS_W p d) = oget s (Od.ROWS_W p d) :=
    fun p d => oget_logRecord _ _ _ _ _ _ _ _ (by unfold Od.ROWS_W Od.LOG_DROPPED odKey; omega)
  unfold partOf rowInBand
  simp only [h1, h2]

/-- Which partition a cluster is bound to depends on the dictionary only. -/
theorem partOf_congr (s t : State) (h : t.od = s.od) (c : ClusterId) : partOf t c = partOf s c := by
  unfold partOf rowInBand oget; rw [h]

@[simp] theorem partOf_fset (s : State) (a : Nat) (f : Fld) (v : Nat) (c : ClusterId) :
    partOf (fset s a f v) c = partOf s c := partOf_congr _ _ (fset_od _ _ _ _) c

@[simp] theorem partOf_fsets (s : State) (a : Nat) (l : List (Fld × Nat)) (c : ClusterId) :
    partOf (fsets s a l) c = partOf s c := partOf_congr _ _ (fsets_od _ _ _) c

@[simp] theorem partOf_setCl (s : State) (i : Nat) (k : Cluster) (c : ClusterId) :
    partOf (setCl s i k) c = partOf s c := partOf_congr _ _ (setCl_od _ _ _) c

end Sys2Proof.Machine
end

