-- ==== Sys2Proof/Tests/Slice0.lean ====
section
/-! SUPPORT. Tests: ill-formed commands, instruction words, single effects, and for each statement with hypotheses states
and operands that meet them. -/

set_option maxRecDepth 100000
set_option Elab.async false

namespace Sys2Proof.Tests

open Machine Safety

/-! ## States to test on -/

/-- Cluster 0 of die 0 in partition 0, which runs on row 0 of die 0, with a sweep of two stitches. -/
def c0 : ClusterId := ⟨0, 0, 0⟩

/-- Partition 0 bound to row 0 of die 0, RUN_STATE running, REFCLK present, lease held, stage 3. -/
def bound : State :=
  fsets (fset (oset (oset (oset State.reset (Od.ROWS_W 0 0) 1) (Od.PART_STATE 0) 2) (Od.RUN_STATE 0) 2)
    Reg.COL_LEASE F.COL_LEASE_HOLDER 0) Reg.PWR_STATUS [(F.PWR_STATUS_REFCLK_OK, 1), (F.PWR_STATUS_STAGE, 3)]

/-- `bound` with a sweep length of 2 in cluster 0, which stands in its sweep at stitch 0. -/
def swept : State := setCl (fset bound (Reg.BP_SWEEP_LEN c0) F.BP_SWEEP_LEN_LEN 2) c0.idx { inSweep := true, credited := true }

/-- `swept` with the word `w` as the instruction of logical BP 0 at stitch 0. -/
def at0 (w : Nat) : State := setMemLE swept (slotAddr c0 0 0) 8 w

/-! ## Statements on instructions -/

theorem witness_LutStitchesGiveTheirResult :
    stitchReady (at0 0x2000002020181200) c0 0 (.lut 0x8000 1 2 3 4 true false) ∧
    stitchReady (at0 0x403FFFE000021234) c0 0 (.luts 0x00FF 0x1FF 0 0 false true 0x1234) := by
  unfold stitchReady; decide

theorem witness_WordStitchesIssueTheirResult :
    stitchReady (at0 0x8000808020000000) c0 0 (.word .add ⟨1, 4, 4, 0, 0, 0, false, false, 0⟩) := by
  unfold stitchReady; decide

/-- A result in flight to entry 5. -/
def flying (port : WbPort) : PendingWrite :=
  { key := ⟨0, 0, 0⟩, port := port, entry := some 5, value := 7, wr := true, zn := some (false, false), cv := none }

/-- `swept` with that result in flight. -/
def withFlying (port : WbPort) : State := setCl swept c0.idx { inSweep := true, stitch := 1, pend := [flying port] }

theorem witness_CompletedResultsLand :
    findPending (getCl (withFlying .word) c0.idx) .word ⟨0, 0, 0⟩ = some (flying .word) ∧
    mayComplete (withFlying .word) c0 (flying .word) = true ∧
    (∀ port ∈ [WbPort.ldsw, .pocket], (getCl (withFlying port) c0.idx).w1Used = false ∧
      w1Next (getCl (withFlying port) c0.idx) (mayComplete (withFlying port) c0) = some (flying port)) ∧
    (flying .word).entry = some 5 ∧ keyAfter (sget (fun _ => none) (getCl (withFlying .word) c0.idx).wfKey 5) ⟨0, 0, 0⟩ = true ∧
    findPending (getCl (withFlying .ldsw) c0.idx) .ldsw ⟨0, 0, 0⟩ = some (flying .ldsw) ∧
    findPending (getCl (withFlying .pocket) c0.idx) .pocket ⟨0, 0, 0⟩ = some (flying .pocket) ∧
    (let s := setCl swept c0.idx { inSweep := true, stitch := 1, wfKey := [(5, some ⟨1, 0, 0⟩)], pend := [flying .word] }
     keyAfter (sget (fun _ => none) (getCl s c0.idx).wfKey 5) ⟨0, 0, 0⟩ = false) := by decide

/-- With the next theorem: Obligations.ControlStitchesHaveTheirEffect. -/
theorem witness_ControlStitchesHaveTheirEffect :
    stitchReady (at0 0xE000000000000000) c0 0 .nop ∧ stitchReady (at0 0xE500000000000000) c0 0 .reserved ∧
    stitchReady (at0 0xE100000000000015) c0 0 (.setpg 0x15) := by
  unfold stitchReady; decide

theorem witness_BrkMarkDfence :
    stitchReady (at0 0xE2000000000000C3) c0 0 (.brk true 0x43) ∧
    stitchReady (at0 0xE300000000ABCD05) c0 0 (.mark 0xABCD false 5) ∧
    stitchReady (at0 0xE400000000000000) c0 0 .dfence := by
  unfold stitchReady; decide

theorem witness_IllegalEncodingsAreCaptured :
    stitchReady (fset (at0 0xE500000000000000) (Reg.BP_ILLEGAL c0) F.BP_ILLEGAL_VALID 1) c0 0 .reserved ∧
    partOf swept c0 = some 0 ∧ swept.logQueue.length < 4096 ∧
    fbit swept (Reg.BP_ILLEGAL c0) F.BP_ILLEGAL_VALID = false ∧ (getCl swept c0.idx).stitch < 8192 := by
  unfold stitchReady; decide

/-- A Pocket descriptor of 32-bit elements for cluster 0, and one for HBM: `n` elements. -/
def pocketDesc (n ro : Nat) : BitVec 128 := BitVec.ofNat 128 (0x8BF00000 + ro * 0x10000000 + (n - 1) * 2 ^ 32)
def hbmDesc (n : Nat) : BitVec 128 := BitVec.ofNat 128 (0xABF00000 + (n - 1) * 2 ^ 32 + 0x20 * 2 ^ 96)

/-- The instruction `w` with descriptors 1 (Pocket), 2 (HBM), 3 (one element, Pocket) and 4 (read-only) in die 0's table,
and bank 0 in the partition's carve. -/
def withDescs (w : Nat) : State :=
  oset (setDie (setMemLE (at0 w) (wfAddr c0 0) 4 1) 0
    { descs := [(1, pocketDesc 4 0), (2, hbmDesc 4), (3, pocketDesc 1 0), (4, pocketDesc 4 1)] }) (Od.BANK_COUNT_W 0 0) 1

/-- DRD and DWR with descriptor `n`, addressed by word-file entry 0. -/
def drdWord (n : Nat) : Nat := 0xC000000000400000 + n * 0x20000000000
def dwrWord (n : Nat) : Nat := 0xC200000000400000 + n * 0x20000000000

theorem witness_NonLutStitchesWriteZero :
    stitchReady (at0 0xC400602000000000) c0 0 (.ldsw 1 0x202) ∧
    stitchReady (at0 0xC7FFC00000000000) c0 0 (.stsw 0x7FF 0 false 0) := by
  unfold stitchReady; decide

theorem witness_DrdStitches : ∀ n ∈ [1, 2, 3, 4], stitchReady (withDescs (drdWord n)) c0 0 (.drd (BitVec.ofNat 16 n) 0 2 false 0) := by
  unfold stitchReady; decide

theorem witness_DwrStitches :
    ∀ n ∈ [1, 2, 3, 4], stitchReady (withDescs (dwrWord n)) c0 0 (.dwr (BitVec.ofNat 16 n) 0 2 false 0 0 false) := by
  unfold stitchReady; decide

theorem witness_MemoryStitchesMakeTheirAccess :
    let s := withDescs 0
    condHolds (getCl s c0.idx) false 0 = true ∧ condHolds (getCl s c0.idx) true 0 = false ∧
    (∀ n ∈ [1, 2, 3, 4], descCheck s c0 (descGet s 0 n) (awfAddr s c0 0) = none) ∧ descCheck s c0 (descGet s 0 5) 1 ≠ none ∧
    descCheck s c0 (descGet s 0 1) 3 = none ∧
    descDepthM1 (descGet s 0 1) = 3 ∧ descDepthM1 (descGet s 0 3) < awfAddr s c0 0 ∧
    descPocket (descGet s 0 1) = true ∧ descPocket (descGet s 0 2) = false ∧ descRo (descGet s 0 4) = true := by
  decide

/-! ## Statements on design memory, the sweep and Warp -/

/-- A read and a write of HBM in flight from cluster 0, and one from cluster 1, which is in no partition. -/
def opOf (i : Nat) (write : Bool) : DmemOp :=
  { cluster := i, key := ⟨0, 0, 0⟩, desc := 2, addr := 0x2000000004, tag := none, elem := 1, write := write, data := 5, mask := 1 }
def withOps : State :=
  oset (setDie (withFlying .hbm) 0 { descs := [(2, hbmDesc 4)], ops := [opOf 0 false, opOf 0 true, opOf 1 true] }) (Od.HBM_H 0 2) 1

/-- Of Obligations.HbmOperationsComeBack and Obligations.HbmEventsHaveTheirEffect. -/
theorem witness_HbmOperationsComeBack :
    let s := withOps
    let x := getDie s 0
    findPending (getCl s c0.idx) .hbm ⟨0, 0, 0⟩ = some (flying .hbm) ∧ findOp x c0 ⟨0, 0, 0⟩ false = some (opOf 0 false) ∧
    earlierOp x (opOf 0 false) = false ∧ opCode s c0 (opOf 0 false) = 0 ∧ opCode s c0 (opOf 0 true) = 0 ∧
    opCode (oset s Od.INTEGRITY_HALT 1) c0 (opOf 0 false) ≠ 0 ∧ opCode s ⟨0, 0, 1⟩ (opOf 1 true) ≠ 0 ∧
    undoHolds s c0 (opOf 0 true) = false ∧
    (let p' : PendingWrite := { flying .hbm with value := 9, ready := true }
     let k1 : Cluster := { getCl s c0.idx with pend := [p'] }
     (k1.w1Used && k1.inSweep) = false ∧ w1Next k1 (mayComplete (setCl s c0.idx k1) c0) = some p') ∧
    (flying .hbm).entry = some 5 ∧ keyAfter (sget (fun _ => none) (getCl s c0.idx).wfKey 5) ⟨0, 0, 0⟩ = true ∧
    findOp x c0 ⟨0, 0, 0⟩ true = some (opOf 0 true) ∧ partOf s c0 = some 0 ∧
    findOp x ⟨0, 0, 1⟩ ⟨0, 0, 0⟩ true = some (opOf 1 true) ∧ earlierOp x (opOf 1 true) = false ∧ partOf s ⟨0, 0, 1⟩ = none ∧
    (x.ops.find? fun q => decide (q.cluster = c0.idx) && decide (q.key = ⟨0, 0, 0⟩)) = some (opOf 0 false) ∧
    fbit s (Reg.HBM_STATUS 3) F.HBM_STATUS_RETIRED = false ∧ sget (fun _ => 0) s.pprUsed (64 * 3 + 63) < 16 ∧
    halted s = false ∧ halted (oset s Od.INTEGRITY_HALT 1) = true := by decide

theorem witness_DescriptorsAndFillsTakeEffect :
    let s := setDie bound 0 { stage0 := 0x8BF00000, stage1 := 3 }
    ownerRunning s 0 (descGet s 0 0) = false ∧
    ownerRunning s 0 ((0 : Word) ++ (getDie s 0).stage2 ++ (getDie s 0).stage1 ++ (getDie s 0).stage0) = false ∧
    descReserved ((0 : Word) ++ (getDie s 0).stage2 ++ (getDie s 0).stage1 ++ (getDie s 0).stage0) = false ∧
    descReserved ((0x10000 : Word) ++ (getDie s 0).stage2 ++ (getDie s 0).stage1 ++ (getDie s 0).stage0) = true ∧
    fbit s (Reg.DMEM_FILL_CTRL 0) F.DMEM_FILL_CTRL_GO = false ∧
    fget s (Reg.DMEM_FILL_BANKS 0) F.DMEM_FILL_BANKS_FIRST + fget s (Reg.DMEM_FILL_BANKS 0) F.DMEM_FILL_BANKS_COUNT_M1 ≤ 2047 ∧
    fillTouchesRunning s 0 0 0 = false ∧
    (let t := fsets s (Reg.DMEM_FILL_BANKS 0) [(F.DMEM_FILL_BANKS_FIRST, 2047), (F.DMEM_FILL_BANKS_COUNT_M1, 1)]
     2047 < fget t (Reg.DMEM_FILL_BANKS 0) F.DMEM_FILL_BANKS_FIRST +
      fget t (Reg.DMEM_FILL_BANKS 0) F.DMEM_FILL_BANKS_COUNT_M1) ∧
    (getDie (setDie bound 0 { fill := some (2047, 1, 7) }) 0).fill = some (2047, 1, 7) := by decide

/-- `swept` with every BP of the stitch run. -/
def allRan : State := setCl swept c0.idx { inSweep := true, credited := true, ran := BitVec.allOnes 32 }

/-- `swept` at the end of its sweep. -/
def sweepOver : State := setCl swept c0.idx { inSweep := true, stitch := 2, written := [(3, some ⟨true, 0, 0⟩)] }

/-- Of Obligations.StitchesCompleteOrWait and Obligations.SweepsEndAndEcyclesComplete. -/
theorem witness_StitchesCompleteOrWait :
    (participating allRan c0 = true ∧ partOf allRan c0 ≠ none ∧ (getCl allRan c0.idx).inSweep = true ∧
      (getCl allRan c0.idx).stitch < sweepLen allRan c0 ∧ (getCl allRan c0.idx).ran = BitVec.allOnes 32 ∧
      approach allRan c0 = allRan ∧ goWaits allRan c0 = [] ∧ routeBlocked allRan c0 = false) ∧
    (let s := setCl allRan c0.idx { inSweep := true, hold := true }
     goWaits s c0 ≠ [] ∧ approach s c0 = s ∧ participating s c0 = true ∧ (getCl s c0.idx).inSweep = true) ∧ (getPart allRan 0).hold = .none ∧
    (let s := setDie bound 3 { credits := [(7, 20)], bucket := 0 }
     (getDie s 3).credits = (7, 20) :: [] ∧ chargeNow s 3 20 ≤ min 16384 ((getDie s 3).bucket + refillOf s 3 1)) ∧
    ((getCl sweepOver c0.idx).inSweep = true ∧ sweepLen sweepOver c0 ≤ (getCl sweepOver c0.idx).stitch ∧
      participating sweepOver c0 = true ∧ swf (fun _ => none) (getCl sweepOver c0.idx).written = true) ∧
    clRun (fset bound (Reg.BP_CL_STATUS c0) F.BP_CL_STATUS_RUN 1) c0 = true ∧ (getCl bound c0.idx).noProgress = false ∧
    (getCl (setCl bound c0.idx { sendWait := true }) c0.idx).sendWait = true := by
  decide

/-- `bound` with a sweep length of 2 in cluster 0, which waits at the gate of ecycle 0 or has completed it. -/
def atGate (e : Nat) : State := setCl (fset bound (Reg.BP_SWEEP_LEN c0) F.BP_SWEEP_LEN_LEN 2) c0.idx { ecycle := e }

theorem witness_SweepsBegin :
    let s := atGate 0
    (getCl s c0.idx).inSweep = false ∧ participating s c0 = true ∧ partOf s c0 = some 0 ∧ gateAdmits s 0 0 = true ∧
    (getCl s c0.idx).hold = false := by decide

theorem witness_SweepsEndAndEcyclesComplete : (getPart (atGate 1) 0).hold = .none ∧ allCompleted (atGate 1) 0 0 = true := by decide

theorem witness_WindowsCarryNothingFromTheSweepBefore :
    ((getCl swept c0.idx).inSweep = true ∧ windowBit (getCl swept c0.idx) 0x7F = false) ∧
    (getCl (atGate 0) c0.idx).inSweep = false ∧
    (getCl sweepOver c0.idx).inSweep = true ∧ sweepLen sweepOver c0 ≤ (getCl sweepOver c0.idx).stitch ∧
    participating sweepOver c0 = true := by decide

theorem witness_DwWritesFollowTheirPointer :
    stitchReady (at0 0x2000002020180A00) c0 0 (decodeBp 0x2000002020180A00) := by unfold stitchReady; decide

/-- Position `c` with SWITCH entry `n` selecting source 5, on whose stage a value stands. -/
def routed (c : ClusterId) (n : Nat) : State :=
  setStage { bound with wsched := swriteLE memDefault bound.wsched (wsBase c + 0x18000 + 2 * n) 2 0x8005 } (stageKey c 5)
    (some ⟨⟨some true, 1, 0, 1, false⟩, []⟩)

/-- Cluster 0 with input slot 31 fed and accepting stitch 1. -/
def slotFed : State :=
  let s := fset (routed c0 31) (Reg.BP_SWEEP_LEN c0) F.BP_SWEEP_LEN_LEN 2
  { s with wsched := sset memDefault s.wsched (wsBase c0 + 0x10000 + 0x400 * 31) 2 }

theorem witness_GroupsMoveAlongTheirRoutes :
    let x : Stage := ⟨⟨some true, 1, 0, 1, false⟩, []⟩
    (offered (routed c0 56) c0 56 = some (5, x) ∧ landing c0 56 = .track ⟨0, 1, 0⟩ 0x80 ∧
      getStage (routed c0 56) (stageKey ⟨0, 1, 0⟩ 0x80) = none) ∧
    (offered (routed c0 32) c0 32 = some (5, x) ∧ landing c0 32 = .nowhere) ∧
    (let c : ClusterId := ⟨0, 31, 0⟩
     offered (routed c 160) c (160 + 0) = some (5, x) ∧ landing c (160 + 0) = .bridge ⟨1, 0, 0⟩ 0xC0 ∧
      getStage (routed c 160) (stageKey ⟨1, 0, 0⟩ 0xC0) = none ∧
      crossGroup x.group 0 = some ⟨some true, 1, 0, 1, true⟩ ∧ crossGroup x.group 1 = none ∧ branchesOf (routed c 160) c 5 = [160]) ∧
    (let c : ClusterId := ⟨3, 7, 7⟩
     offered (routed c 187) c (160 + 27) = some (5, x) ∧ landing c (160 + 27) = .yoke 3071 ∧
      crossGroup x.group 0 = some ⟨some true, 1, 0, 1, true⟩) ∧
    (offered slotFed c0 31 = some (5, x) ∧ acceptBit slotFed c0 31 (1 % 8192) = true ∧
      participating slotFed c0 = true ∧
      (queueOf (getCl slotFed c0.idx) 31).length < 16) ∧
    (let s := setCl swept c0.idx { reports := [(1, some 3)] }
     0 ≤ completedCount s ⟨0, 0, 1⟩ ∧ sget (fun _ => none) (getCl s c0.idx).reports (ClusterId.idx ⟨0, 0, 1⟩) = some 3) := by decide

theorem witness_ClusterRegistersAreWritten :
    clRun bound c0 = false ∧ clRun (fset bound (Reg.BP_CL_STATUS c0) F.BP_CL_STATUS_RUN 1) c0 = true ∧
    fldGet (8192 : Word) F.BP_SWEEP_LEN_LEN = 8192 ∧ fldGet (0 : Word) F.BP_SWEEP_LEN_LEN = 0 ∧
    (Instr.brgSpareWrite 0 0 0 true 5).wf = true ∧ fldGet (5 : Word) F.BRG_SPARE_OUT_TRACK < bridgeTracks 0 0 ∧
    trackTaken bound 0 0 0 true (fldGet (5 : Word) F.BRG_SPARE_OUT_TRACK) = false ∧
    bridgeTracks 0 0 ≤ fldGet (0x3FF : Word) F.BRG_SPARE_OUT_TRACK ∧
    (Instr.brgSpareWrite 0 0 23 true 5).wf = false := by decide

/-! ## Statements on the network, keys and partitions -/

/-- A request of node 0x00 for Pocket of die 0, one for host memory, and one for no range. -/
def reqTo (a : Nat) : NocRequest :=
  { src := 0, part := 0, sys := true, tag := 1023, vc := 0, addr := BitVec.ofNat 48 a, lenM1 := 7, flits := 1,
    reserved := false, data := [], mask := [] }

theorem witness_RequestsEnterTheNetwork :
    initiates 0 = true ∧ fenced State.reset 0 = false ∧ getTag State.reset 0 1023 = none ∧
    nocDest (reqTo 0x010000000000).addr.toNat = some 0 ∧ nocDest (reqTo 0xFFFFFFFFFFFF).addr.toNat = none := by decide

/-- A packet for 8 bytes of Pocket at its target. -/
def packet (opc : Nat) : NocPacket :=
  { opc := opc, vc := 0, dest := 0, src := 0, part := 0, sys := true, gen := 0, tag := 1023, addr := 0x010000000000,
    lenM1 := if opc = opWrm then 63 else 7, flits := flitsOf opc (if opc = opWrm then 64 else 8),
    data := List.replicate (if opc = opWrm then 64 else 8) 0x5A, mask := List.replicate 64 0xFF, atNode := true }
def atTarget (opc : Nat) : State := { bound with noc := [packet opc], power := { bound.power with weaveOn := true } }

theorem witness_StoreRequestsAreServed :
    ∀ opc ∈ [opRd, opWr, opWrm],
      let s := atTarget opc
      let q := packet opc
      q.bad = false ∧ targetPowered s q.dest = true ∧ malformed q = false ∧ addrMapped q.addr = true ∧
      isRegister q.addr = false ∧ isHbm q.addr = false ∧ isHost q.addr = false ∧
      (s.noc.find? fun x => x.atNode && decide (x.opc = opc) && decide (x.src = (0 : BitVec 8).toNat) && decide (x.tag = 1023)) =
        some q ∧
      denied { s with noc := [] } q = none ∧ memBusy { s with noc := [] } q.src q.addr = false ∧
      stateBusy { s with noc := [] } q.src q.addr = false := by decide

/-- A packet at an input of router 0, whose entry for it leads to port `o`. -/
def onRouter (opc o : Nat) : State :=
  fsets { bound with noc := [{ packet opc with dest := 3, atNode := false, router := 0, port := 4 }] } (Reg.NOC_RT_ACT 0 3)
    [(F.NOC_RT_ACT_VALID, 1), (F.NOC_RT_ACT_ASLEEP, 0), (F.NOC_RT_ACT_PORT, o)]

/-- Of Obligations.RoutersForwardByTheirTables and Obligations.ResponsesAndTimeoutsEndRequests. -/
theorem witness_RoutersForwardByTheirTables :
    (fbit (onRouter opRd 1) (Reg.NOC_RT_ACT 0 3) F.NOC_RT_ACT_VALID = true ∧
      fbit (onRouter opRd 1) (Reg.NOC_RT_ACT 0 3) F.NOC_RT_ACT_ASLEEP = false ∧
      fget (onRouter opRd 1) (Reg.NOC_RT_ACT 0 3) F.NOC_RT_ACT_PORT = 1 ∧ nocLink 0 1 = some (1, 3) ∧ nocLocal 0 1 = none ∧
      nocLink 0 4 = none ∧ nocLocal 0 4 = some 0 ∧ fenced bound 0 = false) ∧
    ((onRouter opRd 1).noc.find? fun x =>
      !x.atNode && decide (x.router = 0) && decide (x.port = 4) && decide (x.vc = 0)).isSome = true ∧
    fbit (fset (onRouter opRd 1) (Reg.NOC_RT_ACT 0 3) F.NOC_RT_ACT_VALID 0) (Reg.NOC_RT_ACT 0 3) F.NOC_RT_ACT_VALID = false ∧
    fbit (fset (onRouter opRd 1) (Reg.NOC_RT_ACT 0 3) F.NOC_RT_ACT_ASLEEP 1) (Reg.NOC_RT_ACT 0 3) F.NOC_RT_ACT_ASLEEP = true ∧
    isRequest opRd = true ∧ opRd ≠ opMsg ∧ isRequest opErr = false ∧
    portFull (onRouter opRd 1) 0 (packet opRd) = false ∧
    (∀ opc ∈ [opRdresp, opWrack, opErr],
      let g : NocTag := ⟨opRd, 0, 8, 0, false⟩
      let s := setTag { bound with noc := [packet opc] } 0 1023 (some g)
      getTag s 0 1023 = some g ∧
      (s.noc.find? fun y => y.atNode && decide (y.opc = opc) && decide (y.dest = 0) && decide (y.tag = 1023) &&
        decide (y.gen = 0)) = some (packet opc) ∧
      (packet opc).bad = false ∧ getGen s 0 1023 = 0) ∧
    opOfTag (setTag bound 0 1023 (some ⟨opRd, 0, 8, 0, false⟩)) 0 1023 = none ∧
    getTag (setTag bound 0 1023 (some ⟨opRd, 0, 8, 0, true⟩)) 0 1023 = some ⟨opRd, 0, 8, 0, true⟩ := by decide

theorem witness_FullPortsHoldTheirRequests :
    let s := onRouter opRd 5
    let t := { s with noc := s.noc ++ List.replicate 64 { packet opRd with dest := 0x10 } }
    (t.noc.find? fun x => !x.atNode && decide (x.router = 0) && decide (x.port = 4) && decide (x.vc = 0)) =
      some { packet opRd with dest := 3, atNode := false, router := 0, port := 4 } ∧
    portFull t 0 { packet opRd with dest := 3, atNode := false, router := 0, port := 4 } = true := by decide

theorem witness_NetworkRegistersAndDomainsFollowTheirRules :
    fbit bound Reg.NOC_RT_SWAP F.NOC_RT_SWAP_GO = false ∧ domState bound 0 = 0 ∧ sleepRefused bound 0 = false ∧
    sleepRefused (fset bound (Reg.BP_CL_STATUS c0) F.BP_CL_STATUS_RUN 1) 0 = true ∧
    domState bound 192 = 0 ∧ sleepRefused bound 192 = true ∧
    (∀ v ∈ [1, 2, 4], domState (fset bound (Reg.NOC_DOM 192) F.NOC_DOM_STATE v) 192 = v) := by decide

/-- The holder serves, and partition 1 has an HBM carve of 16 units. -/
def served1 : State := oset bound (Od.HBM_H 1 0) 16

theorem served1_serving : serving served1 := by unfold serving; decide

theorem witness_PartitionsAreCreatedAndDestroyed :
    let w : Path := ⟨0, none, true⟩
    ownerPath w = true ∧ 2 ≤ fget served1 Reg.PWR_STATUS F.PWR_STATUS_STAGE ∧ partState served1 1 = 0 ∧
    carveConflict served1 1 = none ∧ keyRefusal served1 = none ∧ carveConflict bound 1 = some (Od.HBM_H 1 0) ∧
    partState (oset bound (Od.PART_STATE 1) 1) 1 = 1 ∧ partState bound 0 = 2 := by decide

/-- Partition 0 with a nonce out, under the owner key that has private key 1, in a module with an empty serial; and with its session open under a KEK of zeros. -/
def nonceOut : State :=
  let s := setPart (oset bound (Od.OWNER_KEY_HASH 0) (keyHash (ecCompress p384G))) 0 { ksNonce := some 1 }
  { s with od := (Od.SERIAL, 0) :: s.od }
def sessionOpen : State :=
  fsets bound (Reg.XTS_SLOT 63) [(F.XTS_SLOT_LIVE, 1), (F.XTS_SLOT_PARTITION, 0), (F.XTS_SLOT_CLASS, classKek),
    (F.XTS_SLOT_PREVIOUS, 0)]

theorem witness_KeySessionsAndRollsFollowTheirRules :
    let w : Path := ⟨0, none, true⟩
    let rolled := fset bound (Reg.PART_STATE 0) F.PART_STATE_ROLLING 1
    secPath w 0 = true ∧ partState bound 0 = 2 ∧ (getPart nonceOut 0).ksNonce = some 1 ∧ keyRefusal bound = none ∧
    ksOpen sessionOpen 0 = true ∧ keyRefusal sessionOpen = none ∧ keySlots sessionOpen 0 classSector 1 = [] ∧
    rolling bound 0 = false ∧ rolling rolled 0 = true ∧ sweepDone rolled 0 = true ∧ (getPart rolled 0).undoOld = false ∧
    (getPart bound 0).ksNonce = none := by decide

/-- KS_OPEN with key pair 1 as the static and the ephemeral key, its signature computed outside Lean. -/
def ksHello : List Byte :=
  toBytes (natBE 194 0x03AA87CA22BE8B05378EB1C71EF320AD746E1D3B628BA79B9859F741E082542A385502F25DBF55296C3A545E3872760AB703AA87CA22BE8B05378EB1C71EF320AD746E1D3B628BA79B9859F741E082542A385502F25DBF55296C3A545E3872760AB72CA8C560F92280756D4D4E5903043A370532B246669E6110B033F9AB150D51863208E24BD70CE3738D027638BBD54CD2661BDDD8DC7493390B5C5A350D3D8FA267FD374A0A19647E8DDE92C7C136C402674720FDD21F88FF2DB23AD5706A66F5)

/-- The keys 0, 1, ... of 32 and of 96 bytes, wrapped outside Lean under a key of zeros. -/
def wrapped32 : List Byte := toBytes (natBE 40 0x246D75815315BD8B40AC141BA1CBCA56785AE73CBBAFA7FD20F4C91A99312C946EDFF8132C8259B4)
def wrapped96 : List Byte :=
  toBytes (natBE 104 0xC5D565CBFD7CBC192474E53AC8C99F20FA81C2C7D6E7CAA2C6F4F54A011D8AC65C1373F257404AA73D9CCA1B9D2C39BE2E1268B982E9E829C1AA8844D49F51E89E4DF98377C0FF39CC9EABE352B62A6A914EDBF9F65885BE0DC18C886AF8CF47F411F12E057B07E6)

/-- The owner's signature verifies: the hash that it signs, and the check. -/
theorem ksHello_signed : ownerSigned nonceOut 0 1 (ofBytes ksHello) = true := by
  have h1 : ecExpand ((ofBytes ksHello).take 49) = some p384G := by decide +kernel
  have h0 : natLE 16 1 ++ serialBytes nonceOut ++ [0] ++ ((ofBytes ksHello).drop 49).take 49 =
      natBE 78 0x010000000000000000000000000000000000000000000000000000000003AA87CA22BE8B05378EB1C71EF320AD746E1D3B628BA79B9859F741E082542A385502F25DBF55296C3A545E3872760AB7 := by
    decide +kernel
  have h2 : beNat (sha384 (natLE 16 1 ++ serialBytes nonceOut ++ [0] ++ ((ofBytes ksHello).drop 49).take 49)) =
      0x2E452B44108D47BFF8C4F3FA708D92C887990BDEE635A612B1DCE44CEF32D69736B28AD84DEB90337B089CB2F1B74BFE := by
    rw [h0]
    decide +kernel
  have h3 : (ofBytes ksHello).drop 98 =
      natBE 96 0x2CA8C560F92280756D4D4E5903043A370532B246669E6110B033F9AB150D51863208E24BD70CE3738D027638BBD54CD2661BDDD8DC7493390B5C5A350D3D8FA267FD374A0A19647E8DDE92C7C136C402674720FDD21F88FF2DB23AD5706A66F5 := by
    decide +kernel
  unfold ownerSigned
  rw [h1]
  show ecdsaVerify p384G (sha384 (natLE 16 1 ++ serialBytes nonceOut ++ [0] ++ ((ofBytes ksHello).drop 49).take 49))
    ((ofBytes ksHello).drop 98) = true
  unfold ecdsaVerify
  rw [h2, h3]
  decide +kernel

theorem witness_KsOpen :
    ksHello.length = 194 ∧ (getPart nonceOut 0).ksNonce = some 1 ∧ keyHash ((ofBytes ksHello).take 49) = oget nonceOut (Od.OWNER_KEY_HASH 0) ∧
    ecExpand (((ofBytes ksHello).drop 49).take 49) = some p384G ∧
    keyRefusal (setPart (ksClose nonceOut 0) 0 { getPart nonceOut 0 with ksNonce := none }) = none := by decide +kernel

theorem witness_KsWraps :
    wrapped32.length = 40 ∧ ksUnwrap sessionOpen 0 wrapped32 = some (keyOfBytes (List.range 32)) ∧
    wrapped96.length = 104 ∧ ksUnwrap sessionOpen 0 wrapped96 = some (keyOfBytes (List.range 96)) := by decide +kernel

/-! ## Statements on Seam -/

/-- Port 0 carries link 0 of partition 0's emulation 5 and is up; channel 9 comes in over it, channel 8 leaves. -/
def seamUp : State :=
  setPart (fset (fset bound (Reg.SEAM_STATUS 0) F.SEAM_STATUS_UP 1) (Reg.SEAM_CTRL 0) F.SEAM_CTRL_EN 1) 0
    { seamMap := some { emulation := 5, module := 0, diameter := 1, links := [⟨0, 1, 2⟩], outs := [⟨8, 0, 3, 1⟩],
                        ins := [⟨9, 0, [4, 6]⟩] } }

/-- A frame of a type with this content, as a peer sends it. -/
def frameFor (ftype : Nat) (content : List Nat) : List (BitVec 64) := buildFrame bound 0 ftype 0 content

theorem witness_SeamHeadersAndHaltsAreTaken :
    let ws := frameFor 2 []
    frameWf ws = true ∧ goodFrame seamUp 0 (frameOf ws) true ∧ frameBits (frameOf ws) 0 63 60 = 2 ∧
    goodWord 0x90000 false ∧ goodWord 0x91000 true ∧ (portLink seamUp 0).isSome = true ∧
    (∀ standby ∈ [true, false], portLink (headTaken seamUp 0 0 standby (frameOf ws)) 0 = some (0, ⟨0, 1, 2⟩) ∧
      (getPart (headTaken seamUp 0 0 standby (frameOf ws)) 0).peerHalt = false) := by
  unfold goodFrame goodWord; decide +kernel

theorem witness_NakAndHalt :
    (let s := setPort bound 0 { nak := true }
     let f := frameOf (buildFrame s 0 2 0 [])
     goodFrame seamUp 0 f true ∧ frameBits f 0 63 60 = 2 ∧ frameBits f 0 27 27 = 1) ∧
    (∀ n ∈ [4, 5], goodFrame seamUp 0 (frameOf (frameFor n [3])) true ∧ frameBits (frameOf (frameFor n [3])) 0 63 60 = n) := by
  unfold goodFrame; decide +kernel

/-- A DATA frame with both values of channel 9 for ecycle 0. -/
def dataWs : List (BitVec 64) := frameFor 1 [2 ^ 60 + 9 * 2 ^ 48 + 1 * 2 ^ 10, 3]

theorem witness_SeamDataFrame :
    let f := frameOf dataWs
    let b : Bundle := ⟨9, 0, 0, [true, true]⟩
    frameWf dataWs = true ∧ goodFrame seamUp 0 f true ∧ nextInOrder seamUp 0 f ∧ frameBits f 0 63 60 = 1 ∧
    (getPort seamUp 0).resumeWait = false ∧ parseBundles 74 (contentOf f) = some [b] ∧
    bundlesFit (portIns seamUp 0) (portCount seamUp 0) (getPort seamUp 0).resuming (inPos seamUp) [b] = true ∧
    extendCount 16 (portCount seamUp 0) b.ecycle ≤ portCount seamUp 0 + 1 ∧
    (portIns seamUp 0).find? (fun r => decide (r.channel = b.channel)) = some ⟨9, 0, [4, 6]⟩ := by
  unfold goodFrame nextInOrder; decide +kernel

/-- MAPCHK as the peer of link 0 sends it, for emulation `e`. -/
def mapchkWs (e : Nat) : List (BitVec 64) := frameFor 3 [2 ^ 56, e, 2 ^ 56 + 2 * 2 ^ 48 + 2 ^ 40 + mapCrc [(9, 2)]]

theorem witness_SeamControlMessages :
    (∀ e ∈ [5, 6],
      let f := frameOf (mapchkWs e)
      goodFrame seamUp 0 f true ∧ nextInOrder seamUp 0 f ∧ frameBits f 0 63 60 = 3 ∧
      ctrlFits f = true ∧ frameBits f 5 63 56 = 1 ∧ (frameWord f 6).toNat = e ∧
      portLink seamUp 0 = some (0, ⟨0, 1, 2⟩) ∧ (seamMapOf seamUp 0).emulation = 5) ∧
    (let f := frameOf (mapchkWs 5)
     (seamMapOf seamUp 0).diameter = 1 ∧ frameBits f 7 47 40 = 1 ∧ frameBits f 7 63 56 = 1 ∧ frameBits f 7 55 48 = 2 ∧
     frameBits f 7 31 0 = mapCrc ((portIns seamUp 0).map fun r => (r.channel, r.stitches.length))) := by
  unfold goodFrame nextInOrder; decide +kernel

/-- Port 0 waits for the peer's resume points. -/
def resumeWaits : State := setPort seamUp 0 { resumeWait := true }

theorem witness_SeamNumberedFramesAreTakenInOrder :
    (∀ op ∈ [2, 3, 4],
      let f := frameOf (frameFor 3 [op * 2 ^ 56])
      goodFrame resumeWaits 0 f true ∧ nextInOrder resumeWaits 0 f ∧
      ctrlFits f = true ∧ frameBits f 5 63 56 = op) ∧
    portUp seamUp 0 = true ∧ (getPort seamUp 0).nakWait = false ∧ isType 1 (frameOf dataWs) = true := by
  unfold goodFrame nextInOrder; decide +kernel

theorem witness_SeamFramesAreSentAndValuesInjected :
    let x : SeamPort := { working := [0, 1] }
    let s := setPort seamUp 0 { x with resend := [(3, [])] }
    let t := setPort seamUp 0 { x with ctrl := [[2 ^ 56]] }
    let u := setPort seamUp 0 { x with credit := 0 }
    portUp s 0 = true ∧ (getPort s 0).working ≠ [] ∧ idleDue (getPort s 0) = false ∧ idleDue (getPort t 0) = false ∧
    idleDue { x with sinceIdle := [(0, 4095), (1, 4095)] } = true ∧
    crossGroup { value := some true, stitch := 1, ecycle := 0, count := 0 } 0 = some ⟨some true, 1, 0, 0, true⟩ ∧ (getPort s 0).resend = (3, []) :: [] ∧
    (getPort t 0).resend = [] ∧ (getPort t 0).ctrl = [2 ^ 56] :: [] ∧ maySend (getPort t 0) = true ∧
    (getPort u 0).resend = [] ∧ (getPort u 0).ctrl = [] ∧ maySend (getPort u 0) = false ∧ portUp u 0 = true ∧
    (getPort (setPort seamUp 15 { nakWait := true }) 15).nakWait = true ∧
    sget (fun _ => []) { seamUp with rings := [(3071, [⟨0, 1, true⟩])] }.rings 3071 = ⟨0, 1, true⟩ :: [] ∧
    getStage seamUp (stageKey (inboundStage 3071).1 (inboundStage 3071).2) = none := by decide

/-- Of Obligations.SeamLanesMoveAndReturn and Obligations.SeamPortsComeAndGo. -/
theorem witness_SeamLanesMoveAndReturn :
    let lane := fset (fset seamUp (Reg.SEAM_LANE 0 4) F.SEAM_LANE_UP 1) (Reg.SEAM_STATUS 15) F.SEAM_STATUS_LOST 0
    let port := fun (x : SeamPort) => getPort (setPort lane 0 x) 0
    fbit lane (Reg.SEAM_LANE 0 4) F.SEAM_LANE_UP = true ∧ 0 ∈ (port { rxLanes := [0, 4] }).rxLanes ∧
    oget lane Od.LANE_UNCORR_LIMIT < oget lane Od.LANE_UNCORR_LIMIT + 1 ∧
    ((port { working := [0, 4], standby := some 2, peerLreq := some 4 }).working.contains 4 = true) ∧
    ((port { working := [0, 4], peerLreq := some 4 }).standby = none ∧
      (port { working := [0, 4], peerLreq := some 4 }).working.filter (fun l => decide (l ≠ 4)) ≠ []) ∧
    sget (fun _ => 0) (port { fails := [(4, 2)] }).fails 4 = 2 ∧
    ((port { working := [0] }).working.contains 4 = false ∧ (port { working := [0] }).standby ≠ some 4 ∧
      portUp lane 0 = true ∧ (port { working := [0] }).working.length < 4) ∧
    ((port { working := [0, 1, 2, 3] }).standby = none ∧ 4 ≤ (port { working := [0, 1, 2, 3] }).working.length) ∧
    (portUp lane 15 = false ∧ fbit lane (Reg.SEAM_STATUS 15) F.SEAM_STATUS_LOST = false) ∧
    fbit lane (Reg.SEAM_CTRL 0) F.SEAM_CTRL_EN = true ∧ (31 : BitVec 5) ≠ 0 ∧
    partRunning lane 0 = false ∧ portOuts lane 0 ≠ [] := by decide

theorem witness_SeamPortsComeAndGo :
    partRunning (fset (setPart (atGate 0) 0 (getPart seamUp 0)) (Reg.BP_CL_STATUS c0) F.BP_CL_STATUS_RUN 1) 0 = true ∧
    portOuts (setPart (atGate 0) 0 (getPart seamUp 0)) 0 ≠ [] := by decide

/-! ## Statements on the Cuff, streams, Hem and acquisition -/

/-- `v` in word `w` of the control block of slot 0 of `bound`, whose region 0 partition 0 owns; MODE bridge or transactor. -/
def slotOf (mode : Nat) (ws : List (Nat × Nat)) : State :=
  let s := fset (oset (oset bound (Od.REGIONS 0) 1) (Od.INLOG_MIB 0) 1) (Reg.CUFF_FP_STATUS 0) F.CUFF_FP_STATUS_MODE mode
  { s with frames := ws.foldl (fun m x => swriteLE memDefault m (frameAddr 4 16 0 0x100 * 4096 + 4 * x.1) 4 x.2) s.frames }

/-- The queue form with BIND_MAX 1, HIGH 3, LOW 1; and the binding form. -/
def queueSlot : State := slotOf 1 [(0, 0x80BF8000), (1, 0x30001)]
def bindSlot : State := slotOf 1 []

/-- A slot of which the fabric drives signal `n` with 1: port output `n` of tile (18, 0) is routed from the constant ONE. -/
def driven (s : State) (n : Nat) : State :=
  { s with frames := swriteLE memDefault s.frames (frameAddr 4 18 0 1 * 4096 + 2 * (16 + n)) 2 0x8191 }

theorem witness_FabricSignals :
    fabricSignal queueSlot 0 128 = false ∧ fabricSignal queueSlot 0 129 = false ∧
    (∀ n ∈ [128, 129], fabricSignal (driven queueSlot n) 0 n = true ∧ slotLive (driven queueSlot n) 0 = true ∧
      slotMode (driven queueSlot n) 0 = 1 ∧ ctlQueue (driven queueSlot n).frames 0 = true) ∧
    fabricSignal (driven bindSlot 128) 0 128 = true ∧ ctlQueue (driven bindSlot 128).frames 0 = false := by decide +kernel

theorem witness_BridgeFifosFillAndDrain :
    slotMode queueSlot 0 = 1 ∧ slotLive queueSlot 0 = true ∧ ctlQueue queueSlot.frames 0 = true ∧
    ctlQueue bindSlot.frames 0 = false ∧ (getSlot queueSlot 0).inFifo.length < 4096 ∧
    ctlHigh queueSlot.frames 0 ≤ [0, 0].length + 1 ∧ ([] : List Nat).length + 1 ≤ ctlLow queueSlot.frames 0 ∧
    ctlLow queueSlot.frames 0 < [0].length + 1 ∧ [0].length + 1 < ctlHigh queueSlot.frames 0 ∧
    4096 ≤ (getSlot (setSlot queueSlot 0 { inFifo := List.replicate 4096 0 }) 0).inFifo.length ∧
    (getSlot (setSlot queueSlot 0 { outFifo := [7] }) 0).outFifo = 7 :: [] ∧ (getSlot queueSlot 0).outFifo = [] := by
  decide +kernel

theorem witness_BridgesBindAndMoveByEcycle :
    let y := getSlot queueSlot 0
    slotPart queueSlot 0 = some 0 ∧ queueSlot.pinsHeld = false ∧ y.bound ≤ (getPart queueSlot 0).completed + 1 ∧
    oget queueSlot (Od.RUN_STATE 0) = 2 ∧ loggedBinding queueSlot 0 0 y.bound = none ∧ ctlAllow queueSlot.frames 0 = false ∧
    loggedBinding (setPart queueSlot 0 { inlog := [⟨0, 0, 1, [5]⟩] }) 0 0 0 = some ⟨0, 0, 1, [5]⟩ ∧
    ((⟨0, y.bound, 0, []⟩ :: (getPart queueSlot 0).inlog).map fun r => inlogBytes (ctlInWidth queueSlot.frames r.slot) r).sum
      ≤ oget queueSlot (Od.INLOG_MIB 0) * 0x100000 ∧
    (getPart queueSlot 0).completed + 1 < (getSlot (setSlot queueSlot 0 { bound := 2 }) 0).bound ∧
    slotChans (swriteLE memDefault queueSlot.frames (frameAddr 4 16 0 0x101 * 4096) 8 (2 ^ 63 + 2 * 2 ^ 48)) 0 0 = [(2, 0, 0)] ∧
    outValues queueSlot 0 0 = some [] ∧ y.moveMark ≤ y.moved ∧ y.outFifo.length + 64 ≤ 4096 ∧
    (getSlot (setSlot queueSlot 0 { moveMark := 1 }) 0).moved < (getSlot (setSlot queueSlot 0 { moveMark := 1 }) 0).moveMark := by
  decide +kernel

/-- A transactor whose receive queue is 1 and whose transmit queue is 2, both running for it. -/
def transactor : State :=
  let q := fun (s : State) (n dir : Nat) => fsets (fset s (Reg.DMAQ_STATUS 0 n) F.DMAQ_STATUS_STATE 1) (Reg.DMAQ_CFG 0 n)
    [(F.DMAQ_CFG_CLIENT, 2), (F.DMAQ_CFG_DIR, dir)]
  { rset (q (q (slotOf 2 [(3, 0x20001)]) 1 0) 2 1) (Reg.DMAQ_TAIL 0 2) 1 with fromHost := [(1, [(9, true)])] }

theorem witness_TransactorSignals :
    fabricSignal transactor 0 130 = false ∧ fabricSignal transactor 0 128 = false ∧
    fabricSignal (driven transactor 130) 0 130 = true ∧ fabricSignal (driven transactor 128) 0 128 = true ∧
    fabricSignal (driven transactor 128) 0 129 = false ∧ fabricSignal (driven (driven transactor 128) 129) 0 129 = true ∧
    (∀ n ∈ [128, 130], slotMode (driven transactor n) 0 = 2 ∧ slotLive (driven transactor n) 0 = true ∧
      dmaServes (driven transactor n) (ctlRxq (driven transactor n).frames 0) 2 0 = true ∧
      dmaServes (driven transactor n) (ctlTxq (driven transactor n).frames 0) 2 1 = true) := by decide +kernel

theorem witness_TransactorsBanksAndConflictsFollowTheirRules :
    slotMode transactor 0 = 2 ∧ slotLive transactor 0 = true ∧ dmaServes transactor (ctlRxq transactor.frames 0) 2 0 = true ∧
    sget (fun _ => []) transactor.fromHost (ctlRxq transactor.frames 0) = (9, true) :: [] ∧
    dmaServes transactor (ctlTxq transactor.frames 0) 2 1 = true ∧ dmaPending transactor (ctlTxq transactor.frames 0) ≠ 0 ∧
    (getSlot transactor 0).txBad = false ∧ (getSlot transactor 0).txBeats.length ≠ 4096 ∧
    (getSlot (setSlot transactor 0 { txBeats := List.replicate 4096 0 }) 0).txBeats.length = 4096 ∧
    ((List.range 12).filter fun k => (0x801 : BitVec 12).getLsbD k) = 0 :: 11 :: [] ∧
    fbit transactor Reg.CUFF_DRVX_CAP F.CUFF_DRVX_CAP_VALID = false ∧
    fbit (fset transactor (Reg.CUFF_BANK 15) F.CUFF_BANK_VIO_OK 1) (Reg.CUFF_BANK 15) F.CUFF_BANK_VIO_OK = true ∧
    fget transactor (Reg.CUFF_BANK 15) F.CUFF_BANK_VIO_SEL = 0 := by decide +kernel

/-- A stream of 96 bytes with SEQ 1 under key ID 0, whose body is four zero words: its header, its ciphertext, and a tag that
was computed outside Lean under a key of zeros. -/
def streamBytes : List Byte :=
  leBytes 4 0x47464356 ++ leBytes 2 2 ++ leBytes 2 0 ++ leBytes 8 96 ++ leBytes 8 1 ++ List.replicate 40 0 ++
    toBytes (natBE 32 0xCEA7403D4D606B6E074EC5D3BAF39D1800AAFB3F08D204697F4E3399C196C048)

/-- Partition 0 with the bytes `bs` in its staging area, and its configuration key live in slot 0. -/
def stagedAs (bs : List Byte) : State :=
  setMemBytes (setPart (fsets (oset bound (Od.STAGE_MIB 0) 1) (Reg.XTS_SLOT 0) [(F.XTS_SLOT_LIVE, 1), (F.XTS_SLOT_PARTITION, 0),
    (F.XTS_SLOT_CLASS, classCfg), (F.XTS_SLOT_PREVIOUS, 0)]) 0 { stageAt := some 0, staged := bs.length }) 0 bs
def staged : State := stagedAs streamBytes

theorem staged_read : (engineRead staged 0 96 .clean).2 = 0 ∧ stageOf (engineRead staged 0 96 .clean).1 0 = streamBytes := by
  decide +kernel

theorem witness_StreamsAreAcceptedOrRefusedWhole :
    let r := engineRead staged 0 (getPart staged 0).staged .clean
    let h := streamBytes
    partState staged 0 = 2 ∧ leased staged = true ∧ (getPart staged 0).stream = none ∧ r.2 = 0 ∧ leAt h 0 4 = 0x47464356 ∧
    leAt h 4 2 = 2 ∧ leAt h 7 1 = 0 ∧ leAt h 0x1A 2 = 0 ∧ leAt h 0x28 24 = 0 ∧ leAt h 6 1 = 0 ∧
    leAt h 8 8 ≤ oget staged (Od.STAGE_MIB 0) * 2 ^ 20 ∧ leAt h 8 8 % 16 = 0 ∧ (getPart staged 0).staged = leAt h 8 8 ∧
    streamTagOk r.1 0 h 96 = true ∧ leAt h 0x18 2 = oget staged (Od.CFG_KEY_ID 0) ∧
    oget staged (Od.STREAM_SEQ_LAST 0) < leAt h 0x10 8 ∧
    (wordsLE 4 (streamPlain r.1 0 h 96))[0]? = some 0 := by decide +kernel

/-- One altered bit of the tag, a sequence number used before, and an uncorrectable line. -/
theorem witness_StreamsRefused :
    streamTagOk (stagedAs (streamBytes.set 95 0)) 0 (streamBytes.set 95 0) 96 = false ∧
    leAt streamBytes 0x10 8 ≤ oget (oset staged (Od.STREAM_SEQ_LAST 0) 1) (Od.STREAM_SEQ_LAST 0) ∧
    (engineRead staged 0 96 (.lines [(1, .uncorrectable)])).2 = Code.HBM_UNCORRECTABLE ∧
    (getPart (stagedAs [0]) 0).staged ≠ 0 ∧ (getPart (stagedAs [0]) 0).staged < 64 ∧
    (getPart (stagedAs (streamBytes.take 80)) 0).staged < leAt (stageOf (stagedAs (streamBytes.take 80)) 0) 8 8 := by
  decide +kernel

/-- A stream in partition 0 that stands at word 0 of `body`. -/
def streaming (x : Stream) : State :=
  fset (setPart bound 0 { stream := some x }) Reg.CFG_STATUS F.CFG_STATUS_INIT_N_IN 1

theorem witness_StreamCommandsAreInterpreted :
    let at_ := fun (w : Word) (more : List Word) => (({ seq := 1, body := w :: more } : Stream).body)[0]?
    let fa := frameAddr 4 3 2 0
    (getPart (streaming { seq := 1, body := [0, 0] }) 0).stream = some { seq := 1, body := [0, 0] } ∧
    at_ 0x00000000 [0] = some 0 ∧ at_ 0x00000001 [] = some 1 ∧ at_ 0x01000000 [5, 0] = some 0x01000000 ∧
    at_ 0x04000001 [0] = some 0x04000001 ∧ at_ 0x05000000 [4, 0, 0, 0] = some 0x05000000 ∧
    at_ 0x06000000 (List.replicate 11 0) = some 0x06000000 ∧ 4 ≤ faTarget fa ∧ faTarget fa ≤ 5 ∧ faFrame fa + (0 + 1) ≤ 0x20000 ∧
    frameDefined fa = true ∧ maskBit 2 (faRegion fa) = true ∧ 0 + 1 + 1024 * (0 + 1) ≤ (List.replicate 1026 0).length ∧
    faTarget (frameAddr 3 0 0 0) < 4 := by decide +kernel

/-- COMMIT with nothing before it. -/
def committing : Stream := { seq := 1, body := [0x07000000, 0, 0, 0] }

theorem witness_StreamsCommitAllOrNothing :
    (committing.body)[0]? = some 0x07000000 ∧ (0x07000000 : Word).toNat = 7 * 2 ^ 24 ∧
    (committing.body.drop 1).all (fun v => v == 0) = true ∧
    checkFrames (streaming committing) 0 0 [] (mergeFrames (streaming committing).goldenFrames committing) [] [] = none ∧
    (checkFrames (streaming committing) 0 1 [] [] [] []).isSome = true ∧
    commitWaits (streaming { committing with phase := 1 }) 0 { committing with phase := 1 } = false ∧
    commitWaits (setPart bound 0 {}) 0 { committing with phase := 1 } = true ∧
    (({ committing with writes := [(0, none)] } : Stream).writes.findIdx? fun w => decide (w.1 = 0)) = some 0 := by
  decide +kernel

/-- COMMIT after a KEY_ROLL at word 1, whose wrapped key is that of the key-session witness. -/
def rolling32 : Stream :=
  { seq := 1, body := 0x06000000 :: wordsLE 10 wrapped32 ++ [0x07000000], pos := 11, keyRoll := some 1 }

theorem witness_RolledKeys :
    let s := setPart staged 0 { stream := some rolling32 }
    (rolling32.body)[11]? = some 0x07000000 ∧ (rolling32.body.drop 12).all (fun v => v == 0) = true ∧
    checkFrames s 0 0 s.goldenFrames (mergeFrames s.goldenFrames rolling32) [] [] = none ∧
    rolledKey s 0 rolling32 1 = some (keyOfBytes (List.range 32)) ∧ keyRefusal s = none ∧
    rolledKey (setPart bound 0 { stream := some rolling32 }) 0 rolling32 1 = none := by decide +kernel

theorem witness_StreamsOfPartitionsThatRun :
    partRunning (streaming committing) 0 = false ∧
    partRunning (fset (setPart (atGate 0) 0 { stream := some committing }) (Reg.BP_CL_STATUS c0) F.BP_CL_STATUS_RUN 1) 0 = true := by
  decide +kernel

theorem witness_InitAndDoneLinesFollowTheirRules :
    let up := fset bound Reg.CFG_STATUS F.CFG_STATUS_DONE_PULL 0
    fbit up Reg.CFG_STATUS F.CFG_STATUS_DONE_PULL = false ∧ fbit up Reg.CFG_STATUS F.CFG_STATUS_DONE_IN = false ∧
    fbit (fset up Reg.CFG_STATUS F.CFG_STATUS_DONE_IN 1) Reg.CFG_STATUS F.CFG_STATUS_DONE_IN = true ∧
    oget (oset up (Od.START_ON_DONE 0) 1) (Od.START_ON_DONE 0) = 1 ∧ oget (oset up (Od.RUN_STATE 0) 1) (Od.RUN_STATE 0) = 1 ∧
    oget up (Od.STOP_ECYCLE 0) = noStop ∧ (getPart up 0).breaks = [] ∧
    oget (oset up Od.DONE_FALL_ACTION 1) Od.DONE_FALL_ACTION = 1 ∧ oget (oset up (Od.DONE_GROUP 0) 1) (Od.DONE_GROUP 0) = 1 ∧
    regionPart queueSlot 0 = some 0 ∧
    regionHeld (fset queueSlot Reg.CFG_REGION F.CFG_REGION_HOLD 1) 0 = true := by decide +kernel

theorem witness_HemFollowsItsSequencer :
    let armed := fsets (fset (rset (rset bound Reg.HEM_START_SEL 0x600001) Reg.HEM_STOP_SEL 0x100002) Reg.HEM_STATUS
      F.HEM_STATUS_STATE 1) Reg.HEM_CTRL [(F.HEM_CTRL_EN, 1), (F.HEM_CTRL_RATE_EN, 1)]
    let tracing := fset armed Reg.HEM_STATUS F.HEM_STATUS_STATE 2
    fbit bound Reg.HEM_CTRL F.HEM_CTRL_EN = false ∧ hemState tracing = 2 ∧ hemState armed = 1 ∧ hemState bound = 0 ∧
    fbit armed Reg.HEM_CTRL F.HEM_CTRL_EN = true ∧ fbit tracing Reg.HEM_CTRL F.HEM_CTRL_RATE_EN = true ∧
    armed.hem.lost = 0 ∧ packetWords armed.hem.fifo + 4 ≤ 16384 ∧ tracing.hem.until_ = none ∧
    (∀ ev ∈ [0, 21, 22], (rget armed Reg.HEM_START_SEL).getLsbD ev = true ∧ (rget armed Reg.HEM_STOP_SEL).getLsbD ev = false) ∧
    (∀ ev ∈ [1, 20], (rget tracing Reg.HEM_STOP_SEL).getLsbD ev = true) ∧
    ({ bound with hem := { lost := 3 } } : State).hem.lost ≠ 0 := by decide

/-- Partition 0 with acquisition unit 15 and a probe on channel 7 whose value for ecycle 0 has come. -/
def probing : State :=
  { setPart (oset bound (Od.ACQ_UNITS 0) 0x8000) 0 { probeMap := [⟨2, 7, 0⟩] } with outbound := [(7, [(0, true)])] }

/-- Of Obligations.AcquisitionTakesEachEcycleOnce and Obligations.UnitsArmStopForceAndRearm. -/
theorem witness_UnitsArmStopForceAndRearm :
    (getPart probing 0).acqMark ≤ (getPart probing 0).taken ∧ (getPart probing 0).taken ≤ (getPart probing 0).completed ∧
    acqActive probing 0 = true ∧ (∀ u ∈ unitsOf probing 0, unitHolds probing u = false) ∧
    (∀ r ∈ (getPart probing 0).probeMap, r.index < (arrived probing r.channel 0).length) ∧
    (getPart (setPart bound 0 { acqMark := 1 }) 0).taken < (getPart (setPart bound 0 { acqMark := 1 }) 0).acqMark ∧
    (getPart (setPart bound 0 { taken := 1 }) 0).completed < (getPart (setPart bound 0 { taken := 1 }) 0).taken ∧
    unitPart probing 15 = some 0 ∧ armRefused bound 15 = true ∧ ucfg probing 15 F.ACQ_U_CFG_GROUP_EN ≠ 1 ∧
    (unitTimer { timers := [(3, { run := true })] } 3).run = true ∧ (unitTimer { timers := [(3, { run := true })] } 3).expired = none ∧
    fbit (fset probing (Reg.ACQ_U_TIMER 15 3) F.ACQ_U_TIMER_MODE 1) (Reg.ACQ_U_TIMER 15 3) F.ACQ_U_TIMER_MODE = true ∧
    unitState (fset probing (Reg.ACQ_U_STATUS 15) F.ACQ_U_STATUS_STATE 3) 15 = 3 ∧
    fbit probing (Reg.ACQ_U_STATUS 15) F.ACQ_U_STATUS_QHELD = false ∧ fbit probing (Reg.ACQ_TRIG_IN 3) F.ACQ_TRIG_IN_BUS = false ∧
    0 < fget (fset probing (Reg.ACQ_TRIG_IN 3) F.ACQ_TRIG_IN_FILT 1) (Reg.ACQ_TRIG_IN 3) F.ACQ_TRIG_IN_FILT ∧
    fbit (fset probing (Reg.ACQ_TRIG_IN 3) F.ACQ_TRIG_IN_EN 1) (Reg.ACQ_TRIG_IN 3) F.ACQ_TRIG_IN_EN = true := by decide

/-- Unit 15 in STREAM mode with an empty capture list, alone, and as master or member of group 5 on pair 1 in bus mode. -/
def streamUnit : State := fset (oset probing (Od.ACQ_BUF_MIB 0) 64) (Reg.ACQ_U_CFG 15) F.ACQ_U_CFG_MODE 1
def groupUnit : State :=
  fset (fsets streamUnit (Reg.ACQ_U_CFG 15) [(F.ACQ_U_CFG_GROUP_EN, 1), (F.ACQ_U_CFG_MASTER, 1), (F.ACQ_U_CFG_GROUP, 5),
    (F.ACQ_U_CFG_BUSPAIR, 1)]) (Reg.ACQ_TRIG_IN 1) F.ACQ_TRIG_IN_BUS 1

/-! ## Statements on the trigger bus, the Lining and Collar -/

/-- Unit 15 on partition 0 in group 5 on pair 1 in bus mode, and armed or stopped. -/
def busUnit (st : Nat) : State := fset groupUnit (Reg.ACQ_U_STATUS 15) F.ACQ_U_STATUS_STATE st

theorem witness_TriggerBusFramesAct :
    fbit (busUnit 1) (Reg.ACQ_TRIG_IN 1) F.ACQ_TRIG_IN_BUS = true ∧ members (busUnit 1) 1 5 = [15] ∧ members (busUnit 1) 1 4 = [] ∧
    unitPart (busUnit 1) 15 = some 0 ∧ unitState (busUnit 1) 15 = 1 ∧ (getUnit (busUnit 1) 15).groupAt = none ∧
    (getPart (busUnit 1) 0).acqMark ≤ extend16 (getPart (busUnit 1) 0).completed 3 ∧ unitState (busUnit 2) 15 = 2 ∧
    armRefused (oset (fset (rset (busUnit 0) (Reg.ACQ_U_INTERVAL 15) 1) (Reg.ACQ_U_CFG 15) F.ACQ_U_CFG_MODE 2) (Od.ACQ_PROBE_COUNT 0) 1)
      15 = false ∧
    (({ busUnit 1 with busQueue := [⟨1, 1, 7, 5, 15⟩] } : State).busQueue.find? (fun f => decide (f.pair = 1))).isSome = true := by
  decide +kernel

/-- Cluster 0 held with the faults `l`, newest first. -/
def faulty (l : List FaultAt) : State := setCl bound c0.idx { hold := true, faultAt := l }

/-- A checkpoint of ecycle 0 that lists nothing. -/
def ckpt0 : Checkpoint := ⟨0, [], []⟩

theorem witness_RollbacksRestoreOrStop :
    heldCauses bound 0 = [] ∧ partOf bound c0 = some 0 ∧ runnable bound 0 = true ∧
    heldCauses (faulty [⟨0, 3, 5, 0⟩]) 0 = [(c0.idx, ⟨0, 3, 5, 0⟩)] ∧ recurs (faulty [⟨0, 3, 5, 0⟩]) (c0.idx, ⟨0, 3, 5, 0⟩) = false ∧
    recurs (faulty [⟨1, 3, 5, 0⟩, ⟨1, 3, 5, 0⟩]) (c0.idx, ⟨1, 3, 5, 0⟩) = true ∧
    (getPart (setPart (faulty [⟨0, 3, 5, 0⟩]) 0 { ckpt := some ckpt0 }) 0).rolls < oget (faulty [⟨0, 3, 5, 0⟩]) Od.ROLLBACK_LIMIT ∧
    oget bound Od.ROLLBACK_LIMIT ≤ (getPart (setPart bound 0 { ckpt := some ckpt0, rolls := 15 }) 0).rolls ∧
    leased bound = true ∧ opsDrained bound 0 = true ∧
    (let f : Nat × FaultAt := (c0.idx, ⟨0, 3, 5, 0⟩)
     let s := setPart (faulty [⟨0, 3, 5, 0⟩, ⟨0, 3, 5, 0⟩]) 0 { hold := .stopping, causes := [f] }
     needsTest s f = true ∧ (getPart s 0).tested.contains c0.idx = false ∧
     needsTest (faulty [⟨0, 3, 5, 0⟩]) f = false ∧ fbit s (Reg.BP_SPARE_MAP c0) F.BP_SPARE_MAP_ACTIVE = false ∧
     (getCl s c0.idx).spareBad = false) ∧
    (let x : Part := { replaying := some (0, 0, 3), completed := 4 }
     (getPart (setPart bound 0 x) 0).replaying = some (0, 0, 3) ∧ (3 : Nat) < x.completed ∧
     ({ x with completed := 3 } : Part).completed ≤ 3) := by decide +kernel

/-- A read that meets no error in the line it names, and one that does. -/
def cleanRead : AreaRead := ⟨0, .clean⟩
def badRead : AreaRead := ⟨0, .uncorrectable⟩

/-- Partition 0 held for its rollback, with an HBM carve. -/
def drainedWith (x : Part) : State := setPart (oset bound (Od.HBM_H 0 0) 16) 0 { x with hold := .stopping }

theorem witness_DrainedPartitionsRestoreOrStop :
    let s := drainedWith {}
    (getPart s 0).hold ≠ .none ∧ leased s = true ∧ opsDrained s 0 = true ∧
    ((getPart s 0).causes.any fun f => needsTest s f && !(getPart s 0).tested.contains f.1) = false ∧
    (goldenRead (settleSpares (stopClusters (drainedWith { hold := .drained }) 0)) 0 badRead badRead).2 = false ∧
    halted (goldenRead s 0 badRead badRead).1 = false ∧ stagedStill (drainedWith { staged := 1 }) 0 = false ∧
    (goldenRead s 0 badRead cleanRead).2 = true ∧ (goldenRead s 0 cleanRead badRead).2 = true ∧
    (retireClusters (repairTrack s ⟨0, 0, true, 5⟩) 0 []).isSome = true ∧
    halted (areaRead s 0 64 cleanRead).1 = false ∧ (areaRead s 0 64 cleanRead).2 = true ∧ (areaRead s 0 64 badRead).2 = false := by
  decide +kernel

theorem witness_ReloadsTakeTheGoldenCopy :
    partOf bound c0 = some 0 ∧ (goldenRead bound 0 badRead badRead).2 = false ∧ stagedStill (setPart bound 0 { staged := 1 }) 0 = false ∧
    halted (goldenRead bound 0 badRead badRead).1 = false ∧ (goldenRead bound 0 cleanRead badRead).2 = true ∧
    reloadPending bound c0 .schedule = false ∧ reloadPending (setCl bound c0.idx { reloadWs := true }) c0 .schedule = true ∧
    reloadPending (setCl bound c0.idx { reloads := [32 * 8192 + 8191] }) c0 (.slot 32 8191) = true ∧
    reloadPending (setDie bound 0 { badDesc := [65535] }) c0 (.desc 65535) = true := by decide +kernel

/-- A pattern file of one image with a sweep of 32 stitches, whose sections are `secs`: type, fold, CRC and bytes; `c` is the
header's CRC. -/
def patternOf (c : Nat) (secs : List (Nat × Nat × Nat × List Byte)) : List Byte :=
  let pad := fun (b : List Byte) => b ++ List.replicate ((64 - b.length % 64) % 64) 0
  let base := 128 + 32 * secs.length + (64 - 32 * secs.length % 64) % 64
  let lay := secs.foldl (fun (a : List (List Byte) × List Byte) x =>
    (a.1 ++ [leBytes 2 x.1 ++ leBytes 1 x.2.1 ++ leBytes 1 0 ++ leBytes 4 x.2.2.1 ++ leBytes 8 (base + a.2.length) ++
      leBytes 8 x.2.2.2.length ++ leBytes 8 0], a.2 ++ pad x.2.2.2)) ([], [])
  let body := pad lay.1.flatten ++ lay.2
  leBytes 4 0x54415056 ++ leBytes 2 3 ++ leBytes 2 0 ++ leBytes 4 128 ++ leBytes 4 secs.length ++ leBytes 8 128 ++
    leBytes 8 (128 + body.length) ++ leBytes 2 32 ++ leBytes 1 1 ++ leBytes 1 0 ++ List.replicate 16 0 ++ leBytes 4 c ++
    List.replicate 72 0 ++ body

/-- The latency table of the silicon, element by element (R172). -/
def latTable : List Byte :=
  leBytes 2 2 ++ leBytes 2 12 ++ (List.range 12).flatMap fun i =>
    leBytes 1 (i + 1) ++ leBytes 1 (if 8 ≤ i then 1 else 0) ++ leBytes 2 (if i < 5 then 1 else 3) ++ leBytes 4 0

/-- An empty design: no cluster in the footprint. -/
def pat : List Byte := patternOf 1595737455 [(1, 1, 2997515640, List.replicate 512 0), (2, 0, 10129375, latTable), (3, 1, 0, []),
  (4, 1, 0, []), (5, 1, 0, []), (6, 1, 0, []), (9, 1, 585412359, leBytes 2 1 ++ List.replicate 22 0)]

/-- The empty design's image. -/
def emptyImage : Image := { fold := 1, len := 32, foot := [] }

theorem ok_of {α : Type} [DecidableEq α] {e : Except PatFail α} {x : α} (h : (match e with | .ok y => decide (y = x) | .error _ => false) = true) :
    e = .ok x := by
  cases e <;> simp_all

theorem pat_empty : readImage pat 1 = .ok emptyImage := ok_of (by decide +kernel)

/-- With no switch entry enabled no channel's route has an end. -/
theorem noRoutes : inboundRoutes (imgState []) = [] := by
  have hb : ∀ c src, branchesOf (imgState []) c src = [] := by
    intro c src
    unfold branchesOf
    rw [List.filter_eq_nil_iff]
    intro n _
    simp [switchEntry, imgState, sreadLE, memDefault]
  have he : ∀ lat fuel c src q, endsFrom (imgState []) lat fuel c src q = [] := by
    intro lat fuel c src q
    cases fuel <;> simp [endsFrom, hb]
  unfold inboundRoutes inboundEnds
  rw [List.filterMap_eq_nil_iff]
  intro ch _
  simp [he]

/-- A checked stream that carries the empty design. -/
def patStream : Stream :=
  { seq := 1, body := wordsLE ((pat.length + 3) / 4) pat, pattern := some (0, pat.length), phase := 1 }

theorem patStream_file : streamFile patStream = pat := by decide +kernel

theorem checkPattern_of {s : State} {p n mask : Nat} {f : List Byte} {fr : List Host.Cell} {a : Image} {l : List Image}
    (h1 : checkFile f n = .ok ()) (h2 : checkLatency f = .ok ()) (h3 : readImage f 1 = .ok a) (h4 : readImages f (patFolds f) = .ok l)
    (h5 : eachOk l (checkImage s p f fr (cuffPresent s p mask) a) = .ok ()) (h6 : eachOk l (checkDescs s p) = .ok ()) :
    checkPattern s p f n fr mask = .ok l := by
  unfold checkPattern
  simp only [h1, h2, h3, h4, h5, h6, Bind.bind, Except.bind]

theorem eachOk_one {f : Image → Except PatFail Unit} {x : Image} (h : f x = .ok ()) : eachOk [x] f = .ok () := by
  simp only [eachOk, h]

theorem readImages_one {f : List Byte} {m : Image} (h : readImage f 1 = .ok m) : readImages f [1] = .ok [m] := by
  simp only [readImages, h, Bind.bind, Except.bind]

theorem pat_file : checkFile pat pat.length = .ok () := ok_of (by decide +kernel)
theorem pat_latency : checkLatency pat = .ok () := ok_of (by decide +kernel)
theorem pat_folds : patFolds pat = [1] := by decide +kernel

theorem pat_image : checkImage (streaming patStream) 0 pat [] (cuffPresent (streaming patStream) 0 0) emptyImage emptyImage = .ok () := by
  unfold checkImage
  simp only [show emptyImage.ws = [] from rfl, noRoutes]
  exact ok_of (by decide +kernel)

theorem pat_images : readImages pat (patFolds pat) = .ok [emptyImage] := by
  rw [pat_folds]
  exact readImages_one pat_empty

theorem pat_descs : checkDescs (streaming patStream) 0 emptyImage = .ok () := ok_of (by decide +kernel)

theorem pat_checked : checkPattern (streaming patStream) 0 pat pat.length [] 0 = .ok [emptyImage] := by
  have h5 : eachOk [emptyImage] (checkImage (streaming patStream) 0 pat [] (cuffPresent (streaming patStream) 0 0) emptyImage) =
      .ok () := eachOk_one pat_image
  have h6 : eachOk [emptyImage] (checkDescs (streaming patStream) 0) = .ok () := eachOk_one pat_descs
  exact checkPattern_of pat_file pat_latency pat_empty pat_images h5 h6

theorem witness_StreamsWithAPattern :
    checkPattern (streaming patStream) 0 (streamFile patStream) (streamFile patStream).length
      (mergeFrames (streaming patStream).goldenFrames patStream) 0 = .ok [emptyImage] ∧
    partRunning (streaming patStream) 0 = false ∧ commitWaits (streaming patStream) 0 patStream = false ∧
    partRunning (fset (setPart (atGate 0) 0 { stream := some patStream }) (Reg.BP_CL_STATUS c0) F.BP_CL_STATUS_RUN 1) 0 = true := by
  refine ⟨?_, by decide +kernel⟩
  rw [patStream_file, show mergeFrames (streaming patStream).goldenFrames patStream = [] from by decide +kernel]
  exact pat_checked

theorem witness_PatternsMap : (mapFirst (streaming patStream) 0 [emptyImage] []).isSome = true := by decide +kernel

/-- A golden copy of the empty design with an enabled switch entry, and a state in which the bridge track that it selects has been
given up. -/
def deadGolden : Golden := { file := pat, fold := 1, ws := swriteLE memDefault [] (wsBase ⟨0, 31, 0⟩ + 0x18000 + 320) 2 0x8005 }
def deadRoute : State :=
  let b := bridgeOf ⟨0, 31, 0⟩ 160
  { setPart bound 0 { golden := deadGolden } with deadTracks := [(b.1, b.2.1, b.2.2, (bridgeTrack ⟨0, 31, 0⟩ 160).2)] }

theorem deadRoute_part : getPart deadRoute 0 = { golden := deadGolden } := rfl

theorem goldenImages_pat (g : Golden) (hf : g.file = pat) (hk : g.fold = 1) : goldenImages g = some (emptyImage, emptyImage) := by
  unfold goldenImages
  rw [hf, hk, pat_empty]

/-- Routes on a given-up track that no cluster's move touches cannot be re-derived. -/
theorem rewire_dead {s : State} {p : Nat} {ws : List Host.Cell} {cur new : Nat → ClusterId}
    (h : (partClusters s p).any (usesDead s (imgState ws)) = true) (hd : s.deadTracks.isEmpty = false) :
    rewire s p ws [] cur new [] = none := by
  simp [rewire, moveBlocks, h, hd]

theorem retire_none {s : State} {p : Nat} {g : Golden} {first m : Image} (h0 : (getPart s p).retire = [])
    (hp : (getPart s p).golden = g) (hg : goldenImages g = some (first, m)) (hm : m.foot = []) (hd : s.deadTracks.isEmpty = false)
    (h2 : (partClusters s p).any (usesDead s (imgState g.ws)) = true) (h3 : foldPart s p first g [] = none) :
    retireClusters s p [] = none := by
  have he : ([] : List Nat).eraseDups = [] := by decide
  unfold retireClusters
  simp only [h0, hp, he, hg, hd, h2, hm, List.foldl_nil, List.isEmpty_nil, Bool.true_and, Bool.not_true, Bool.or_false,
    Bool.false_eq_true, if_false, placeFoot, placeAll, List.map_nil, List.filter_nil,
    rewire_dead h2 hd, List.headD_nil, List.tail_nil, Option.map_none, h3]

theorem witness_RetirementFails : retireClusters deadRoute 0 [] = none := by
  have h2 : (partClusters deadRoute 0).any (usesDead deadRoute (imgState deadGolden.ws)) = true :=
    List.any_eq_true.mpr ⟨⟨0, 31, 0⟩, List.elem_iff.mp (by decide +kernel), by decide +kernel⟩
  have h3 : foldPart deadRoute 0 emptyImage deadGolden [] = none := by
    unfold foldPart
    rw [show deadGolden.file = pat from rfl, pat_folds, show deadGolden.fold = 1 from rfl]
    simp [mapFirst]
  exact retire_none (by rw [deadRoute_part]) (by rw [deadRoute_part]) (goldenImages_pat deadGolden rfl rfl) rfl (by decide) h2 h3

theorem capture_of (s : State) (p : Nat) (f : List Byte) (hg : (getPart s p).golden = { file := f, fold := 1 })
    (h : (goldenImages { file := f, fold := 1 }).isSome = true) : (captureCkpt s p).isSome = true := by
  unfold captureCkpt
  simp only [hg]
  cases hi : goldenImages { file := f, fold := 1 } <;> simp_all

/-- Partition 0 with the design of file `f` loaded, a gate request of a checkpoint at ecycle 0, and its sector key in slot 2. -/
def loadedWith (f : List Byte) : State :=
  fsets (setPart bound 0 { golden := { file := f, fold := 1 }, ckptGate := some 0 }) (Reg.XTS_SLOT 2)
    [(F.XTS_SLOT_LIVE, 1), (F.XTS_SLOT_PARTITION, 0), (F.XTS_SLOT_CLASS, classSector), (F.XTS_SLOT_PREVIOUS, 0)]

/-- The same with the empty design. -/
def loaded : State := loadedWith pat

theorem loaded_golden (f : List Byte) : (getPart (loadedWith f) 0).golden = { file := f, fold := 1 } := rfl

theorem witness_GoldenCopyAndCapture :
    (∃ i, goldenImages (getPart loaded 0).golden = some i) ∧ ∃ k, captureCkpt loaded 0 = some k := by
  have h : (goldenImages { file := pat, fold := 1 }).isSome = true := by rw [goldenImages_pat _ rfl rfl]; rfl
  unfold loaded
  refine ⟨?_, Option.isSome_iff_exists.mp (capture_of _ 0 pat (loaded_golden pat) h)⟩
  rw [loaded_golden]
  exact Option.isSome_iff_exists.mp h

theorem witness_CheckpointsCommitAndSpill :
    runnable loaded 0 = true ∧ (getPart loaded 0).hold = .none ∧ captureDue loaded 0 (getPart loaded 0).completed = true ∧
    atBoundary loaded 0 = true ∧ (∀ d ∈ partDies loaded 0, partIdle loaded 0 d = true) ∧ resultsDone loaded 0 = true ∧
    liveKey loaded 0 classSector 0 = some (0, 0) ∧
    captureDue bound 0 (getPart bound 0).completed = false ∧
    (let q := fun (mode : Nat) => oset (fsets (fset (setPart loaded 0 { ckpt := some ckpt0 }) (Reg.DMAQ_STATUS 0 3)
       F.DMAQ_STATUS_STATE 1) (Reg.DMAQ_CFG 0 3) [(F.DMAQ_CFG_CLIENT, 4), (F.DMAQ_CFG_DIR, 1)]) (Od.SPILL 0) mode
     ∀ m ∈ [1, 2], let s := oset (q m) (Od.SPILL_QUEUE 0) 3
       (getPart s 0).ckpt = some ckpt0 ∧ liveKey s 0 classSector 0 = some (0, 0) ∧ oget s (Od.SPILL 0) = m ∧ (getPart s 0).spilled = false ∧
       dmaServes s (oget s (Od.SPILL_QUEUE 0)) 4 1 = true) := by decide +kernel

theorem witness_ScrubbersAndVotersFollowTheirRules :
    (∀ k ∈ [0, 1, 5], let v := scrubVoted bound k
      v.range / 2 ^ 16 ≤ (getScrub bound k).next ∧ (getScrub bound k).next ≤ v.range % 2 ^ 16 ∧
      fbit bound (Reg.LNG_SCRUB_CFG k) F.LNG_SCRUB_CFG_DEFAULT = false ∧ scrubLegal k v = true ∧
      scrubLegal k (scrubOd bound k) = true ∧ (⟨1, 0, 0⟩ : ScrubParam) ≠ v ∧ v.period ≠ 1 ∧ v.period ≠ 2) ∧
    partOf bound c0 = some 0 ∧ (getPart (setPart bound 0 { golden := { fold := 1 } }) 0).golden.fold ≠ 0 ∧
    (let fa := (frameAddr 4 3 0 0)
     let s := setPart queueSlot 0 { cuffAt := some (0, 0x100000) }
     let u := fadd (scrubAdvance s 4 true) (Reg.LNG_SCRUB_DIAG 4) F.LNG_SCRUB_DIAG_ERRORS 1
     frameHeld s fa = false ∧ framePart s fa = some 0 ∧ memWf s.goldenFrames = true ∧
     (copiesRead u (0, 0x100000) (0x100000 * cuffMib s 0) badRead cleanRead).2 = true ∧
     frameHeld (fset s Reg.CFG_REGION F.CFG_REGION_HOLD 1) fa = true) ∧
    leased bound = true := by decide +kernel

/-- Both controllers run; A holds the lease or none does; both ask for it or B does not. -/
def collar (h : Nat) (b : Bool) : State :=
  let c := fun (s : State) (n st : Nat) => setCtl (fsets s (Reg.COL_STATE n) [(F.COL_STATE_STATE, st), (F.COL_STATE_FW_VALID, 1)]) n
    { request := decide (n = 0) || b }
  fset (c (c bound 0 (if h = 0 then 3 else 2)) 1 2) Reg.COL_LEASE F.COL_LEASE_HOLDER h

theorem witness_ChargeLeaseIsGrantedRenewedAndLost :
    holder (collar 0 true) = some 0 ∧ holder (collar 0 true) ≠ some 1 ∧ holder (collar 3 true) = none ∧
    eligible (collar 3 true) 0 = true ∧ eligible (collar 3 true) 1 = true ∧ holder (collar 3 true) = none ∧
    (eligible State.reset 0 = false ∧ eligible State.reset 1 = false) ∧ ctlState (collar 0 true) 0 = 3 ∧
    eligible (collar 0 true) 1 = true ∧ eligible (collar 0 false) 1 = false ∧ fwValid (collar 0 true) 1 = true ∧
    fwValid State.reset 1 = false ∧ 2 ≤ recentFails (setCtl State.reset 1 { fails := [0, 0] }) 1 := by decide +kernel

/-! ## Statements on boot, firmware, sensors, the dictionary and run control -/

/-- The SHA-384 digest of the empty string (FIPS 180-4), most significant byte first. -/
def emptyDigest : List Nat :=
  natBE 48 0x38B060A751AC96384CD9327EB1B1E36A21FDB71114BE07434C0CC7BF63F6E1DA274EDEBFE76F65FBD51AD2F14898B95B

theorem empty_digest : sha384 [] = emptyDigest := by decide +kernel

/-- An image of no code, of version 7 and SVN 5, with the digest of the empty string. -/
def imgBytes : List Byte :=
  leBytes 4 0x4C4F4356 ++ leBytes 4 7 ++ [5, 0, 0, 0] ++ leBytes 4 0 ++ leBytes 4 0 ++
    toBytes emptyDigest ++ List.replicate 188 0

theorem read_stored (m : SMap Byte) (a : Nat) (bs : List Byte) (b : Nat) (h : b < bs.length) :
    sget (fun _ => 0xFF) (swriteBytes (fun _ => 0xFF) m a bs) (a + b) = bs.getD b 0 := by
  induction bs generalizing m a b with
  | nil => simp at h
  | cons x bs ih =>
    simp only [swriteBytes]
    cases b with
    | zero => rw [sget_swriteBytes_out _ _ (a + 1) bs (a + 0) (by omega)]; simp
    | succ b =>
      rw [show a + (b + 1) = a + 1 + b by omega, ih _ _ b (by simpa using h)]
      simp

theorem readBytes_stored (m : SMap Byte) (a : Nat) (bs : List Byte) (b n : Nat) (h : b + n ≤ bs.length) :
    sreadBytes (fun _ => 0xFF) (swriteBytes (fun _ => 0xFF) m a bs) (a + b) n = (List.range' b n).map fun i => bs.getD i 0 := by
  induction n generalizing b with
  | zero => rfl
  | succ n ih =>
    rw [sreadBytes, read_stored m a bs b (by omega), Nat.add_assoc, ih (b + 1) (by omega)]
    simp [List.range'_succ]

theorem readLE_stored (m : SMap Byte) (a : Nat) (bs : List Byte) (b n : Nat) (h : b + n ≤ bs.length) :
    sreadLE (fun _ => 0xFF) (swriteBytes (fun _ => 0xFF) m a bs) (a + b) n =
      leNat ((List.range' b n).map fun i => bs.getD i 0) := by
  induction n generalizing b with
  | zero => rfl
  | succ n ih =>
    rw [sreadLE, read_stored m a bs b (by omega), Nat.add_assoc, ih (b + 1) (by omega)]
    simp [List.range'_succ, leNat]

theorem img_length : imgBytes.length = 256 := by decide +kernel

/-- Bytes `b` to `b + n - 1` of that image. -/
def imgPart (b n : Nat) : List Byte := (List.range' b n).map fun i => imgBytes.getD i 0

theorem img_fields :
    leNat (imgPart 0 4) = 0x4C4F4356 ∧ leNat (imgPart 8 1) = 5 ∧ leNat (imgPart 9 3) = 0 ∧ leNat (imgPart 12 4) = 0 ∧
    leNat (imgPart 16 4) = 0 ∧ (imgPart 0x44 92).all (fun b => decide (b = 0)) = true := by decide +kernel

theorem img_digest : ofBytes (imgPart 0x14 48) = emptyDigest := by decide +kernel

theorem slot_flash (s : State) (slot : Nat) (bs : List Byte) :
    (programSlot s slot bs true).collar.flash = swriteBytes (fun _ => 0xFF)
      (sclear s.collar.flash (slot * 0x1000000) ((slot + 1) * 0x1000000)) (slot * 0x1000000) bs := by
  unfold programSlot; split <;> rfl

theorem img_bytes (s : State) (slot b n : Nat) (h : b + n ≤ 256) :
    flashBytes (programSlot s slot imgBytes true) slot b n = imgPart b n := by
  unfold flashBytes imgPart
  rw [slot_flash]; exact readBytes_stored _ _ _ _ _ (by rw [img_length]; omega)

theorem img_le (s : State) (slot b n : Nat) (h : b + n ≤ 256) :
    flashLE (programSlot s slot imgBytes true) slot b n = leNat (imgPart b n) := by
  unfold flashLE imgPart
  rw [slot_flash]; exact readLE_stored _ _ _ _ _ (by rw [img_length]; omega)

theorem slot_signed (s : State) (slot : Nat) (bs : List Byte) :
    (if slot = 0 then (programSlot s slot bs true).collar.sigA else (programSlot s slot bs true).collar.sigB) = true := by
  unfold programSlot; split <;> simp

theorem img_sound (s : State) (slot : Nat) : imgSound (programSlot s slot imgBytes true) slot = true := by
  obtain ⟨h1, -, h2, hl, h3, h4⟩ := img_fields
  have hlen : imgLength (programSlot s slot imgBytes true) slot = 0 := by
    unfold imgLength; rw [img_le _ _ _ _ (by omega)]; exact hl
  have h6 : flashBytes (programSlot s slot imgBytes true) slot 0x100 0 = [] := rfl
  unfold imgSound
  simp only [hlen, h6]
  rw [img_le _ _ 0 4 (by omega), img_le _ _ 0x09 3 (by omega), img_le _ _ 0x10 4 (by omega), img_bytes _ _ 0x44 92 (by omega),
    img_bytes _ _ 0x14 48 (by omega), img_digest, slot_signed, h1, h2, h3, h4,
    show ofBytes [] = [] from rfl, empty_digest]
  simp

theorem sound_of_collar (s t : State) (slot : Nat) (h : t.collar = s.collar) : imgSound t slot = imgSound s slot := by
  unfold imgSound imgLength flashLE flashBytes
  simp only [h]

/-- Slot 0 holds that image; the module is past Tack and its controllers are off, B being the one that holds the lease. -/
def bootable : State :=
  fset (programSlot { bound with power := { tack := true } } 0 imgBytes true) Reg.COL_LEASE F.COL_LEASE_HOLDER 1

theorem witness_BootOfASoundImage : bootSlot bootable 0 = 0 ∧ imgOk bootable 0 = true := by
  refine ⟨by decide +kernel, ?_⟩
  have hs : imgSound bootable 0 = true := (sound_of_collar _ _ 0 rfl).trans (img_sound { bound with power := { tack := true } } 0)
  have hf : fuseUsed bootable = 0 := by decide +kernel
  unfold imgOk
  rw [hs, hf]; rfl

theorem witness_ControllersBootAndRecover :
    let spent := fset (fset (collar 0 true) (Reg.COL_STATE 0) F.COL_STATE_SVN 5) Reg.COL_FUSE F.COL_FUSE_USED 95
    let open_ : State := { bound with power := { tack := true }, collar := { committed := 1 } }
    bootable.power.tack = true ∧ fwValid bootable 0 = false ∧ (getCtl bootable 0).stuck = false ∧
    imgOk open_ 0 = false ∧ imgOk open_ 1 = false ∧ bootSlot open_ 0 = 1 ∧ recoveryOpen open_ = true ∧
    fbit open_ Reg.COL_RECOVERY_STATUS F.COL_RECOVERY_STATUS_BUSY = false ∧
    fuseUsed (collar 0 true) < fget (fset (collar 0 true) (Reg.COL_STATE 0) F.COL_STATE_SVN 5) (Reg.COL_STATE 0) F.COL_STATE_SVN ∧
    fget spent (Reg.COL_STATE 0) F.COL_STATE_SVN ≤ fuseUsed spent ∧ fuseUsed spent < 96 ∧ holder spent = some 0 ∧
    (getCtl spent 1).stuck = false ∧ fbit (fset spent Reg.COL_FUSE F.COL_FUSE_BLOW 1) Reg.COL_FUSE F.COL_FUSE_BLOW = true ∧
    (31 * 0x80000 + 32768 * 16 ≤ 0x1000000) ∧
    (setCtl ({ open_ with collar := { chunk := some (0xFFFFF0, 16) } } : State) 0 {}).collar.chunk = some (0xFFFFF0, 16) := by
  decide +kernel

theorem witness_FirmwareImageIsTaken :
    imgRefusal (showSlots (programSlot (collar 0 true) 1 imgBytes true)) 1 = none ∧
    imgRefusal (showSlots (programSlot (collar 0 true) 1 [] true)) 1 = some Code.FW_REJECTED ∧ imgBytes.length ≤ 0x1000000 := by
  refine ⟨?_, by decide +kernel, by rw [img_length]; omega⟩
  have hc : ∀ s, (showSlots s).collar = s.collar := fun s => by simp [showSlots]
  have hr : ∀ s, (showSlots s).regs = s.regs := fun s => by simp [showSlots]
  have hs : imgSound (showSlots (programSlot (collar 0 true) 1 imgBytes true)) 1 = true :=
    (sound_of_collar _ _ 1 (hc _)).trans (img_sound (collar 0 true) 1)
  have hf : fuseUsed (showSlots (programSlot (collar 0 true) 1 imgBytes true)) = 0 := by
    unfold fuseUsed fget rget; rw [hr]; exact (by decide +kernel : fuseUsed (collar 0 true) = 0)
  have hv : imgSvn (showSlots (programSlot (collar 0 true) 1 imgBytes true)) 1 = 5 := by
    unfold imgSvn flashLE; rw [hc]
    exact (img_le (collar 0 true) 1 8 1 (by omega)).trans img_fields.2.1
  unfold imgRefusal
  rw [hs, hf, hv]; rfl

/-- `collar 0 true` with the firmware update in phase `f` and slot 1 on trial. -/
def updating (f : FwPhase) : State :=
  let s := collar 0 true
  { s with collar := { s.collar with fw := f, trial := some 1 } }

theorem witness_FirmwareUpdatesFollowTheirOrder :
    serving (updating .none) ∧ serving (updating .checked) ∧ holder (updating .none) ≠ none ∧
    controlPath ⟨0, none, false⟩ = true ∧ controlPath ⟨0, some 3, false⟩ = false ∧ holder (updating .checked) = some 0 ∧
    ctlState (updating .checked) 1 = 2 ∧ (getCtl (updating .checked) 1).stuck = false ∧
    ctlState (fset (updating .checked) (Reg.COL_STATE 1) F.COL_STATE_STATE 1) 1 ≠ 2 ∧
    oget (updating .checked) Od.FW_FORCE_SINGLE ≠ 1 ∧ (updating (.booting 1)).collar.fw = .booting 1 ∧
    (getCtl (updating (.booting 1)) 1).ready = false ∧ (updating (.trial 0)).collar.fw = .trial 0 ∧
    holder (updating (.trial 0)) = some 0 ∧ (updating (.trial 0)).collar.trial = some 1 := by
  unfold serving; decide +kernel

theorem witness_SensorsLogAndStoreFollowTheirRules :
    sensorReg (.temp 4 3) = some (Reg.SNS_TEMP 4 3) ∧ sensorReg .iin = some Reg.SNS_IIN ∧
    fbit bound (Reg.SNS_TEMP 4 3) F.SNS_TEMP_CAL = false ∧
    fbit (fset bound (Reg.SNS_TEMP 4 3) F.SNS_TEMP_CAL 1) (Reg.SNS_TEMP 4 3) F.SNS_TEMP_CAL = true ∧
    calReg 0 4 3 = some (Reg.SNS_TEMP 4 3) ∧ calReg 1 3 31 = some (Reg.SNS_DLYMON 3 31) ∧ calRuns bound 4 = false ∧
    calRuns (fset bound (Reg.SNS_TEMP 4 3) F.SNS_TEMP_CAL 1) 4 = true ∧ leased bound = true ∧
    leased State.reset = false ∧
    (let r : LogRecord := ⟨0, 0, 0, 0, 0, 0, 0, 0, []⟩
     let s : State := { bound with logQueue := [r], logFlash := { used := 1023 } }
     s.logQueue = r :: [] ∧ 0 < s.logFlash.used ∧ s.logFlash.used < 1024) := by decide +kernel

/-- Paths: the module owner's, and partition 0's. -/
def owner : Path := ⟨0, none, false⟩
def tenant : Path := ⟨0, some 0, false⟩

theorem witness_DictionaryAccessesAreTestedInOrder :
    odServing State.reset = false ∧ odServing bound = true ∧ pathServed bound owner = true ∧
    pathServed (oset bound (Od.PART_STATE 0) 0) tenant = false ∧ (odEntry 0xFFFFFF).isNone = true ∧
    (∀ d, odEntry Od.ROLLBACK_LIMIT = some d →
      odInScope owner Od.ROLLBACK_LIMIT = true ∧ odReadable bound owner Od.ROLLBACK_LIMIT d = true ∧ d.type ≠ .domain ∧
      keySub Od.ROLLBACK_LIMIT ≠ 0 ∧ odWritable bound owner Od.ROLLBACK_LIMIT d = true ∧ d.access ≠ .rwi ∧
      odWritable bound tenant Od.ROLLBACK_LIMIT d = false ∧ odSize d.type = 1) ∧
    (odEntry Od.ROLLBACK_LIMIT).isSome = true ∧
    (∀ d, odEntry (Od.REGIONS 0) = some d → odInScope owner (Od.REGIONS 0) = true ∧ d.access = .rwi ∧
      odWritable bound owner (Od.REGIONS 0) d = true ∧
      odIdle bound (Od.REGIONS 0) = false) ∧ (odEntry (Od.REGIONS 0)).isSome = true ∧
    (∀ d, odEntry Od.CLAMP_RING = some d → odInScope owner Od.CLAMP_RING = true ∧ d.type = .domain ∧
      odReadable bound owner Od.CLAMP_RING d = true) ∧ (odEntry Od.CLAMP_RING).isSome = true ∧
    (∀ d, odEntry Od.FW_IMAGE = some d → odInScope owner Od.FW_IMAGE = true ∧ odReadable bound owner Od.FW_IMAGE d = false) ∧
    (odEntry Od.FW_IMAGE).isSome = true ∧ bound.power.closing = false := by decide +kernel

theorem witness_ValuesAreAppliedOrClampedAndReported :
    odServing bound = true ∧ owner.part = none ∧ bound.power.closing = false ∧
    (4294963200 : BitVec 32).toNat % 4096 = 0 ∧ (4294963199 : BitVec 32).toNat % 4096 ≠ 0 ∧ (4095 : BitVec 32).toNat < 4096 := by
  decide +kernel

theorem witness_MirrorAccessesComplete :
    let st := Reg.COL_OD_STATUS 15 + mirrorOf 1
    mirrorOpen bound 0 = true ∧ mirrorOpen bound 1 = true ∧ mirrorOpen bound 2 = false ∧
    fbit bound st F.COL_OD_STATUS_BUSY = false ∧ fbit (fset bound st F.COL_OD_STATUS_BUSY 1) st F.COL_OD_STATUS_BUSY = true ∧
    (let a := Reg.COL_OD_LEN 15 + mirrorOf 1
     fget bound a F.COL_OD_LEN_LEN ≤ 65536 ∧ 65536 < fget (fset bound a F.COL_OD_LEN_LEN 65537) a F.COL_OD_LEN_LEN) ∧
    (let v := fldSet (fldSet 0 F.COL_OD_CMD_GO 1) F.COL_OD_CMD_OP 3
     fldGet v F.COL_OD_CMD_GO = 1 ∧ fldGet v F.COL_OD_CMD_OP = 3 ∧ (odEntry (fldGet v F.COL_OD_CMD_INDEX * 256)).isNone = true) ∧
    fldGet (fldSet 0 F.COL_OD_CMD_GO 1) F.COL_OD_CMD_OP ≠ 3 ∧ odServing State.reset = false ∧ mirrorOpen State.reset 0 = true := by
  decide +kernel

theorem witness_RunControlFollowsThePartitionState :
    let st := fun n => oset bound (Od.RUN_STATE 0) n
    (∀ n ∈ [0, 1, 2, 3, 4], serving (st n) ∧ oget (st n) (Od.RUN_STATE 0) = n) ∧ (getPart (st 1) 0).breaks = [] ∧
    (getPart (st 1) 0).doneFall = none ∧ oget (st 1) (Od.STOP_ECYCLE 0) = noStop ∧
    0 < oget (oset (st 1) (Od.STEP_COUNT 0) 1) (Od.STEP_COUNT 0) ∧
    (getPart (st 2) 0).completed + 2 + (getPart (st 2) 0).diameter < oget (st 2) (Od.STOP_ECYCLE 0) ∧
    oget (oset (st 2) (Od.STOP_ECYCLE 0) 2) (Od.STOP_ECYCLE 0) ≤ (getPart (st 2) 0).completed + 2 + (getPart (st 2) 0).diameter ∧
    (let rest := oset (st 0) (Od.PART_STATE 0) 0
     (∀ q, q < 16 → partState rest q = 0 ∧ runState rest q = 0 ∧ spillWaits rest q = false) ∧ serving rest ∧
     rest.logQueue.length < 4096) ∧ owner.part = none ∧ tenant.part ≠ none := by
  unfold serving; decide +kernel

/-! ## Statements on PAP, the network and time -/

/-- Session 9 of the module owner in slot 15, with a kept response to SEQ 4 and subscription 7; and a message of it. -/
def sess : Session :=
  { number := 9, part := none, high := 5, next := 3, stored := [⟨4, 0x31, 2, []⟩],
    subs := [(7, some ⟨true, 100, [Od.ROLLBACK_LIMIT], 0, []⟩)] }
def inSession : State := { bound with sessions := [(15, some sess)] }
def papMsg (session seq : Nat) : PapMsg := ⟨1, BitVec.ofNat 32 session, BitVec.ofNat 32 seq, 0⟩

theorem witness_PapRequestsAreAnsweredOnce :
    papNew inSession (papMsg 9 6) 15 sess ∧ papNew inSession (papMsg 9 1) 15 sess ∧ sess.part = none ∧
    inSession.power.closing = false ∧ inSession.collar.fw = .none ∧ inSession.collar.committed ≤ 1 ∧
    (∀ c ∈ (readEntries (sessionPath sess) true [Od.ROLLBACK_LIMIT] (papVerified inSession 15 sess (papMsg 9 6)) 20).2.2,
      c ≠ Code.LENGTH_EXCEEDS_BUFFER) := by
  unfold papNew; decide +kernel

theorem witness_PapRepeatsNotifiesAndCountsViolations :
    odServing inSession = true ∧ sessionSlot inSession 9 = some 15 ∧ getSession inSession 15 = some sess ∧
    sess.stored.find? (fun r => decide (r.req = 4)) = some ⟨4, 0x31, 2, []⟩ ∧ (papMsg 9 0).seq = 0 ∧
    (papMsg 9 6).tag ≠ requestTag sess 6 0x30 [1] ∧ violationAuthentic sess (papMsg 9 6) [2] = false ∧
    violationAuthentic sess { papMsg 9 6 with
      tag := BitVec.ofNat 128 (beNat (gcmTag (sessionKey sess) (papIv 9 0 6) [2] [])) } [2] = true ∧
    sget (fun _ => none) sess.subs 7 = some ⟨true, 100, [Od.ROLLBACK_LIMIT], 0, []⟩ ∧ sess.next < 0xFFFFFFFF ∧
    (let r := (readEntries (sessionPath sess) true [Od.ROLLBACK_LIMIT] inSession 20).2.1
     r ≠ [] ∧ sget (fun _ => none) [(7, some (⟨true, 100, [Od.ROLLBACK_LIMIT], 0, r⟩ : Subscription))] 7 =
       some ⟨true, 100, [Od.ROLLBACK_LIMIT], 0, r⟩) ∧
    sessionSlot inSession 8 = none ∧ sessionSlot inSession 0 = none ∧ sget (fun _ => none) inSession.abortAt (srcAddr 1) = none ∧
    (let s : State := { inSession with abortAt := [(srcAddr 1, some 0)] }
     sget (fun _ => none) s.abortAt (srcAddr 1) = some 0 ∧ s.ticks < 0 + msTicks (oget s Od.PAP_ABORT_INTERVAL)) := by
  decide +kernel

/-- A challenge for SESSION 12, with the nonce 1 and the ephemeral key pair 1. -/
def challenge : Challenge := ⟨12, 1, 1, 0, 1, 1⟩

/-- A module with an empty serial that takes key pair 1 as the module owner's. -/
def openable : State :=
  let s := oset inSession Od.PAP_OWNER_KEY_HASH (keyHash (ecCompress p384G))
  { s with od := (Od.SERIAL, 0) :: s.od, challenges := [challenge] }

/-- The body of an OPEN for that challenge with key pair 1 as the static and the ephemeral key, its signature computed outside
Lean. -/
def openBytes : List Byte :=
  toBytes (natBE 196 0x03AA87CA22BE8B05378EB1C71EF320AD746E1D3B628BA79B9859F741E082542A385502F25DBF55296C3A545E3872760AB703AA87CA22BE8B05378EB1C71EF320AD746E1D3B628BA79B9859F741E082542A385502F25DBF55296C3A545E3872760AB700002CA8C560F92280756D4D4E5903043A370532B246669E6110B033F9AB150D51863208E24BD70CE3738D027638BBD54CD26BAFCB005B4DFD7EE11BDEDD90666B06AA675507C72D32B4A13A6CAB797B1D9E6EAD4A479E237DEB8D8B804976CA1733)

/-- The hash that the signature is over, and the check. -/
theorem open_signed : openSigned openable true challenge (ofBytes openBytes) = true := by
  have h1 : ecExpand ((ofBytes openBytes).take 49) = some p384G := by decide +kernel
  have h0 : pathBytes true 16 challenge.nonce ++ serialBytes openable ++ [challenge.role, challenge.part] ++
      pathBytes true 4 challenge.number ++ ((ofBytes openBytes).drop 49).take 49 ++ challengeKey challenge =
      natBE 132 0x0000000000000000000000000000000100000000000000000000000001000000000C03AA87CA22BE8B05378EB1C71EF320AD746E1D3B628BA79B9859F741E082542A385502F25DBF55296C3A545E3872760AB703AA87CA22BE8B05378EB1C71EF320AD746E1D3B628BA79B9859F741E082542A385502F25DBF55296C3A545E3872760AB7 := by
    decide +kernel
  have h2 : beNat (sha384 (pathBytes true 16 challenge.nonce ++ serialBytes openable ++ [challenge.role, challenge.part] ++
      pathBytes true 4 challenge.number ++ ((ofBytes openBytes).drop 49).take 49 ++ challengeKey challenge)) =
      0xD50CD63A5E0792A0DA1701E4F048DE2EBB6E99AAC37B81A93374B91A04D26283FE24A0F462B8A68F0DD2E9173D0E4176 := by
    rw [h0]
    decide +kernel
  have h3 : (ofBytes openBytes).drop 100 =
      natBE 96 0x2CA8C560F92280756D4D4E5903043A370532B246669E6110B033F9AB150D51863208E24BD70CE3738D027638BBD54CD26BAFCB005B4DFD7EE11BDEDD90666B06AA675507C72D32B4A13A6CAB797B1D9E6EAD4A479E237DEB8D8B804976CA1733 := by
    decide +kernel
  unfold openSigned
  rw [h1]
  show ecdsaVerify p384G (sha384 (pathBytes true 16 challenge.nonce ++ serialBytes openable ++ [challenge.role, challenge.part] ++
    pathBytes true 4 challenge.number ++ ((ofBytes openBytes).drop 49).take 49 ++ challengeKey challenge))
    ((ofBytes openBytes).drop 100) = true
  unfold ecdsaVerify
  rw [h2, h3]
  decide +kernel

theorem open_ok : openOk openable true challenge (ofBytes openBytes) = true := by
  have h : ownerHash openable challenge.role challenge.part = some (keyHash (ecCompress p384G)) ∧
      keyHash (ecCompress p384G) ≠ 0 ∧ keyHash ((ofBytes openBytes).take 49) = keyHash (ecCompress p384G) := by decide +kernel
  unfold openOk
  simp [h.1, h.2.1, h.2.2, open_signed]

/-- Of Obligations.PapSessionsOpenAndClose: an OPEN that is taken, one whose signature fails, and two malformed ones. -/
theorem witness_OpensAreTakenOrRefused :
    (openKey openable true challenge openBytes).isSome = true ∧ openFault openBytes Code.PAP_BAD_MESSAGE = none ∧
    openKey openable true challenge (List.replicate 196 0) = none ∧
    openFault (List.replicate 196 0) Code.PAP_BAD_MESSAGE = none ∧
    openFault (List.replicate 196 1) Code.PAP_BAD_MESSAGE = some Code.PAP_BAD_MESSAGE ∧
    openFault [] Code.PAP_BAD_MESSAGE = some Code.LENGTH_EXCEEDS_BUFFER := by
  refine ⟨?_, by decide +kernel⟩
  have h : ecExpand (((ofBytes openBytes).drop 49).take 49) = some p384G := by decide +kernel
  unfold openKey
  simp only [h, open_ok, if_true, Option.isSome_some]

theorem witness_PapSessionsOpenAndClose :
    sessionsHeld inSession < 16 ∧
    16 ≤ sessionsHeld { inSession with challenges := (List.range 15).map fun i => { challenge with number := i + 20 } } ∧
    (openable.challenges.find? (fun c => decide (c.number = 12))) = some challenge ∧
    (List.range 16).find? (fun k => (getSession openable k).isNone) = some 0 ∧
    sess.high < (papMsg 9 1).seq.toNat + 32 := by decide +kernel

/-- Both links up, and a PTP domain 0 for counter A whose best master is port 5. -/
def linked : State :=
  { oset (oset (oset (oset bound (Od.LINK 0) 1) (Od.LINK 1) 1) Od.A_PTP_DOMAIN 0) Od.B_PTP_DOMAIN 255 with
    time := { trackA := { masters := [⟨5, 0, 37⟩], sync := some (7, 0, 0), last := some (0, 0, 0), req := some { seqId := 7, sent := some 0 } } } }
def ptpMsg (v : BitVec 4) : PtpMsg := ⟨0, v, true, 0, 7, 5, 0, 0⟩

theorem witness_NetworkAndPtpMessagesHaveTheirEffect :
    portCarries linked 0 = true ∧ portCarries linked 1 = true ∧ frameMax ⟨64, none, .arp 1⟩ = 1518 ∧
    vlanPasses linked 0 none = true ∧ vlanPasses linked 0 (some 5) = false ∧ (getEth linked 0).queue.length < 256 ∧
    256 ≤ (getEth (setEth linked 0 { queue := List.replicate 256 ⟨64, none, .other []⟩ }) 0).queue.length ∧
    fget linked Reg.PWR_STATUS F.PWR_STATUS_STAGE ≠ 0 ∧ leased linked = true ∧
    (let s := oset (oset linked Od.ETH_MODE 1) (Od.LINK 0) 0
     oget s Od.ETH_MODE = 1 ∧ oget s Od.ETH_ACTIVE = 0 ∧ ethUp s 0 = false ∧ ethUp s 1 = true ∧ s.logQueue.length < 4096) ∧
    (ptpMsg 1).version ≠ 2 ∧ time80Ok 999999999 = true ∧ time80Ok 1000000000 = false ∧ (ptpMsg 2).version = 2 ∧
    ptpTarget linked (ptpMsg 2) = some .a ∧ fromMaster linked .a (ptpMsg 2) = true ∧
    (trackOf linked .a).sync = some ((ptpMsg 2).seqId.toNat, 0, 0) ∧
    (trackOf linked .a).req = some ⟨(ptpMsg 2).seqId.toNat, some 0, none⟩ ∧ (trackOf linked .a).last = some (0, 0, 0) ∧
    (trackOf linked .b).sync = none ∧ (trackOf linked .b).req = none ∧ bestMaster (trackOf linked .a) = some ⟨5, 0, 37⟩ ∧
    portCarries linked (ptpPort linked .a) = true ∧ linked.time.txq.length < 16 ∧
    16 ≤ ({ linked.time with txq := List.replicate 16 ⟨0, 0, 0, 0, 0⟩ } : TimeUnit).txq.length ∧
    ({ linked.time with txq := [⟨0, 0, 0, 0, 0⟩] } : TimeUnit).txq = ⟨0, 0, 0, 0, 0⟩ :: [] := by decide +kernel

theorem witness_CountersAndAlarmsFollowTheirRules :
    let lock := fun (a b : Nat) => oset (oset bound Od.A_STATE a) Od.B_STATE b
    bound.timeA < ctrModulus ∧ bound.timeB < ctrModulus ∧ leased bound = true ∧ serving bound ∧ tenant.part ≠ none ∧
    owner.part = none ∧
    (let s : State := { lock 2 2 with timeA := 10 ^ 6 * 2 ^ 28 + 2 ^ 28 * 10 ^ 6, time := { surplus := 7 } }
     oget s Od.A_STATE = 2 ∧ oget s Od.B_STATE = 2 ∧ oget s Od.DOMAIN_SPLIT_LIMIT < (splitNs s).natAbs ∧ s.time.surplus = 7 ∧
     oget s Od.SPLIT_STATE = 0) ∧
    (oget (lock 0 2) Od.B_STATE = 2 ∧ oget (lock 0 2) Od.A_STATE ≠ 3 ∧ -2 ^ 31 ≤ -splitNs (lock 0 2) ∧ -splitNs (lock 0 2) < 2 ^ 31) ∧
    oget (lock 3 2) Od.A_STATE = 3 ∧ oget (lock 0 0) Od.A_STATE = 0 ∧ bound.time.lockedOnce = false ∧
    alarmArmed bound 7 = false ∧ oget bound (Od.ALARM_ACTION 7) ≠ 1 ∧ oget bound (Od.ALARM_TIME 7) < 2 ^ 80 ∧
    oget (oset bound (Od.ALARM_ACTION 7) 1) (Od.ALARM_ACTION 7) = 1 ∧ runState bound (oget bound (Od.ALARM_TARGET 7)) ≠ 1 ∧
    (let s := fset bound (Reg.TIME_ALARM_CTRL 7) F.TIME_ALARM_CTRL_ARMED 1
     alarmArmed s 7 = true ∧ alarmTarget s 7 * 2 ^ 28 ≤ ctrOf s (alarmCtr s 7) ∧ alarmPeriod s 7 = 0 ∧
     alarmPeriod (rset s (Reg.TIME_ALARM_PER_LO 7) 1) 7 ≠ 0 ∧
     fget (fset s (Reg.TIME_ALARM_CTRL 7) F.TIME_ALARM_CTRL_ACTION 3) (Reg.TIME_ALARM_CTRL 7) F.TIME_ALARM_CTRL_ACTION = 3) ∧
    unitPart (oset bound (Od.ACQ_UNITS 0) 1) (fget bound (Reg.TIME_ALARM_CTRL 7) F.TIME_ALARM_CTRL_TARGET) = some 0 ∧
    ctrOf bound (alarmCtr bound 7) < alarmTarget (rset bound (Reg.TIME_ALARM_NS 7) 1) 7 * 2 ^ 28 := by
  unfold serving; decide +kernel

/-! ## Statements on the host interface, power, registers and the machine -/

/-- Queue 1023 runs for acquisition or spill (`client`), with one descriptor posted and a message waiting. -/
def queued (client : Nat) : State :=
  let s := fset (fset bound (qStatus 1023) F.DMAQ_STATUS_STATE 1) (qTail 1023) F.DMAQ_TAIL_TAIL 1
  { fsets s (qCfg 1023) [(F.DMAQ_CFG_CLIENT, client), (F.DMAQ_CFG_DIR, 1), (F.DMAQ_CFG_RING_LOG2, 3)] with
    toHost := [(1023, [⟨[1, 2], true⟩])] }

theorem witness_DmaQueuesFollowTheirRules :
    let v := fldSet (fldSet (fldSet (fldSet 0 F.DMAQ_CFG_RING_LOG2 16) F.DMAQ_CFG_CLIENT 3) F.DMAQ_CFG_DIR 1) F.DMAQ_CFG_EN 1
    let d : DmaDone := ⟨0, 0, true, 2, true, false⟩
    qState bound 1023 = 0 ∧ qCfgOk 1023 16 v = true ∧ qCfgOk 1023 16 0 = false ∧ qState (queued 3) 1023 = 1 ∧
    (getDma (queued 3) 1023).current = none ∧ (getDma (setDma (queued 3) 1023 { current := some d }) 1023).current = some d ∧
    qState (fset bound (qStatus 1023) F.DMAQ_STATUS_STATE 3) 1023 ≠ 0 ∧ 0 < dmaPending (queued 3) 1023 ∧
    descBadFields 3 ⟨0, 0x2000000, 0, 0⟩ = true ∧ descBadFields 3 ⟨0xFFFFFFFFFF, 0x5FFFFFF, 0, 0⟩ = false ∧
    inPeerWindow (queued 3) 0xFFFFFFFFFF 0x1000000 = false ∧ qClient (queued 3) 1023 = 3 ∧ qClient (queued 4) 1023 = 4 ∧
    hostQueue (queued 3) 1023 = ⟨[1, 2], true⟩ :: [] ∧
    (8 + 2 ^ 17 - fget bound (qHead 1023) F.DMAQ_HEAD_HEAD) % 2 ^ 17 ≤ 2 ^ fget (queued 3) (qCfg 1023) F.DMAQ_CFG_RING_LOG2 ∧
    2 ^ fget (queued 3) (qCfg 1023) F.DMAQ_CFG_RING_LOG2 < (9 + 2 ^ 17 - fget bound (qHead 1023) F.DMAQ_HEAD_HEAD) % 2 ^ 17 := by
  decide +kernel

/-- Queue 1023 takes restore data for partition 15, which does not run, with one descriptor posted. -/
def restoring : State :=
  fsets (fset (fset bound (qStatus 1023) F.DMAQ_STATUS_STATE 1) (qTail 1023) F.DMAQ_TAIL_TAIL 1) (qCfg 1023)
    [(F.DMAQ_CFG_CLIENT, 5), (F.DMAQ_CFG_RING_LOG2, 3)]

-- No key of the module has ID 7, so no object opens; nor does one under a key that is there, when it is empty.
theorem witness_RestoredObjectsFail :
    let d : DmaDesc := ⟨0x1000, 0x1000FFF, 0, 0⟩
    qState restoring 1023 = 1 ∧ (getDma restoring 1023).current = none ∧ 0 < dmaPending restoring 1023 ∧
    descBadFields 5 d = false ∧ inPeerWindow restoring 0x1000 0x1000 = false ∧ qClient restoring 1023 = 5 ∧
    partRunning restoring 15 = false ∧ descEom d = true ∧
    (engineRead restoring (getPart restoring 15).ckptAt 64 .clean).2 = 0 ∧ keyById restoring 7 = none ∧
    (∀ k, openObject k 0 0 [] = none) := by
  refine ⟨?_, ?_, ?_, ?_, ?_, ?_, ?_, ?_, ?_, ?_, fun k => rfl⟩ <;> decide +kernel

theorem witness_InboundRequestsAndPeersFollowTheirRules :
    partState bound 0 = 2 ∧ partState bound 15 ≠ 2 ∧ isPeer bound (.rid 5) = false ∧ inIdPage 0x3FEFFF = false ∧
    inIdPage 0x3FF000 = true ∧
    (∀ b ∈ [true, false], blockAsleep { bound with power := { weaveOn := b } } (bar0 + 0) = false) ∧
    fbit bound Reg.PCI_HOSTERR F.PCI_HOSTERR_VALID = false ∧
    fbit (fset bound Reg.PCI_HOSTERR F.PCI_HOSTERR_VALID 1) Reg.PCI_HOSTERR F.PCI_HOSTERR_VALID = true := by decide +kernel

/-- Channel `c` with direction `d` held under token 3, and FULL or not. -/
def posted (c : Nat) (d : MbxDir) (full : Nat) : State :=
  fset (fsets bound (mbxLock c d) [(F.MBX_H2M_LOCK_HELD, 1), (F.MBX_H2M_LOCK_TOKEN, 3)]) (mbxCtrl c d) F.MBX_H2M_CTRL_FULL full

theorem witness_MailboxChannelsFollowTheirRules :
    MbxSide.module ≠ mbxSender .h2m ∧ MbxSide.host = mbxSender .h2m ∧ mbxHeld bound 63 .h2m = false ∧
    mbxHeld (posted 63 .h2m 1) 63 .h2m = true ∧ fget (posted 63 .h2m 1) (mbxLock 63 .h2m) F.MBX_H2M_LOCK_TOKEN = 3 ∧
    mbxFull (posted 63 .h2m 0) 63 .h2m = false ∧ mbxFull (posted 63 .h2m 1) 63 .h2m = true ∧ mbxFull bound 56 .h2m = false ∧
    (let s := fset (posted 8 .m2h 1) (mbxCtrl 8 .h2m) F.MBX_H2M_CTRL_FULL 1
     mbxFull s 8 .h2m = true ∧ mbxFull s 8 .m2h = true ∧ fbit s (Reg.MBX_STATUS 8) F.MBX_STATUS_CROSSED = false) ∧
    odServing State.reset = false ∧
    (let s := rset (rset (fset (posted 8 .h2m 1) (mbxCtrl 8 .h2m) F.MBX_H2M_CTRL_COUNT_M1 2) (Reg.MBX_H2M_DATA 8 0) 0xC0FF0008)
       (Reg.MBX_H2M_DATA 8 1) 0x30
     let n := fget s (Reg.MBX_H2M_CTRL 8) F.MBX_H2M_CTRL_COUNT_M1
     let bytes := ((List.range n).flatMap fun i => leBytes 4 (rget s (Reg.MBX_H2M_DATA 8 (i + 1))).toNat).take 8
     odServing s = true ∧ mbxFull s 8 .h2m = true ∧ (∀ p, chanPart 8 = some p → partState s p = 2) ∧ (8 + 3) / 4 = n ∧
     rget s (Reg.MBX_H2M_DATA 8 0) = BitVec.ofNat 32 (0xC0000000 + 255 * 65536 + 8) ∧ (getMbx s 8).parts = none ∧
     (getMbx s 8).discard = false ∧ (getMbx s 8).waiting = [] ∧ (getMbx s 8).replies = [] ∧ leAt bytes 0 1 = 0x30 ∧
     mbxHeld s 8 .m2h = false ∧ mbxFull s 8 .m2h = false) := by decide +kernel

/-- A session of the module owner on channel 7, and its ECHO of no bytes with SEQ 5, sealed. -/
def mbxSession : Session := { number := 9, part := none, high := 5, next := 3 }
def sealedEcho : List Byte :=
  let head := leBytes 4 0x30 ++ leBytes 4 5
  head ++ toBytes (gcmTag (sessionKey mbxSession) (natLE 4 9 ++ natLE 4 0 ++ natLE 4 5) (ofBytes head) [])

/-- Channel `c` holds a request of `bytes`, in one message with TAG 255. -/
def requested (c : Nat) (bytes : List Byte) : State :=
  let n := (bytes.length + 3) / 4
  let s := rset (fset (posted c .h2m 1) (mbxCtrl c .h2m) F.MBX_H2M_CTRL_COUNT_M1 n) (Reg.MBX_H2M_DATA c 0)
    (BitVec.ofNat 32 (0xC0000000 + 255 * 65536 + bytes.length))
  (List.range n).foldl (fun s i => rset s (Reg.MBX_H2M_DATA c (i + 1)) (BitVec.ofNat 32 (leAt bytes (4 * i) 4))) s

/-- The bytes that channel `c` shows. -/
def shown (s : State) (c total : Nat) : List Byte :=
  ((List.range (fget s (Reg.MBX_H2M_CTRL c) F.MBX_H2M_CTRL_COUNT_M1)).flatMap fun i =>
    leBytes 4 (rget s (Reg.MBX_H2M_DATA c (i + 1))).toNat).take total

theorem witness_SecureChannels :
    let hello := requested 7 (leBytes 4 1 ++ leBytes 4 0 ++ leBytes 4 1)
    let echo := setMbx (requested 7 sealedEcho) 7 { session := some mbxSession }
    shown hello 7 12 = leBytes 4 1 ++ leBytes 4 0 ++ leBytes 4 1 ∧ (getMbx hello 7).session = none ∧
    mbxFull hello 7 .h2m = true ∧ odServing hello = true ∧ leAt (shown hello 7 12) 0 1 = 1 ∧
    (getMbx echo 7).session = some mbxSession ∧ shown echo 7 24 = sealedEcho ∧ openSealed mbxSession sealedEcho = some [] ∧
    leAt sealedEcho 0 1 = 0x30 ∧ leAt sealedEcho 4 4 = 5 ∧ mbxSession.high < 5 + 32 ∧ mbxSession.stored = [] ∧
    openSealed mbxSession (sealedEcho.take 23 ++ [0]) = none ∧ openSealed mbxSession [] = none := by decide +kernel

theorem witness_PowerComesAndGoes :
    let on := fset bound Reg.PWR_STATUS F.PWR_STATUS_VIN_OK 1
    fbit (fset bound Reg.PWR_STATUS F.PWR_STATUS_VIN_OK 0) Reg.PWR_STATUS F.PWR_STATUS_VIN_OK = false ∧ fbit on Reg.PWR_STATUS F.PWR_STATUS_VIN_OK = true ∧
    State.reset.power.porstLow = true ∧ ({ on with power := { porstLow := false } } : State).power.porstLow = false ∧
    fbit on Reg.PWR_STATUS F.PWR_STATUS_WARN = false ∧ leased State.reset = false ∧ leased on = true ∧ on.logQueue = [] ∧
    (0 < ({ used := 1023 } : LogFlash).used ∧ ({ used := 1023 } : LogFlash).used < 1024) ∧
    fbit (fset on Reg.PWR_STATUS F.PWR_STATUS_WARN 1) Reg.PWR_STATUS F.PWR_STATUS_WARN = true := by decide +kernel

theorem witness_StagesOfAStartAreReached :
    let at_ := fun (n : Nat) => fset bound Reg.PWR_STATUS F.PWR_STATUS_STAGE n
    let s : State := { at_ 0 with power := { started := true, tack := true, latch := 3, refclkSeen := true } }
    State.reset.power.refclkSeen = false ∧ s.power.refclkSeen = true ∧ s.power.refclkGone = false ∧
    fbit s Reg.PWR_STATUS F.PWR_STATUS_REFCLK_OK = true ∧
    fbit (fset s Reg.PWR_STATUS F.PWR_STATUS_REFCLK_OK 0) Reg.PWR_STATUS F.PWR_STATUS_REFCLK_OK = false ∧ runState s 0 = 2 ∧
    leased s = true ∧ s.power.tack = true ∧ fget s Reg.PWR_STATUS F.PWR_STATUS_STAGE = 0 ∧ oget s Od.START_STAGE = 0 ∧
    oget s Od.START_FAULTS = 0 ∧ s.power.latch ≠ 0 ∧ State.reset.power.started = false ∧
    fget (at_ 1) Reg.PWR_STATUS F.PWR_STATUS_STAGE = 1 ∧
    (∀ part, part < 9 → hottest (at_ 1) part < oget (at_ 1) Od.THERM_SLOW * 16) ∧ dieOut (at_ 1) 3 = false ∧
    ¬ hottest (fset (at_ 1) (Reg.SNS_TEMP 0 0) F.SNS_TEMP_VALUE 1600) 0 < oget (at_ 1) Od.THERM_SLOW * 16 := by decide +kernel

theorem witness_RailsCreditsAndBrakesFollowTheirRules :
    0 < phasesLeft bound 4 ∧ phasesLeft { bound with power := { phases := [(4, 6)] } } 4 = 0 ∧
    min 8 (phasesLeft bound 3) * 1000 = 8000 := by decide +kernel

theorem witness_CapTripsAndShutdownFollowTheirRules :
    let hot := fun (v : Nat) => fset bound (Reg.SNS_HBM_TEMP 3) F.SNS_TEMP_VALUE v
    let down : State := { bound with power := { thermalDown := true, weaveOn := true } }
    leased bound = true ∧ fget bound Reg.PWR_STATUS F.PWR_STATUS_STAGE ≠ 0 ∧ leased State.reset = false ∧
    oget bound Od.POWER_CAP < inputPower { bound with power := { wattSum := 800 * 100000, wattCount := 1 } } ∧
    (∀ x, x < 9 → slowed bound x = false ∧ hottest bound x < slowAt bound x) ∧
    1840 ≤ hottest (hot 1840) 8 ∧ hottest (hot 1839) 8 < 1840 ∧ hottest (hot 1760) 8 ≤ 1760 ∧ 1760 < hottest (hot 1761) 8 ∧
    8 ∉ bound.power.trips ∧ bound.power.thermalDown = false ∧ 2000 ≤ hottest (hot 2000) 8 ∧ partState bound 0 ≠ 0 ∧
    down.power.thermalDown = true ∧ down.power.weaveOn = true ∧
    (let s := oset bound Od.GATE_IDLE 1
     leased s = true ∧ oget s Od.GATE_IDLE = 1 ∧ (∀ c ∈ blockClusters 63, participating s c = false) ∧ domState s 63 = 0 ∧
     domState (fset s (Reg.NOC_DOM 63) F.NOC_DOM_STATE 4) 63 = 4 ∧ ∀ c ∈ blockClusters 63, clRun s c = false) := by decide +kernel

/-- Of Obligations.CapTripsAndShutdownFollowTheirRules: in an implementation whose limiting cycle a reading reaches. -/
theorem witness_YokeLimits (h : Config.yokeCycle ≤ 65535) :
    let s := fsets bound (Reg.SNS_DLYMON_YOKE 1) [(F.SNS_DLYMON_VALID, 1), (F.SNS_DLYMON_TSTITCH, 65535)]
    yokeLimited s = true ∧ slowed s 4 = false ∧ hottest s 4 < slowAt s 4 ∧
    495 ≤ fget s (Reg.PWR_VCORE 4) F.PWR_VCORE_TARGET ∧ fget s (Reg.PWR_VCORE 4) F.PWR_VCORE_TARGET ≤ 895 := by
  refine ⟨?_, by decide +kernel⟩
  have h1 : monitorReg 4 1 = some (Reg.SNS_DLYMON_YOKE 1) := by decide +kernel
  have h2 : fbit (fsets bound (Reg.SNS_DLYMON_YOKE 1) [(F.SNS_DLYMON_VALID, 1), (F.SNS_DLYMON_TSTITCH, 65535)])
    (Reg.SNS_DLYMON_YOKE 1) F.SNS_DLYMON_VALID = true := by decide +kernel
  have h3 : fget (fsets bound (Reg.SNS_DLYMON_YOKE 1) [(F.SNS_DLYMON_VALID, 1), (F.SNS_DLYMON_TSTITCH, 65535)])
    (Reg.SNS_DLYMON_YOKE 1) F.SNS_DLYMON_TSTITCH = 65535 := by decide +kernel
  unfold yokeLimited
  rw [List.any_eq_true]
  exact ⟨1, by decide, by rw [h1]; simp only [h2, h3]; simpa using h⟩

theorem witness_RateControlFollowsItsOrder :
    let at_ := fun (mv : Nat) => fset bound (Reg.PWR_VCORE 0) F.PWR_VCORE_TARGET mv
    let meas := fun (s : State) (ps : Nat) => fsets s (Reg.SNS_DLYMON 0 0) [(F.SNS_DLYMON_VALID, 1), (F.SNS_DLYMON_TSTITCH, ps)]
    let head := fun (s : State) (w : Nat) => fsets s Reg.PWR_HEADROOM [(F.PWR_HEADROOM_VALID, 1), (F.PWR_HEADROOM_W, w)]
    (getDie (setDie bound 0 { meter := some 3 }) 0).meter = some 3 ∧ lowestCount swept 0 = some 0 ∧
    monitorReg 3 31 = some (Reg.SNS_DLYMON 3 31) ∧ monitorReg 4 2 = none ∧ fbit bound (Reg.SNS_DLYMON 3 31) F.SNS_DLYMON_CAL = false ∧
    fbit (fset bound (Reg.SNS_DLYMON 3 31) F.SNS_DLYMON_CAL 1) (Reg.SNS_DLYMON 3 31) F.SNS_DLYMON_CAL = true ∧
    leased bound = true ∧ dieOut bound 0 = false ∧ 2 ≤ fget bound Reg.PWR_STATUS F.PWR_STATUS_STAGE ∧
    dieRuns bound 1 = false ∧ bound.power.ran.contains 1 = false ∧ dieCarved bound 1 = false ∧ dieRuns bound 0 = true ∧
    dieCarved bound 0 = true ∧ fget (at_ 500) (Reg.PWR_VCORE 0) F.PWR_VCORE_TARGET = 5 * 100 ∧
    fget (at_ 900) (Reg.PWR_VCORE 0) F.PWR_VCORE_TARGET = 5 * 180 ∧ slowed bound 0 = false ∧
    slowed { bound with power := { slow := [0] } } 0 = true ∧ headroomBelow (head bound 0x8000) = true ∧
    headroomBelow (head bound 0) = false ∧ headroomNone (head bound 0) = true ∧ headroomNone bound = false ∧
    predictedRate bound 0 = 0 ∧ creditStalled bound 0 = false ∧
    creditStalled (fset (setDie bound 0 { credits := [(0, 0)] }) (Reg.PWR_CREDIT 0) F.PWR_CREDIT_REFILL 999) 0 = true ∧
    predictedRate (meas bound 1000) 0 = 1000 ∧ predictedRate (meas bound 1000) 0 < oget (oset bound Od.RATE_TARGET 1001) Od.RATE_TARGET ∧
    oget (oset bound Od.RATE_TARGET 900) Od.RATE_TARGET * 103 < predictedRate (meas bound 1000) 0 * 100 ∧
    predictedRate (meas bound 1000) 0 * 100 ≤ oget (oset bound Od.RATE_TARGET 1000) Od.RATE_TARGET * 103 ∧
    oget bound Od.RATE_POLICY = 0 := by decide +kernel

theorem witness_RegistersAreReadAndWritten :
    blockAsleep bound (Reg.BP_ECYCLE_LO 3 15) = true ∧
    blockAsleep { bound with power := { weaveOn := true } } (Reg.BP_ECYCLE_LO 3 15) = false ∧
    Reg.BP_ECYCLE_LO 3 15 + 4 < 2 ^ 49 ∧ Reg.MBX_DROPPED_CNT 63 < 2 ^ 49 ∧ holder bound = some 0 ∧ holder bound ≠ some 1 ∧
    Reg.PCI_EVENT ≠ Reg.COL_SELF ∧ chanFn 63 = 0 ∧ chanFn 8 ≠ 0 ∧ fldGet (fldSet 0 F.MBX_VEC_VEC 15) F.MBX_VEC_VEC ≤ 15 ∧
    15 < fldGet (fldSet 0 F.MBX_VEC_VEC 16) F.MBX_VEC_VEC ∧ mbxFull (posted 63 .h2m 0) 63 .h2m = false ∧
    mbxHeld (posted 63 .h2m 0) 63 .h2m = true ∧ fldGet (1 : Word) F.COL_SELF_RENEW = 0 := by decide +kernel

theorem witness_IdlePeriodsFollowTheClock :
    bound.pending = [] ∧ bound.power.closing = false ∧ fbit bound Reg.PWR_STATUS F.PWR_STATUS_REFCLK_OK = true ∧
    fbit State.reset Reg.PWR_STATUS F.PWR_STATUS_REFCLK_OK = false ∧ bound.mirrorWait = [] ∧ bound.time.slewA = 0 ∧
    bound.time.slewB = 0 ∧ bound.hem.fifo = [] ∧ hemPortOn bound = false ∧ (getEth bound 1).queue = [] ∧ ∀ c, c < 64 → (getMbx bound c).waiting = [] := by
  decide +kernel

theorem witness_MemoryKeepsItsForm :
    memoryWf State.reset ∧ (match step State.reset with | .next t => decide (t.ticks = 1) | _ => false) = true := by
  unfold memoryWf; decide +kernel

/-! ## Words written out from the layouts, and ill-formed commands -/

theorem test_words_decode :
    decodeBp 0xE000000000000000#64 = .nop ∧ decodeBp 0xE100000000000015#64 = .setpg 0x15 ∧
    decodeBp 0xE2000000000000C3#64 = .brk true 0x43 ∧ decodeBp 0xE300000000ABCD05#64 = .mark 0xABCD false 5 ∧
    decodeBp 0x2000002020181200#64 = .lut 0x8000 1 2 3 4 true false ∧
    decodeBp 0x403FFFE000021234#64 = .luts 0x00FF 0x1FF 0 0 false true 0x1234 ∧
    decodeBp 0xC000020000400000#64 = .drd 1 0 2 false 0 ∧ decodeBp 0xC30000000000002C#64 = .dwr 0x8000 0 0 false 0 5 true ∧
    decodeBp 0xC7FFC00000000000#64 = .stsw 0x7FF 0 false 0 ∧ decodeBp 0xC400602000000000#64 = .ldsw 1 0x202 := by decide

theorem witness_InstructionWordsRoundTrip :
    slotIllegal 0xE000000000000000#64 = false ∧ slotIllegal 0x2000002020181200#64 = false ∧
    slotIllegal 0x8000808020000000#64 = false := ⟨by decide, by decide, by decide⟩

theorem test_ill_formed_commands_are_refused :
    (Instr.brgSpareWrite 1 1 0 false 0).wf = false ∧ (Instr.brgSpareWrite 0 0 23 false 0).wf = false ∧
    (Instr.brgSpareWrite 0 0 7 false 0).wf = true := by decide

theorem test_frames_of_another_length_are_refused : (Instr.haltFrame 0 0 0x90000 [] true).wf = false := by decide

theorem test_no_word_spells_a_command : decodeTableWord 64 5 = none ∧ State.reset.withFetchWord 64 5 = State.reset := by
  decide +kernel

theorem test_missing_spare_faults :
    (match exec (.brgSpareWrite 1 1 0 false 0) State.reset with | .fault f => decide (f = .noSuchUnit) | _ => false) = true := by
  decide +kernel

end Sys2Proof.Tests
end

section
/-! The stitch of a cluster (02): what its operations leave of the window, the results and the DW pointers, and what the statements
on results, windows and DW writes follow from. -/

namespace Sys2Proof.Machine

open Sys2Proof.Safety

/-! ## Where a cluster stands in its sweep, and the stitch in progress -/

/-- A cluster's place in its sweep and its window (R40, R41), apart from all else it holds. -/
def sweepWindow (k : Cluster) : Cluster :=
  { stitch := k.stitch, inSweep := k.inSweep, win0 := k.win0, win1 := k.win1, win2 := k.win2, win3 := k.win3 }

/-- The window, the results of the stitch in progress and the DW pointers: what waits, returns, faults and records leave alone. -/
def stitchPart (k : Cluster) : Cluster :=
  { sweepWindow k with cur := k.cur, ran := k.ran, dwptr := k.dwptr }

/-- Every cluster's `sweepWindow` is as before. -/
structure WindowKept (s t : State) : Prop where
  window : ∀ i, sweepWindow (getCl t i) = sweepWindow (getCl s i)

/-- Every cluster's `stitchPart` is as before. -/
structure StitchKept (s t : State) : Prop where
  part : ∀ i, stitchPart (getCl t i) = stitchPart (getCl s i)

theorem StitchKept.refl (s : State) : StitchKept s s := ⟨fun _ => rfl⟩

theorem StitchKept.trans {s t u : State} (h : StitchKept s t) (h' : StitchKept t u) : StitchKept s u :=
  ⟨fun i => (h'.part i).trans (h.part i)⟩

theorem WindowKept.trans {s t u : State} (h : WindowKept s t) (h' : WindowKept t u) : WindowKept s u :=
  ⟨fun i => (h'.window i).trans (h.window i)⟩

theorem StitchKept.windowKept {s t : State} (h : StitchKept s t) : WindowKept s t :=
  ⟨fun i => (congrArg sweepWindow (h.part i) :)⟩

section
variable {s t : State} (h : StitchKept s t) (i : Nat)
include h

theorem StitchKept.inSweep : (getCl t i).inSweep = (getCl s i).inSweep := (congrArg Cluster.inSweep (h.part i) :)
theorem StitchKept.cur : (getCl t i).cur = (getCl s i).cur := (congrArg Cluster.cur (h.part i) :)
theorem StitchKept.ran : (getCl t i).ran = (getCl s i).ran := (congrArg Cluster.ran (h.part i) :)
theorem StitchKept.dwptr : (getCl t i).dwptr = (getCl s i).dwptr := (congrArg Cluster.dwptr (h.part i) :)

end

theorem StitchKept.of_clusters {s t : State} (h : t.clusters = s.clusters) : StitchKept s t :=
  ⟨fun i => by simp only [getCl, h]⟩

theorem StitchKept.ite {p : Prop} [Decidable p] {s t u : State} (ht : StitchKept s t) (hu : StitchKept s u) :
    StitchKept s (if p then t else u) := by
  split <;> assumption

/-- Replacing one cluster by one that agrees with it in `f` leaves `f` of every cluster alone. -/
theorem forall_getCl_setCl {f : Cluster → Cluster} {s : State} {i : Nat} {k : Cluster} (h : f k = f (getCl s i)) (j : Nat) :
    f (getCl (setCl s i k) j) = f (getCl s j) := by
  by_cases hij : i = j
  · subst hij; rw [getCl_setCl_same, h]
  · rw [getCl_setCl_ne _ _ _ _ hij]

/-- A cluster replaced by one with the same `stitchPart`, and changes beside the clusters. -/
theorem StitchKept.of_setCl {s t : State} {i : Nat} {k : Cluster} (hc : t.clusters = (setCl s i k).clusters)
    (hk : stitchPart k = stitchPart (getCl s i)) : StitchKept s t :=
  StitchKept.trans ⟨forall_getCl_setCl hk⟩ (.of_clusters hc)

/-- A fold of operations that leave the stitch in progress alone leaves it alone. -/
theorem StitchKept.foldl {β : Type} {f : State → β → State} (hf : ∀ s b, StitchKept s (f s b)) (l : List β) (s : State) :
    StitchKept s (l.foldl f s) := by
  induction l generalizing s with
  | nil => exact .refl s
  | cons b l ih => exact (hf s b).trans (ih _)

theorem WindowKept.foldl {β : Type} {f : State → β → State} (hf : ∀ s b, WindowKept s (f s b)) (l : List β) (s : State) :
    WindowKept s (l.foldl f s) := by
  induction l generalizing s with
  | nil => exact ⟨fun _ => rfl⟩
  | cons b l ih => exact (hf s b).trans (ih _)

/-- A fold of operations that leave the clusters alone leaves them alone. -/
theorem clusters_foldl {β : Type} {f : State → β → State} (hf : ∀ s b, (f s b).clusters = s.clusters) (l : List β)
    (s : State) : (l.foldl f s).clusters = s.clusters := by
  induction l generalizing s with
  | nil => rfl
  | cons b l ih => exact (ih _).trans (hf s b)

theorem clusters_ite {p : Prop} [Decidable p] {s t u : State} (ht : t.clusters = s.clusters) (hu : u.clusters = s.clusters) :
    (if p then t else u).clusters = s.clusters := by
  split <;> assumption

/-! ## What leaves every cluster alone -/

@[simp] theorem showProgress_clusters (s : State) (c : ClusterId) : (showProgress s c).clusters = s.clusters := by
  simp [showProgress]

@[simp] theorem hemLose_clusters (s : State) : (hemLose s).clusters = s.clusters := by simp [hemLose]

@[simp] theorem hemFifo_clusters (s : State) (pkt : HemPacket) : (hemFifo s pkt).clusters = s.clusters := by
  unfold hemFifo; split <;> simp

@[simp] theorem hemProbe_clusters (s : State) (w : Nat) (pkt : HemPacket) : (hemProbe s w pkt).clusters = s.clusters := by
  unfold hemProbe; dsimp only; split <;> simp

@[simp] theorem hemWatchPacket_clusters (s : State) (w e : Nat) (pkt : HemPacket) :
    (hemWatchPacket s w e pkt).clusters = s.clusters := by
  unfold hemWatchPacket; dsimp only
  rw [hemProbe_clusters]
  split <;> simp

theorem hemWatchStitch_clusters (s : State) (w p : Nat) (k : Cluster) (r : Word) (n : Nat) (stall : Option Nat) :
    (hemWatchStitch s w p k r n stall).clusters = s.clusters := by
  unfold hemWatchStitch
  extract_lets cfg drawn stalled counted t
  have hstalled : stalled.clusters = s.clusters := by
    subst stalled
    split
    · exact clusters_ite (clusters_ite (hemWatchPacket_clusters ..) rfl) rfl
    · rfl
  have hsplit : counted.clusters = s.clusters := clusters_ite ((hemWatchPacket_clusters ..).trans hstalled) hstalled
  exact clusters_ite ((hemWatchPacket_clusters ..).trans hsplit) hsplit

theorem hemStitch_clusters (s : State) (c : ClusterId) (k : Cluster) (r : Word) (n : Nat) (stall : Option Nat) :
    (hemStitch s c k r n stall).clusters = s.clusters := by
  unfold hemStitch
  split
  · split
    · refine clusters_foldl (fun s w => ?_) _ _
      split
      · exact hemWatchStitch_clusters ..
      · rfl
    · rfl
  · rfl

theorem hemMark_clusters (s : State) (c : ClusterId) (e st bp tag : Nat) : (hemMark s c e st bp tag).clusters = s.clusters := by
  unfold hemMark
  split
  · split <;> simp
  · rfl

theorem enterStage_clusters (s : State) (key : Nat) (g : Group) : (enterStage s key g).clusters = s.clusters := by
  unfold enterStage setStage
  split
  · rfl
  · split <;> rfl

theorem sendGroups_clusters (s : State) (c : ClusterId) : (sendGroups s c).clusters = s.clusters := by
  refine clusters_foldl (fun s' j => ?_) _ _
  split
  · rfl
  · exact enterStage_clusters ..

theorem captureDmem_clusters (s : State) (c : ClusterId) (key : IssueKey) (n kind : Nat) :
    (captureDmem s c key n kind).clusters = s.clusters := by
  unfold captureDmem; dsimp only
  split
  · rfl
  · split <;> simp

theorem sendOp_clusters (s : State) (c : ClusterId) (o : DmemOp) : (sendOp s c o).1.clusters = s.clusters := by
  unfold sendOp; dsimp only
  split
  · simp [setTag]
  · rfl

theorem refreshHbmOut_clusters (s : State) (d : Nat) : (refreshHbmOut s d).clusters = s.clusters := by
  unfold refreshHbmOut; dsimp only
  split <;> simp

theorem launchHbm_clusters (s : State) (c : ClusterId) (o : DmemOp) : (launchHbm s c o).clusters = s.clusters := by
  unfold launchHbm
  rw [refreshHbmOut_clusters, setDie_clusters, sendOp_clusters]

theorem writeElem_clusters (s : State) (d : Nat) (x : BitVec 128) (a : Nat) (data mask : Word) :
    (writeElem s d x a data mask).clusters = s.clusters := by
  unfold writeElem elemWrite; dsimp only
  split <;> simp

theorem requestCredit_clusters (s : State) (c : ClusterId) : (requestCredit s c).clusters = s.clusters := by
  unfold requestCredit; dsimp only
  split <;> simp

theorem spoilDesc_clusters (s : State) (c : ClusterId) (i : BpInstr) : (spoilDesc s c i).clusters = s.clusters := by
  unfold spoilDesc; dsimp only
  split <;> simp

theorem markTagFault_clusters (s : State) (c : ClusterId) (j e r : Nat) : (markTagFault s c j e r).clusters = s.clusters := by
  unfold markTagFault
  exact clusters_ite (rset_clusters ..) ((fset_clusters ..).trans ((fsets_clusters ..).trans (rset_clusters ..)))

/-! ## What waits, returns, faults and accesses leave alone -/

theorem captureIllegal_stitchKept (s : State) (c : ClusterId) (b : Nat) : StitchKept s (captureIllegal s c b) :=
  .of_clusters (captureIllegal_clusters s c b)

theorem addPending_stitchKept (s : State) (c : ClusterId) (p : PendingWrite) : StitchKept s (addPending s c p) :=
  .of_setCl rfl rfl

theorem issueRead_stitchKept (s : State) (c : ClusterId) (key : IssueKey) (n a e : Nat) :
    StitchKept s (issueRead s c key n a e) := by
  unfold issueRead
  extract_lets die d zero
  split
  · exact (StitchKept.of_clusters (captureDmem_clusters ..)).trans (addPending_stitchKept ..)
  · split_ifs
    · exact (StitchKept.of_clusters (fadd_clusters ..)).trans (addPending_stitchKept ..)
    · exact addPending_stitchKept ..
    · exact (addPending_stitchKept ..).trans (.of_clusters (launchHbm_clusters ..))

theorem issueWrite_clusters (s : State) (c : ClusterId) (key : IssueKey) (n a : Nat) (data mask : Word) :
    (issueWrite s c key n a data mask).clusters = s.clusters := by
  unfold issueWrite
  extract_lets die d
  split
  · exact captureDmem_clusters ..
  · split_ifs
    · exact fadd_clusters ..
    · exact fadd_clusters ..
    · exact writeElem_clusters ..
    · exact launchHbm_clusters ..

theorem writeStateBit_stitchKept (s : State) (c : ClusterId) (b a : Nat) (v : Bool) : StitchKept s (writeStateBit s c b a v) := by
  refine ⟨fun i => ?_⟩
  by_cases hi : i = c.idx
  · rw [hi, writeStateBit_getCl]; rfl
  · rw [writeStateBit_getCl_ne _ _ _ _ _ _ hi]

theorem landWrite_stitchKept (s : State) (c : ClusterId) (p : PendingWrite) : StitchKept s (landWrite s c p) := by
  unfold landWrite
  extract_lets k keep flags k1 u
  have hu : StitchKept s u := .of_setCl rfl rfl
  split
  · split
    · exact hu.trans (.of_clusters rfl)
    · exact hu
  · exact hu

theorem takeW1_stitchKept (s : State) (c : ClusterId) (p : PendingWrite) : StitchKept s (takeW1 s c p) :=
  (landWrite_stitchKept s c p).trans (.of_setCl rfl rfl)

theorem landDue_stitchKept (s : State) (c : ClusterId) : StitchKept s (landDue s c) := by
  unfold landDue
  extract_lets u k
  have hu : StitchKept s u := .foldl (fun s p => landWrite_stitchKept s c p) _ _
  split
  · exact hu
  · split
    · exact hu.trans (takeW1_stitchKept ..)
    · exact hu

theorem setWaits_stitchKept (s : State) (c : ClusterId) (l : List Nat) : StitchKept s (setWaits s c l) := by
  unfold setWaits
  exact .of_setCl (showProgress_clusters _ _) rfl

theorem review_stitchKept (s : State) (c : ClusterId) : StitchKept s (review s c) := by
  unfold review
  split
  · exact .refl s
  · exact setWaits_stitchKept ..

theorem noteWaits_stitchKept (s : State) (c : ClusterId) (l : List Nat) : StitchKept s (noteWaits s c l) :=
  (StitchKept.of_clusters (requestCredit_clusters s c)).trans ((setWaits_stitchKept ..).trans (.of_setCl rfl rfl))

theorem holdFor_stitchKept (s : State) (c : ClusterId) (kind : Nat) : StitchKept s (holdFor s c kind) := by
  unfold holdFor
  exact .of_setCl (showProgress_clusters _ _) rfl

theorem holdForTag_stitchKept (s : State) (c : ClusterId) (j e r kind : Nat) :
    StitchKept s (holdFor (markTagFault s c j e r) c kind) :=
  (StitchKept.of_clusters (markTagFault_clusters ..)).trans (holdFor_stitchKept ..)

theorem clearRun_stitchKept (s : State) (c : ClusterId) : StitchKept s (clearRun s c) := by
  unfold clearRun
  exact .of_setCl (fset_clusters _ _ _ _) rfl

theorem popHeads_stitchKept (s : State) (c : ClusterId) : StitchKept s (popHeads s c) := by
  unfold popHeads
  extract_lets k js
  refine .of_setCl rfl ?_
  show stitchPart _ = stitchPart k
  generalize k = k
  induction js generalizing k with
  | nil => rfl
  | cons j js ih => exact ih _

/-! ## What an instruction does to the result bits -/

/-- `t` is `s` with the result of BP `b` set to `v`, and changes beside every cluster's stitch in progress. -/
def GivesResult (s t : State) (c : ClusterId) (b : Nat) (v : Bool) : Prop :=
  ∃ u, StitchKept s u ∧ StitchKept (setResult u c b v) t

theorem GivesResult.resultSet {s t : State} {c : ClusterId} {b : Nat} {v : Bool} (h : GivesResult s t c b v) :
    resultSet (getCl s c.idx) (getCl t c.idx) b v := by
  obtain ⟨u, hu, ht⟩ := h
  obtain ⟨-, -, hr, -⟩ := setResult_facts u c b v
  simpa only [Safety.resultSet, hasRun, ht.cur, ht.ran, hu.cur, hu.ran] using hr

theorem GivesResult.windowKept {s t : State} {c : ClusterId} {b : Nat} {v : Bool} (h : GivesResult s t c b v) :
    WindowKept s t := by
  obtain ⟨u, hu, ht⟩ := h
  have hr : WindowKept u (setResult u c b v) := ⟨forall_getCl_setCl rfl⟩
  exact (hu.windowKept.trans hr).trans ht.windowKept

theorem GivesResult.of_before {s u t : State} {c : ClusterId} {b : Nat} {v : Bool} (hu : StitchKept s u)
    (h : GivesResult u t c b v) : GivesResult s t c b v := by
  obtain ⟨w, hw, ht⟩ := h
  exact ⟨w, hu.trans hw, ht⟩

theorem setResult_givesResult {s u : State} (hu : StitchKept s u) (c : ClusterId) (b : Nat) (v : Bool) :
    GivesResult s (setResult u c b v) c b v := ⟨u, hu, .refl _⟩

theorem runWord_givesResult (s : State) (c : ClusterId) (b : Nat) (op : WordOp) (f : WordFields) :
    GivesResult s (runWord s c b op f) c b false := setResult_givesResult (addPending_stitchKept ..) ..

theorem runLdsw_givesResult (s : State) (c : ClusterId) (b : Nat) (swa : BitVec 11) (dwf : BitVec 10) :
    GivesResult s (runLdsw s c b swa dwf) c b false := setResult_givesResult (addPending_stitchKept ..) ..

theorem runDrd_givesResult (s : State) (c : ClusterId) (b : Nat) (desc : BitVec 16) (awf dwf : BitVec 10) (wc : Bool)
    (wb : BitVec 7) : GivesResult s (runDrd s c b desc awf dwf wc wb) c b false :=
  setResult_givesResult (.ite (issueRead_stitchKept ..) (.refl s)) ..

theorem runDwr_givesResult (s : State) (c : ClusterId) (b : Nat) (desc : BitVec 16) (awf dwf : BitVec 10) (wc : Bool)
    (wb : BitVec 7) (mwf : BitVec 10) (me : Bool) : GivesResult s (runDwr s c b desc awf dwf wc wb mwf me) c b false :=
  setResult_givesResult (.ite (.of_clusters (issueWrite_clusters ..)) (.refl s)) ..

theorem runStsw_givesResult (s : State) (c : ClusterId) (b : Nat) (swa : BitVec 11) (swf : BitVec 10) (wc : Bool)
    (wb : BitVec 7) : GivesResult s (runStsw s c b swa swf wc wb) c b false :=
  setResult_givesResult (.ite (.foldl (fun s _ => writeStateBit_stitchKept s c b _ _) _ _) (.refl s)) ..

theorem runSetpg_givesResult (s : State) (c : ClusterId) (b : Nat) (page : BitVec 6) :
    GivesResult s (runSetpg s c b page) c b false := ⟨s, .refl s, .of_setCl rfl rfl⟩

theorem runBrk_givesResult (s : State) (c : ClusterId) (b : Nat) (u : Bool) (i : BitVec 7) :
    GivesResult s (runBrk s c b u i) c b false :=
  ⟨s, .refl s, .ite (.of_setCl (fset_clusters ..) rfl) (.refl _)⟩

theorem runMark_givesResult (s : State) (c : ClusterId) (b : Nat) (tag : BitVec 16) (u : Bool) (i : BitVec 7) :
    GivesResult s (runMark s c b tag u i) c b false := by
  refine ⟨s, .refl s, .of_clusters ?_⟩
  unfold runMark
  extract_lets r k
  refine clusters_ite ?_ rfl
  split
  · exact clusters_ite (hemMark_clusters ..) ((hemMark_clusters ..).trans (setPart_clusters ..))
  · rfl

/-- A BP that executes a WORD, MEM or CTRL stitch writes 0 as its result bit (R39). -/
theorem runBp_givesResult {s : State} {c : ClusterId} {b : Nat} (hl : isLut (instrAt s c b) = false)
    (hs : isLuts (instrAt s c b) = false) : GivesResult s (runBp s c b) c b false := by
  unfold runBp
  extract_lets w u
  have hu : StitchKept s u := .ite (captureIllegal_stitchKept ..) (.refl s)
  change isLut (decodeBp w) = false at hl
  change isLuts (decodeBp w) = false at hs
  refine .of_before hu ?_
  cases hi : decodeBp w with
  | lut => simp [hi, isLut] at hl
  | luts => simp [hi, isLuts] at hs
  | word => exact runWord_givesResult ..
  | drd => exact runDrd_givesResult ..
  | dwr => exact runDwr_givesResult ..
  | ldsw => exact runLdsw_givesResult ..
  | stsw => exact runStsw_givesResult ..
  | setpg => exact runSetpg_givesResult ..
  | brk => exact runBrk_givesResult ..
  | mark => exact runMark_givesResult ..
  | nop => exact setResult_givesResult (.refl u) ..
  | dfence => exact setResult_givesResult (.refl u) ..
  | reserved => exact setResult_givesResult (.refl u) ..

/-- The command of a ready BP whose instruction is neither LUT nor LUTS sets its result bit to 0 (R39). -/
theorem runOne_writesZero {s : State} {c : ClusterId} {b : Fin 32} {i : BpInstr} (is : BpInstr → Bool)
    (h : stitchReady s c b i) (hi : is i = true)
    (hm : isMemOp i = false ∨ ∀ a, a < b.val → hasRun (getCl s c.idx) a = true ∨ isMemOp (instrAt s c a) = false)
    (hl : isLut i = false) (hs : isLuts i = false) :
    resultSet (getCl s c.idx) (getCl (runOne s c b.val is false) c.idx) b.val false := by
  have hat : instrAt s c b.val = i := runBp_ready h
  rw [runOne_ready is h hi hm]
  exact (runBp_givesResult (by rwa [hat]) (by rwa [hat])).resultSet

/-! ## LUT and LUTS -/

/-- An operand depends on memory, Warp schedule memory and the clusters alone. -/
theorem operandBit_getCl_congr {s u : State} (hmem : u.mem = s.mem) (hcl : u.clusters = s.clusters) (hws : u.wsched = s.wsched)
    (c : ClusterId) (b : Nat) (sel : BitVec 9) :
    operandBit u c (getCl u c.idx) b sel = operandBit s c (getCl s c.idx) b sel := by
  rw [operandBit_congr s u c _ b sel hmem hws]
  simp only [getCl, hcl]

/-- A LUT stitch has the effect of its result (R45): the truth table's bit at its four operands. -/
theorem runBp_lut {s : State} {c : ClusterId} {b : Nat} {tt : BitVec 16} {x y z w : BitVec 9} {sw dw : Bool}
    (h : instrAt s c b = .lut tt x y z w sw dw) :
    let o := operandBit s c (getCl s c.idx) b
    lutEffect s (runBp s c b) c b (lutBit tt (o x) (o y) (o z) (o w)) sw dw := by
  intro o
  unfold runBp
  extract_lets w u
  obtain ⟨hmem, hcl, hws⟩ : u.mem = s.mem ∧ u.clusters = s.clusters ∧ u.wsched = s.wsched := illegal_if ..
  have ho : ∀ sel, operandBit u c (getCl u c.idx) b sel = o sel := operandBit_getCl_congr hmem hcl hws c b
  rw [show decodeBp w = _ from h]
  simp only [runLut, ho]
  exact lutEffect_congr hmem hcl (finishLut_effect ..)

/-- A LUTS stitch has the effect of its result (R46): its fourth operand is the state bit. -/
theorem runBp_luts {s : State} {c : ClusterId} {b : Nat} {tt : BitVec 16} {x y z : BitVec 9} {sw dw : Bool} {a : BitVec 16}
    (h : instrAt s c b = .luts tt x y z sw dw a) :
    let o := operandBit s c (getCl s c.idx) b
    lutEffect s (runBp s c b) c b (lutBit tt (o x) (o y) (o z) (stateBit s c a.toNat)) sw dw := by
  intro o
  unfold runBp
  extract_lets w u
  obtain ⟨hmem, hcl, hws⟩ : u.mem = s.mem ∧ u.clusters = s.clusters ∧ u.wsched = s.wsched := illegal_if ..
  have ho : ∀ sel, operandBit u c (getCl u c.idx) b sel = o sel := operandBit_getCl_congr hmem hcl hws c b
  have hst : stateBit u c a.toNat = stateBit s c a.toNat := by simp only [stateBit, memBit, memByte, hmem]
  rw [show decodeBp w = _ from h]
  simp only [runLuts, ho, hst]
  exact lutEffect_congr hmem hcl (finishLut_effect ..)

/-- The effect of a LUT or LUTS result leaves every window alone. -/
theorem lutEffect_windowKept {s t : State} {c : ClusterId} {b : Nat} {v sw dw : Bool} (h : lutEffect s t c b v sw dw) :
    WindowKept s t := by
  obtain ⟨-, -, -, -, -, hk, hne⟩ := h
  refine ⟨fun i => ?_⟩
  by_cases hi : i = c.idx
  · rw [hi, hk]; rfl
  · rw [hne i hi]

/-- No instruction moves the window, which only the end of its stitch does (R79 order 5). -/
theorem runBp_windowKept (s : State) (c : ClusterId) (b : Nat) : WindowKept s (runBp s c b) := by
  cases hi : instrAt s c b with
  | lut => exact lutEffect_windowKept (runBp_lut hi)
  | luts => exact lutEffect_windowKept (runBp_luts hi)
  | _ => exact (runBp_givesResult (by rw [hi]; rfl) (by rw [hi]; rfl)).windowKept

theorem runRest_windowKept (s : State) (c : ClusterId) : WindowKept s (runRest s c) := by
  refine .foldl (fun s b => ?_) _ s
  split
  · exact ⟨fun _ => rfl⟩
  · exact runBp_windowKept ..

/-! ## The window before stitch 0 -/

/-- A window index of a sweep in progress that reaches before stitch 0 delivers 0 (R41). -/
def ZeroBefore (k : Cluster) : Prop :=
  k.inSweep = true → ∀ i : BitVec 7, k.stitch < i.toNat / 32 + 1 → windowBit k i = false

theorem windowAge_sweepWindow (k : Cluster) (a : Nat) : windowAge (sweepWindow k) a = windowAge k a := by
  unfold windowAge; split <;> rfl

/-- Whether the window is 0 before stitch 0 rests on the place in the sweep and the window alone. -/
theorem zeroBefore_sweepWindow (k : Cluster) : ZeroBefore (sweepWindow k) ↔ ZeroBefore k := by
  unfold ZeroBefore windowBit
  simp only [windowAge_sweepWindow]
  rfl

theorem WindowKept.zeroBefore {s t : State} (h : WindowKept s t) {i : Nat} (hs : ZeroBefore (getCl s i)) :
    ZeroBefore (getCl t i) := by
  rwa [← zeroBefore_sweepWindow, h.window i, zeroBefore_sweepWindow]

/-- A sweep begins with its window cleared. -/
theorem beginSweep_zeroBefore (s : State) (c : ClusterId) : ZeroBefore (getCl (beginSweep s c) c.idx) := by
  intro _ i _
  have hage : ∀ a, windowAge (getCl (beginSweep s c) c.idx) a = 0 := fun a => by
    unfold beginSweep
    rw [getCl_fset, getCl_setCl_same]
    unfold windowAge; split <;> rfl
  simp [windowBit, hage]

theorem gateEnter_zeroBefore {s : State} {c : ClusterId} (h : ZeroBefore (getCl s c.idx)) :
    ZeroBefore (getCl (gateEnter s c) c.idx) := by
  unfold gateEnter; dsimp only
  split
  · exact h
  · split
    · split
      · exact beginSweep_zeroBefore s c
      · exact h
    · exact h

theorem afterGate_stitchKept (s : State) (c : ClusterId) : StitchKept (gateEnter s c) (approach s c) :=
  (landDue_stitchKept ..).trans (review_stitchKept ..)

theorem approach_zeroBefore {s : State} {c : ClusterId} (h : ZeroBefore (getCl s c.idx)) :
    ZeroBefore (getCl (approach s c) c.idx) :=
  (afterGate_stitchKept s c).windowKept.zeroBefore (gateEnter_zeroBefore h)

/-- The place and window of a cluster whose stitch has completed: the results move in at age 0, and each age by 1. -/
def nextWindow (k : Cluster) : Cluster :=
  { stitch := k.stitch + 1, inSweep := k.inSweep, win0 := k.cur, win1 := k.win0, win2 := k.win1, win3 := k.win2 }

theorem completeStitch_window (s : State) (c : ClusterId) :
    sweepWindow (getCl (completeStitch s c) c.idx) = nextWindow (getCl s c.idx) := by
  unfold completeStitch
  extract_lets n k hem stalled counted popped k' done
  have hstalled : stalled.clusters = s.clusters := by
    subst stalled
    split
    · exact (fadd_clusters ..).trans (hemStitch_clusters ..)
    · exact hemStitch_clusters ..
  have hsent : (sendGroups counted c).clusters = s.clusters :=
    (sendGroups_clusters ..).trans ((fadd_clusters ..).trans hstalled)
  have hpopped : StitchKept s popped := (StitchKept.of_clusters hsent).trans (popHeads_stitchKept ..)
  have hdone : sweepWindow (getCl done c.idx) = nextWindow k' := by
    rw [show getCl done c.idx = _ from getCl_setCl_same ..]; rfl
  have hshow : getCl (showProgress done c) c.idx = getCl done c.idx := by simp only [getCl, showProgress_clusters]
  rw [hshow, hdone]
  exact (congrArg nextWindow (hpopped.part c.idx) :)

/-- An age above 0 of the window after a stitch is the age below it of the window before. -/
theorem windowBit_nextWindow (k : Cluster) (i : BitVec 7) (hi : 32 ≤ i.toNat) :
    windowBit (nextWindow k) i = windowBit k (i - 32#7) := by
  have hn : i.toNat = (i - 32#7).toNat + 32 := by bv_omega
  have ha : ∀ a, a ≤ 2 → windowAge (nextWindow k) (a + 1) = windowAge k a := fun a h => by
    match a, h with
    | 0, _ => rfl
    | 1, _ => rfl
    | 2, _ => rfl
  rw [windowBit, windowBit, hn, Nat.add_mod_right, Nat.add_div_right _ (by decide), ha _ (by omega)]

theorem nextWindow_zeroBefore {k : Cluster} (h : ZeroBefore k) : ZeroBefore (nextWindow k) := by
  intro hin i hi
  have hi' : k.stitch + 1 < i.toNat / 32 + 1 := hi
  rw [windowBit_nextWindow k i (by omega)]
  exact h hin _ (by bv_omega)

theorem completeStitch_zeroBefore {s : State} {c : ClusterId} (h : ZeroBefore (getCl s c.idx)) :
    ZeroBefore (getCl (completeStitch s c) c.idx) := by
  rw [← zeroBefore_sweepWindow, completeStitch_window]
  exact nextWindow_zeroBefore h

theorem endStitch_zeroBefore {s : State} {c : ClusterId} (f : StitchFaults) (h : ZeroBefore (getCl s c.idx)) :
    ZeroBefore (getCl (endStitch s c f) c.idx) := by
  unfold endStitch; dsimp only
  split_ifs
  · exact (holdFor_stitchKept ..).windowKept.zeroBefore h
  · exact (holdFor_stitchKept ..).windowKept.zeroBefore h
  · exact h
  · refine StitchKept.windowKept (s := s) ?_ |>.zeroBefore h
    exact (StitchKept.of_clusters (fadd_clusters ..)).trans (.of_setCl rfl (by rw [getCl_fadd]; rfl))
  · exact completeStitch_zeroBefore h

theorem awaitReload_stitchKept (s : State) (c : ClusterId) (n : Nat) :
    StitchKept s (setCl s c.idx { getCl s c.idx with reloads := n :: (getCl s c.idx).reloads }) := .of_setCl rfl rfl

theorem stitch_zeroBefore {s : State} {c : ClusterId} (f : StitchFaults) (h : ZeroBefore (getCl s c.idx)) :
    ZeroBefore (getCl (stitch s c f) c.idx) := by
  unfold stitch
  split
  · exact h
  · extract_lets u k
    have hu : ZeroBefore (getCl u c.idx) := approach_zeroBefore h
    have hkept : ∀ {t}, StitchKept u t → ZeroBefore (getCl t c.idx) := fun ht => ht.windowKept.zeroBefore hu
    split
    · split
      · exact hkept ((awaitReload_stitchKept ..).trans (noteWaits_stitchKept ..))
      · exact hu
    · split
      · exact hkept (noteWaits_stitchKept ..)
      · split
        · exact hkept (holdForTag_stitchKept ..)
        · split
          · exact hkept (noteWaits_stitchKept ..)
          · exact endStitch_zeroBefore f ((runRest_windowKept u c).zeroBefore hu)

theorem runOne_zeroBefore {s : State} {c : ClusterId} (b : Nat) (is : BpInstr → Bool) (bad : Bool)
    (h : ZeroBefore (getCl s c.idx)) : ZeroBefore (getCl (runOne s c b is bad) c.idx) := by
  unfold runOne
  split
  · exact h
  · extract_lets spoilt u before
    have hspoilt : StitchKept s spoilt := .ite (.of_clusters (spoilDesc_clusters ..)) (.refl s)
    have hu : ZeroBefore (getCl u c.idx) := approach_zeroBefore (hspoilt.windowKept.zeroBefore h)
    have hkept : ∀ {t}, WindowKept u t → ZeroBefore (getCl t c.idx) := fun ht => ht.zeroBefore hu
    split
    · exact hkept (noteWaits_stitchKept ..).windowKept
    · split
      · exact hkept (holdForTag_stitchKept ..).windowKept
      · split_ifs
        · exact hkept (noteWaits_stitchKept ..).windowKept
        · exact hu
        · exact hkept (runBp_windowKept ..)

theorem sweepEnd_inSweep {s : State} {c : ClusterId} (hin : (getCl s c.idx).inSweep = true)
    (hlen : sweepLen s c ≤ (getCl s c.idx).stitch) (hpart : participating s c = true) :
    (getCl (sweepEnd s c) c.idx).inSweep = false := by
  unfold sweepEnd
  extract_lets k0 swapped k posted ended closed
  rw [if_pos (by simp [k0, hin, hlen, hpart])]
  have hended : (getCl ended c.idx).inSweep = false := by rw [show getCl ended c.idx = _ from getCl_setCl_same ..]
  have hclosed : StitchKept ended closed := by
    subst closed
    split
    · exact .ite (clearRun_stitchKept ..) (.refl _)
    · exact .refl _
  have hend : StitchKept ended (showProgress closed c) := hclosed.trans (.of_clusters (showProgress_clusters ..))
  rw [hend.inSweep, hended]

/-! ## DWPTR at the start of a sweep -/

/-- A map built by setting each key below `n` reads there what was set. -/
theorem sget_foldl_range (f : Nat → Nat) (n b : Nat) (hb : b < n) :
    sget (fun _ => 0) ((List.range n).foldl (fun m b => sset (fun _ => 0) m b (f b)) ([] : SMap Nat)) b = f b := by
  induction n with
  | zero => omega
  | succ n ih =>
    rw [List.range_succ, List.foldl_append]
    simp only [List.foldl_cons, List.foldl_nil, sget_sset]
    split
    · subst_vars; rfl
    · exact ih (by omega)

/-- A sweep begins with DWPTR at the BP's DWBASE (R49). -/
theorem beginSweep_dwptr (s : State) (c : ClusterId) (b : Nat) (hb : b < 32) :
    sget (fun _ => 0) (getCl (beginSweep s c) c.idx).dwptr b = fget s (Reg.BP_PTRBASE c b) F.BP_PTRBASE_DWBASE := by
  unfold beginSweep
  rw [getCl_fset, getCl_setCl_same]
  exact sget_foldl_range (fun b => fget s (Reg.BP_PTRBASE c b) F.BP_PTRBASE_DWBASE) 32 b hb

theorem beginSweep_inSweep (s : State) (c : ClusterId) : (getCl (beginSweep s c) c.idx).inSweep = true := by
  unfold beginSweep
  rw [getCl_fset, getCl_setCl_same]

theorem gateEnter_begins {s : State} {c : ClusterId} {p : Nat} (hin : (getCl s c.idx).inSweep = false)
    (hpart : participating s c = true) (hp : partOf s c = some p) (hgate : gateAdmits s p (getCl s c.idx).ecycle = true)
    (hhold : (getCl s c.idx).hold = false) : gateEnter s c = beginSweep s c := by
  simp [gateEnter, hin, hp, hpart, hgate, hhold]

/-- A slot that cannot be read holds the cluster for its reload before anything of the stitch runs (R73). -/
theorem stitch_unreadable_stitchKept {s : State} {c : ClusterId} {f : StitchFaults} {phys : Fin 33}
    (hf : f.instrEcc = some phys) (hn : noStitch s c = false) : StitchKept (approach s c) (stitch s c f) := by
  unfold stitch
  rw [hn, if_neg Bool.false_ne_true]
  simp only [hf]
  exact .ite ((awaitReload_stitchKept ..).trans (noteWaits_stitchKept ..)) (.refl _)

/-- The command of a word operation runs that operation. -/
theorem exec_wordCommand (op : WordOp) (c : ClusterId) (b : Fin 32) (s : State) :
    exec (wordCommand op c b) s = .next (runOne s c b.val (isWord op) false) := by
  cases op <;> rfl

/-! ## The statements -/

/-- Settles O6: a ready BP's command runs its instruction, and every instruction but LUT and LUTS gives the result 0. -/
theorem nonLutStitchesWriteZero : Obligations.NonLutStitchesWriteZero := by
  intro s c b zero inOrder
  refine ⟨fun op f h => ?_, fun _ _ _ _ _ h ho => ?_, fun _ _ _ _ _ _ _ h ho => ?_, fun _ _ h => ?_, fun _ _ _ _ h => ?_,
    fun h => ?_, fun _ h => ?_, fun _ _ h => ?_, fun _ _ _ h => ?_, fun h => ?_⟩
  · exact ⟨_, exec_wordCommand op c b s, runOne_writesZero (isWord op) h (by simp [isWord]) (.inl rfl) rfl rfl⟩
  · exact ⟨_, rfl, runOne_writesZero isDrd h rfl (.inr ho) rfl rfl⟩
  · exact ⟨_, rfl, runOne_writesZero isDwr h rfl (.inr ho) rfl rfl⟩
  · exact ⟨_, rfl, runOne_writesZero isLdsw h rfl (.inl rfl) rfl rfl⟩
  · exact ⟨_, rfl, runOne_writesZero isStsw h rfl (.inl rfl) rfl rfl⟩
  · exact ⟨_, rfl, runOne_writesZero isNop h rfl (.inl rfl) rfl rfl⟩
  · exact ⟨_, rfl, runOne_writesZero isSetpg h rfl (.inl rfl) rfl rfl⟩
  · exact ⟨_, rfl, runOne_writesZero isBrk h rfl (.inl rfl) rfl rfl⟩
  · exact ⟨_, rfl, runOne_writesZero isMark h rfl (.inl rfl) rfl rfl⟩
  · exact ⟨_, rfl, runOne_writesZero isDfence h rfl (.inl rfl) rfl rfl⟩

/-- Settles O11: a sweep begins with its window cleared, only a stitch's completion moves it, and by one age. -/
theorem windowsCarryNothingFromTheSweepBefore : Obligations.WindowsCarryNothingFromTheSweepBefore := by
  intro s c zeroBefore
  refine ⟨fun f h => ⟨_, rfl, stitch_zeroBefore f h⟩, fun b => ?_, fun b op h => ?_,
    fun hin hlen hpart => ⟨_, rfl, sweepEnd_inSweep hin hlen hpart⟩⟩
  · have run : ∀ is bad, zeroBefore (getCl s c.idx) → zeroBefore (getCl (runOne s c b.val is bad) c.idx) :=
      fun is bad h => runOne_zeroBefore b.val is bad h
    simp only [List.forall_mem_cons, List.not_mem_nil, false_implies, implies_true, and_true]
    refine ⟨?_, ?_, ?_, ?_, ?_, ?_, ?_, ?_, ?_, ?_, ?_, ?_, ?_⟩ <;> exact fun h => ⟨_, rfl, run _ _ h⟩
  · exact ⟨_, exec_wordCommand op c b s, runOne_zeroBefore b.val _ _ h⟩

/-- Settles O12: a DW write's effect is that of its LUT or LUTS result, and a sweep that begins loads DWPTR. -/
theorem dwWritesFollowTheirPointer : Obligations.DwWritesFollowTheirPointer := by
  intro s c b o at_ stored
  have written : ∀ {t v sw}, lutEffect s t c b.val v sw true → stored t v := fun h => by
    obtain ⟨-, hdw, -⟩ := h
    obtain ⟨hbit, hptr, -⟩ := hdw rfl
    exact ⟨hbit, hptr⟩
  refine ⟨fun tt x y z w sw h => ⟨_, rfl, ?_⟩, fun tt x y z sw a h => ⟨_, rfl, ?_⟩,
    fun p phys hin hpart hp hgate hhold => ⟨_, rfl, ?_⟩⟩
  · rw [runOne_ready isLut h rfl (.inl rfl)]
    exact written (runBp_lut (runBp_ready h))
  · rw [runOne_ready isLuts h rfl (.inl rfl)]
    exact written (runBp_luts (runBp_ready h))
  · have hn : noStitch s c = false := by simp [noStitch, hpart, hp, hin]
    have hkept : StitchKept (beginSweep s c) (stitch s c { instrEcc := some phys, spareMismatch := false, residue := false }) := by
      rw [← gateEnter_begins hin hpart hp hgate hhold]
      exact (afterGate_stitchKept s c).trans (stitch_unreadable_stitchKept rfl hn)
    refine ⟨?_, ?_⟩
    · rw [hkept.inSweep, beginSweep_inSweep]
    · rw [hkept.dwptr, beginSweep_dwptr s c b.val b.isLt]

end Sys2Proof.Machine
end
